-- ==== Sys2Proof/Word.lean ====
section
/-! DEFINITION. The machine words of the BX960: a 32-bit register word (R12) and a byte. -/

namespace Sys2Proof

/-- A register word, 32 bits (R12). -/
abbrev Word := BitVec 32

/-- A byte of memory, of a frame or of an image. -/
abbrev Byte := BitVec 8

/-- The 48-bit accumulator and rate of an angle domain (R52). -/
abbrev W48 := BitVec 48

end Sys2Proof
end

