-- ==== Sys2Proof/Syntax.lean ====
section
/-! DEFINITION. The commands of the BX960 as a block: one constructor for each row of the table of operations and events. The first operand
of every command is the number of cycles that have passed since the command before it; the others are what the row needs from outside:
an instance, a value at a pin, a frame, or a finding of a measurement. -/

namespace Sys2Proof

/-- What the flash answers to the read of its SFDP structure (R769 to R771): the signature; whether the basic flash parameter table is of JESD216
revision B or later, and its DWORDs; whether an xSPI Profile 1.0 table is present and whether fast read 1-4-4 is declared; and the logarithms of
the density and of the smallest erase size. -/
structure Sfdp where
  sig     : Nat
  revB    : Bool
  dwords  : Nat
  xspi    : Bool
  fast144 : Bool
  dlog    : Nat
  eslog   : Nat
  deriving DecidableEq, Repr

/-- What the self-test of an engine finds (R296): its outputs and state words are those of the ROM, a flip in the lead pass and one in the Echo
pass each raise a mismatch, and exchange words 504 to 511 keep their values under the injections. -/
structure EngineTest where
  outs    : Bool
  leadInj : Bool
  echoInj : Bool
  kept    : Bool
  deriving DecidableEq, Repr

/-- What the test of the safety controller finds: both forms of the ROM test steps agree, and the injected complement error causes a repeated
step (R296). -/
structure CoreTest where
  forms    : Bool
  repeated : Bool
  deriving DecidableEq, Repr

/-- The work of a task step of the safety controller (R291): a refresh of registers with the words that they hold, or the work of the command
of that name. -/
inductive ScTask where
  | refresh (addrs : List Nat)
  | decisionRound
  | ss1MsTick
  | ss1Sto
  | slsCheck
  | torqueLimitWrite
  | sagRestore
  | sagRampTick
  | deferredCommit
  | cmdTrac
  | cmdAux
  | statTrac
  | evt
  | announce
  | eventLogPush
  deriving DecidableEq, Repr

/-- The commands (the table of operations and events). -/
inductive Instr where
  /-- R764. RST_N is asserted or the power-on monitor holds the device, and the BX960 enters RESET with every pin in its reset state. -/
  | resetAssert (dt : Nat) (por : Bool)
  /-- R764. Neither RST_N nor the power-on monitor holds the device any more; the reset sequencer starts on the internal oscillator. -/
  | resetRelease (dt : Nat) (tmode : Bool) (vioA vioC : Nat)
  /-- R32. The PLL locks to the reference and the BX960 moves from RESET to LOAD. -/
  | pllLock (dt : Nat) (trim : List Nat) (trimOk : Bool) (d : Sfdp)
  /-- R33. The XIN reference stops for over 1 us or leaves its band; the PLL switches to the internal oscillator and the axle enters
  AXLE_SAFE. -/
  | referenceLoss (dt : Nat)
  /-- R777. The read of a slot completes and Lantern applies checks 1 to 10 to it. -/
  | slotCheck (dt : Nat) (slotB : Bool) (bytes : List Byte)
  /-- R804. The scan of the fault-log region completes and the write position, SEQ and BOOT are set. -/
  | faultLogScan (dt : Nat) (region : List (Nat × List Byte))
  /-- R740. The SRAM self-test completes and sets STPASS or STFAIL. -/
  | memorySelfTest (dt : Nat) (defect : Option (Nat × Nat))
  /-- R785. Lantern completes its second read of the image and writes the sections into SRAM, checking each SCRC again. -/
  | imageSectionLoad (dt : Nat) (bad : Option Nat)
  /-- R296. The Flowstone and Echo self-test and the safety controller's test complete, and each engine sets STPASS or STFAIL. -/
  | engineSelfTest (dt : Nat) (engs : List EngineTest) (core : CoreTest)
  /-- R603. A comparator self-test reaches cycle 300, restores the input and sets STPASS or STFAIL. -/
  | comparatorSelfTestEnd (dt : Nat) (k : Fin 48) (pass : Bool)
  /-- R602. The 5 ms wait in TEST ends and CMP_UNRES is raised for each unresolved comparator. -/
  | comparatorResolveTimeout (dt : Nat)
  /-- R370. The 10 ms start-up time of a port ends, and every driver that has not completed its steps is FAILED. -/
  | gateLinkStartupTimeout (dt : Nat) (n : Fin 4)
  /-- R659. The STO wire and safe-output start-up test completes. -/
  | safetyIoTest (dt : Nat)
  /-- R125. The 20 ms wait for CONV ends and ADC_FAIL is raised for each converter that has not converged. -/
  | convWaitTimeout (dt : Nat)
  /-- R767. After the waits of TEST, Lantern enables the angle domains, sets DL_CTRL.RUN and starts the modulators. -/
  | domainEnable (dt : Nat)
  /-- R626. The single decision round at the end of TEST puts the targets in force and the BX960 enters READY or AXLE_SAFE. -/
  | testDecisionRound (dt : Nat)
  /-- R57. A measurement reaches an angle domain, which forms the error and corrects or acquires under R58 to R61. -/
  | measurementArrival (dt : Nat) (d : Fin 16) (theta : Word) (age : Fin 4096) (good : Bool)
  /-- R62. No measurement has arrived for UPD_TMO in LOCKED, and the domain enters COAST. -/
  | measurementTimeout (dt : Nat) (d : Fin 16)
  /-- R62. COAST has lasted COAST_MAX and the domain enters LOST. -/
  | coastTimeout (dt : Nat) (d : Fin 16)
  /-- R69. The angle word of a domain reaches AD_BND in its direction of travel. -/
  | domainBoundary (dt : Nat) (d : Fin 16)
  /-- R69. No boundary has occurred for BTMO, and the domain makes a forced boundary. -/
  | forcedBoundary (dt : Nat) (d : Fin 16)
  /-- R70. A rising edge on SYNC_IN is delivered as a measurement to its carrier domain. -/
  | syncInEdge (dt : Nat)
  /-- R707. An earlier commit has taken effect, and the safety controller requests the commit that it held back with the latest accepted
  values. -/
  | deferredCommit (dt : Nat)
  /-- R78. A track's phase passes P; the track fires late entries, increments PCOUNT and starts a new period. -/
  | trackBoundary (dt : Nat) (t : Fin 32)
  /-- R75. An IDLE track finds DIR = 0 and leaves IDLE with a re-seek. -/
  | trackIdleExit (dt : Nat) (t : Fin 32)
  /-- R77. No boundary has occurred on a track for BTMO, and the track re-seeks. -/
  | trackTimeoutReseek (dt : Nat) (t : Fin 32)
  /-- R80. A track's phase reaches an angle entry's OFFSET and the entry fires. -/
  | angleEntryFire (dt : Nat) (t : Fin 32) (perr : Fin 64)
  /-- R84. An entry held back for lack of capacity fires in a later cycle and counts as late. -/
  | lateEntryFire (dt : Nat) (t : Fin 32) (perr : Fin 64)
  /-- R81. The DELAY of an armed delay entry runs out and the entry fires. -/
  | delayEntryFire (dt : Nat) (t : Fin 32) (perr : Fin 64)
  /-- R90. A pending schedule, variant or safe command takes effect at the converter's angle boundary. -/
  | converterAngleBoundary (dt : Nat) (k : Fin 5)
  /-- R128. Action 0x1 starts a sequence once on each converter in the mask. -/
  | seqStart (dt : Nat) (t : Fin 32) (mask : Fin 64) (q : Fin 32) (perr : Fin 64)
  /-- R129. Action 0x2 starts a sequence, opens the fit window, and the fitter snapshots its model ports. -/
  | winOpen (dt : Nat) (t : Fin 32) (mask : Fin 64) (q : Fin 32) (perr : Fin 64)
  /-- R107. Action 0x3 closes the fit window and interleaved sampling resumes. -/
  | winClose (dt : Nat) (mask : Fin 64)
  /-- R207. Action 0x4 dispatches a run of a loop context to its lane queue and latches its domains. -/
  | loopStart (dt : Nat) (t : Fin 32) (c : Fin 384)
  /-- R238. Action 0x5 writes a loop's released outputs to their targets. -/
  | outLoad (dt : Nat) (t : Fin 32) (c : Fin 384)
  /-- R79. Action 0x6 raises the named event. -/
  | event (dt : Nat) (t : Fin 32) (src : Fin 512)
  /-- R749. Action 0x8 pushes a mark entry to a Gallery. -/
  | gqMark (dt : Nat) (t : Fin 32) (g : Fin 64) (v : Fin 65536)
  /-- R254. Action 0x9 advances a profile generator by one step. -/
  | profileTick (dt : Nat) (g : Fin 16)
  /-- R835. Action 0xA copies a domain's angle and rate into a trace slot. -/
  | snapshot (dt : Nat) (d : Fin 16) (slot : Fin 256)
  /-- R320. Strobe code 0x0001 makes a load point on a PG channel. -/
  | pgStrobeLoadPoint (dt : Nat) (c : Fin 40)
  /-- R320. Strobe code 0x0002 empties a PG channel's edge queue. -/
  | pgStrobeEmptyQueue (dt : Nat) (c : Fin 40)
  /-- R320. Strobe code 0x0003 makes a load point and then empties the edge queue. -/
  | pgStrobeLoadAndEmpty (dt : Nat) (c : Fin 40)
  /-- R398. Strobe code 0x0001 makes a modulator evaluate the pulse ratio, the hand-over and the slot targets. -/
  | tmStrobeEvaluation (dt : Nat) (m : Fin 2)
  /-- R394. Strobe code 0x0002 restarts every set of a modulator in DRAPERY mode. -/
  | tmStrobeRestart (dt : Nat) (m : Fin 2)
  /-- R510. Strobe code 0x0001 on line 42 makes the DC/DC block evaluate shedding and adding. -/
  | dcStrobeEvaluation (dt : Nat)
  /-- R560. Strobe code 0x0001 on lines 49 to 52 makes a load point on an actuator channel. -/
  | acStrobeLoadPoint (dt : Nat) (n : Fin 4)
  /-- R133. The corrected codes of a window instant are ready; the window-list results are written and the samples pass to the fitter. -/
  | windowSampleResult (dt : Nat) (n : Fin 6) (raws : List Nat) (perr : Fin 16)
  /-- R133. A once-entry's result register is written 50 cycles after its last sample, and the sequence continues or ends. -/
  | onceEntryResult (dt : Nat) (n : Fin 6) (samples : List (Nat × Nat)) (perr : Bool)
  /-- R136. No WIN_CLOSE has arrived WIN_MAX cycles after the window opened, and the converter closes it. -/
  | windowTimeout (dt : Nat) (n : Fin 6)
  /-- R116. The correction estimator updates the slice coefficients every 256 or 4 096 instants. -/
  | estimatorUpdate (dt : Nat) (n : Fin 6) (deltas : List Int)
  /-- R175. The fitter completes the fit buffer of a window and sets DONE. -/
  | fitComplete (dt : Nat) (f : Fin 6)
  /-- R209. A dispatched run starts on its free lane and executes its stages in both passes. -/
  | runStart (dt : Nat) (n : Fin 4) (l : Fin 2) (faults : List (Nat × Word))
  /-- R210. A run completes; if released, its state words, status and gain schedule are written. -/
  | runComplete (dt : Nat) (n : Fin 4) (l : Fin 2)
  /-- R246. SUPCNT reaches TLIM and FE_SATTMO or FE_FOLLOW is raised. -/
  | supervisionTimeout (dt : Nat) (c : Fin 384)
  /-- R291. The safety controller runs a task step in its lead and Echo forms and releases the compared writes. `f1` and `f2` are
  what breaks in the Echo form of the step and of its repetition: bits that turn over in the words of these numbers. -/
  | safetyControllerStep (dt : Nat) (task : ScTask) (f1 f2 : List (Nat × Word))
  /-- R299. A write of EC_INJ with ARM = 1 arms a fault injection into the next run of a context. -/
  | ecInjArm (dt : Nat) (n : Fin 4) (pass noesc : Bool) (stg : Fin 32) (ctx : Fin 512)
  /-- R316. A channel angle reaches its load angle and the shadows move to the active copies. -/
  | pgLoadPoint (dt : Nat) (c : Fin 40)
  /-- R307. The channel angle passes a compare angle and a reference state changes, with its fine delay. -/
  | referenceEdge (dt : Nat) (c : Fin 40)
  /-- R310. The domain angle reaches the head item of an edge queue and the item fires. -/
  | edgeQueueFire (dt : Nat) (c : Fin 40)
  /-- R313. A write to PG_EQS pushes an item into a channel's edge queue. -/
  | edgeQueuePush (dt : Nat) (c : Fin 40) (x : Word) (sh sl : Bool)
  /-- R321. A requested turn-on appears at its pin once the dead time and the off-confirm of the complement are met. -/
  | turnOn (dt : Nat) (c : Fin 40) (low : Bool)
  /-- R323. The recognised level of an off-confirm input changes after its filter. -/
  | offConfirmChange (dt : Nat) (c : Fin 40) (low on : Bool)
  /-- R325. An output has been deasserted for HSTMO with no off-confirm, so PG_OCMISS is raised and the channel is isolated. -/
  | offConfirmMissing (dt : Nat) (c : Fin 40) (low : Bool)
  /-- R327. An off-confirm is still asserted ONTMO cycles after its output was asserted, and PG_NOON is raised. -/
  | turnOnNotConfirmed (dt : Nat) (c : Fin 40) (low : Bool)
  /-- R644. The internal STO request becomes active or ends, and the STO gate and wires follow. -/
  | stoRequestChange (dt : Nat)
  /-- R352. The port broadcasts ENUM, and each driver takes its position from the counter. -/
  | enum (dt : Nat) (n : Fin 4) (reach : Fin 9)
  /-- R356. HELLO asks a driver for its versions, identity and capabilities. -/
  | hello (dt : Nat) (n : Fin 4) (reach : Fin 9)
  /-- R356. SETVER sets the negotiated version of a driver. -/
  | setver (dt : Nat) (n : Fin 4) (reach : Fin 9)
  /-- R357. A broadcast SETRATE changes the bit rate of the ring. -/
  | setrate (dt : Nat) (n : Fin 4) (reach : Fin 9)
  /-- R351. A READ transaction reads driver registers. -/
  | glRead (dt : Nat) (n : Fin 4) (reach : Fin 9)
  /-- R360. A WRITE transaction writes driver registers, clearing latched flags in versions 1.0 and 1.1. -/
  | glWrite (dt : Nat) (n : Fin 4) (reach : Fin 9)
  /-- R362. A STATUS transaction fetches a driver's status block, and the BX960 reacts to new flags. -/
  | status (dt : Nat) (n : Fin 4) (reach : Fin 9)
  /-- R363. CLEAR clears a driver's latched status flags when a channel is re-armed. -/
  | clear (dt : Nat) (n : Fin 4) (reach : Fin 9)
  /-- R353. A broadcast SNAP makes every driver latch its temperature and supply measurements. -/
  | snap (dt : Nat) (n : Fin 4) (reach : Fin 9)
  /-- R354. The echo and the response of a transaction arrive and are checked. -/
  | glResponse (dt : Nat) (n : Fin 4) (echo resp : List Byte)
  /-- R355. No valid response arrives within RTMO; the transaction is retried or the driver or port is lost. -/
  | glResponseTimeout (dt : Nat) (n : Fin 4)
  /-- R364. The polling spacing runs out and the port sends STATUS to the next driver. -/
  | glPollTimer (dt : Nat) (n : Fin 4)
  /-- R365. GL_n_ALERT_N becomes asserted and the port polls every driver. -/
  | glAlert (dt : Nat) (n : Fin 4) (asserted : Bool)
  /-- R369. Every 10 ms, a port tries to recover its LOST drivers or BROKEN ring. -/
  | glRecoveryTimer (dt : Nat) (n : Fin 4)
  /-- R357. The 1.2 ms wait after a failed rate change ends and the port enumerates again at 5 Mbit/s. -/
  | glRateFallbackWait (dt : Nat) (n : Fin 4)
  /-- R377. A write to TM_UA or TM_UB starts a modulator computation of the set. -/
  | tmReferenceWrite (dt : Nat) (m k : Fin 2) (ua ub : Option Word)
  /-- R380. In cycle w + 24, the modulator writes the carrier compare angles to the channel shadows. -/
  | tmCarrierWrite (dt : Nat) (m k : Fin 2)
  /-- R411. In cycle w + 40, the M, delta and pattern placement take effect and the pattern domain receives its measurement. -/
  | tmDraperyUpdate (dt : Nat) (m k : Fin 2)
  /-- R389. The modulator pushes the next pattern edge within the horizon into a channel's queue. -/
  | draperyEdgePush (dt : Nat) (m k : Fin 2) (p : Fin 3)
  /-- R405. Filling reaches a transition's window start; the common state is checked and the merged edges are pushed. -/
  | transitionWindowStart (dt : Nat) (m k : Fin 2)
  /-- R407. The rotor passes the transition angle and the set's slot becomes the new slot. -/
  | transitionSlotChange (dt : Nat) (m k : Fin 2)
  /-- R407. The rotor passes the window end, XPEND clears and TM_SLOT is raised. -/
  | transitionComplete (dt : Nat) (m k : Fin 2)
  /-- R401. In cycle c + 24 after a mode change, the modulator writes the new control and compare shadows of each set. -/
  | handoverShadowWrite (dt : Nat) (m : Fin 2)
  /-- R401. In cycle c + 25 after a mode change, the modulator makes a load point on each channel of the set. -/
  | handoverLoadPoint (dt : Nat) (m : Fin 2)
  /-- R420. At a step-domain boundary, the field controller computes its ramps, limits, table lookup, state transitions and budget. -/
  | fcStep (dt : Nat) (t : Fin 2) (defect : Bool)
  /-- R421. In cycle c + 48, the compared results of a step are written to the exchange words, or the step is held. -/
  | fcStepWrite (dt : Nat) (t : Fin 2)
  /-- R434. CATCHTMO elapses in CATCH and the field controller returns to OFF. -/
  | catchTimeout (dt : Nat) (t : Fin 2)
  /-- R434. PFWTMO elapses in PREFW and the field controller takes the last choice. -/
  | prefwTimeout (dt : Nat) (t : Fin 2)
  /-- R434. RECTMO elapses in RECAP and the field controller takes the last choice. -/
  | recaptureTimeout (dt : Nat) (t : Fin 2)
  /-- R436. In the cycle after an observer angle write, the field controller delivers it to the rotor domain's measurement port. -/
  | observerDelivery (dt : Nat) (t : Fin 2)
  /-- R464. In cycle w + 24, a good resolver sample is delivered, and the source quality is updated. -/
  | resolverDelivery (dt : Nat) (i : Fin 2)
  /-- R469. A recognised change of A or B counts up or down, or is an illegal transition, and the compare is checked. -/
  | quadratureCount (dt : Nat) (q : Fin 8) (a b i : Bool)
  /-- R473. In the cycle after a count, a referenced decoder delivers the edge position. -/
  | qdDelivery (dt : Nat) (q : Fin 8)
  /-- R479. A gated index occurs; the decoder references, snaps, records an out-of-window offset, or re-bases. -/
  | qdIndex (dt : Nat) (q : Fin 8) (i : Bool)
  /-- R474. No count has come for QHOLD, and the decoder delivers the centre of its state. -/
  | qdHoldDelivery (dt : Nat) (q : Fin 8)
  /-- R485. The CMPW × 4 cycles of a compare pulse run out and QD_q_CMP is deasserted. -/
  | qdComparePulseEnd (dt : Nat) (q : Fin 8)
  /-- R488. The recognised Hall code changes, giving a normal, abnormal or invalid transition and the BLOCK commutation. -/
  | hallTransition (dt : Nat) (h : Fin 4) (hall : Fin 8)
  /-- R488. In the cycle after a normal transition, the triplet delivers the edge angle. -/
  | hallDelivery (dt : Nat) (h : Fin 4)
  /-- R490. No transition has come for HHOLD, and the triplet delivers the centre of its sector. -/
  | hallHoldDelivery (dt : Nat) (h : Fin 4)
  /-- R504. At a DDOM boundary, the DC/DC block updates its states, shares, interleave and ramp. -/
  | dcBoundary (dt : Nat) (defect : Bool)
  /-- R504. In cycle c + 16, the compared results of a DDOM boundary are written, or the boundary is held. -/
  | dcBoundaryWrite (dt : Nat)
  /-- R514. A load step returns every SHEDDING cell to RUN and starts the hold-off. -/
  | loadStep (dt : Nat)
  /-- R514. The SHHOLD hold-off ends and shedding is allowed again. -/
  | shedHoldoffEnd (dt : Nat)
  /-- R517. After ZBLK, the zero-current comparator asserts and the emulation gate closes. -/
  | diodeEmulationClose (dt : Nat) (k : Fin 6) (low : Bool)
  /-- R520. PCTMO elapses in START; precharge fails and a retry wait starts. -/
  | dcPrechargeTimeout (dt : Nat)
  /-- R520. The 1 s retry wait of the DC/DC converter ends. -/
  | dcRetryWaitEnd (dt : Nat)
  /-- R528. At an SDOM boundary, the charger block computes the limits, causes and state transitions. -/
  | chStep (dt : Nat) (defect : Bool)
  /-- R547. In cycle c + 16, the charger writes the loop inputs of the step, or the step is held. -/
  | chLoopInputWrite (dt : Nat)
  /-- R530. A recognised rising pilot edge closes a period, and the period is evaluated and debounced. `v` is the voltage that `CP_IN` takes,
  in units of 10 mV; the edge that it makes is recognised 42 cycles later (R529). -/
  | pilotEdge (dt : Nat) (v : Int)
  /-- R532. With no edge for CPDC, the pilot is evaluated as DC once per millisecond. -/
  | pilotDcEvaluation (dt : Nat)
  /-- R536. Once per millisecond, PP_IN is decoded into a proximity state. `vs` are the 20 conversions, in mV. -/
  | proximityEvaluation (dt : Nat) (vs : List Nat)
  /-- R549. A write to CH_UA or CH_UB starts the PFC compare computation. -/
  | pfcCompute (dt : Nat) (ua ub : Option Word)
  /-- R549. In cycle w + 24, the PFC compare angles are written to the channel shadows. -/
  | pfcShadowWrite (dt : Nat)
  /-- R543. CTMO elapses in REQUEST and the charger halts. -/
  | chRequestTimeout (dt : Nat)
  /-- R543. BUTMO elapses in BUSUP and the charger halts. -/
  | chBusupTimeout (dt : Nat)
  /-- R543. RDTMO elapses in RAMPDN, so the charger returns to CONNECTED and CH_RDTMO is raised. -/
  | chRampdnTimeout (dt : Nat)
  /-- R544. The RETRY wait in HALT ends. -/
  | chRetryWaitEnd (dt : Nat)
  /-- R561. An actuator channel angle reaches 0 and the channel makes its arcs and leg commands active. -/
  | acLoadPoint (dt : Nat) (n : Fin 4)
  /-- R559. The channel angle crosses an arc limit and a leg's reference state changes. -/
  | acArcEdge (dt : Nat) (n : Fin 4)
  /-- R570. A requested actuator turn-on appears once the dead time and the complement's gate monitor are met. -/
  | acTurnOn (dt : Nat) (n : Fin 4) (k : Fin 3) (low : Bool)
  /-- R571. The recognised level of a gate monitor changes after its filter. -/
  | gateMonitorChange (dt : Nat) (n : Fin 4) (k : Fin 3) (low off : Bool)
  /-- R572. A gate is not recognised off AHSTMO cycles after its output was deasserted, and the leg is isolated. -/
  | acGateMissing (dt : Nat) (n : Fin 4) (k : Fin 3) (low : Bool)
  /-- R573. A gate is still off AONTMO cycles after its output was asserted, and AC_NOON is raised. -/
  | acTurnOnNotConfirmed (dt : Nat) (n : Fin 4) (k : Fin 3) (low : Bool)
  /-- R575. The drain-source monitor reads above VDSTH for 8 cycles after blanking, and the leg is isolated.
  The monitor begins or, with `above` false, ceases to read above it. -/
  | acVds (dt : Nat) (n : Fin 4) (k : Fin 3) (low above : Bool)
  /-- R576. A bootstrap reads low for BSFILT + 1 cycles while its high side is on, and the leg is isolated.
  The monitor begins or, with `low` false, ceases to read low. -/
  | acBsuv (dt : Nat) (n : Fin 4) (k : Fin 3) (low : Bool)
  /-- R580. BSPRE has elapsed in PRECH and the channel goes to RUN. -/
  | acPrechargeEnd (dt : Nat) (n : Fin 4)
  /-- R587. Each microsecond ACT_VM is converted, and SUMP_ACT and the over-voltage flag follow. -/
  | actVmConversion (dt : Nat) (v : Fin 4096)
  /-- R588. SUMP_ACT has been on for SMAXON, so it is forced off for SMINOFF. -/
  | sumpActMaxon (dt : Nat)
  /-- R588. The forced off-time SMINOFF of SUMP_ACT ends. -/
  | sumpActMinoffEnd (dt : Nat)
  /-- R596. The recognised state of a comparator changes after its filter. `v` is the code that its input
  takes, in the scale of the input (R595). -/
  | comparatorChange (dt : Nat) (k : Fin 48) (v : Int)
  /-- R598. A write of TRIP = 1 clears the comparator latch when RAWO is deasserted. -/
  | cmpTripClear (dt : Nat) (k : Fin 48)
  /-- R606. A write of START = 1 starts a comparator self-test or is refused with STREF. -/
  | cmpTestStart (dt : Nat) (k : Fin 48)
  /-- R612. RELT has passed with no over-voltage output asserted, and the safety controller releases the over-voltage commands. -/
  | overVoltageRelease (dt : Nat)
  /-- R614. SPCMP has held the chopper on for SPMAXON, so it is forced off for SPMINOFF. -/
  | tractionSumpMaxon (dt : Nat)
  /-- R614. The forced off-time of the traction Sump ends. -/
  | tractionSumpMinoffEnd (dt : Nat)
  /-- R623. Every 400 cycles, the safety controller takes the new events and decides the reactions of each converter. -/
  | decisionRound (dt : Nat)
  /-- R637. The recognised reading of a safety input channel changes and the pair state is evaluated. -/
  | safetyInputChange (dt : Nat) (n : Fin 8) (chB : Bool) (level : Fin 3)
  /-- R639. The discrepancy timer of a pair reaches DISC and the pair enters FAULT. -/
  | discrepancyTimeout (dt : Nat) (n : Fin 8)
  /-- R648. Each millisecond of SS1, the torque limit of each traction controller ramps down. -/
  | ss1MsTick (dt : Nat)
  /-- R648. SS1T has passed since the start of SS1 and the SS1 source of the STO request becomes active. -/
  | ss1Sto (dt : Nat)
  /-- R652. Every 100 us, the speed of each traction controller is checked against SLSLIM. -/
  | slsCheck (dt : Nat)
  /-- R653. SLS checks have failed for SLST and the SLS source of the STO request becomes active. -/
  | slsViolation (dt : Nat) (t : Fin 2)
  /-- R651. The STO request has been active for SBCDLY and the STOD safe outputs are de-energised. -/
  | sbcDelayEnd (dt : Nat)
  /-- R646. An STO wire reads back differently for 8 cycles; both wires are asserted until reset. -/
  | stoReadbackMismatch (dt : Nat) (a b : Bool)
  /-- R650. Once per millisecond, the safety controller writes each TC_SLIM as the smallest limit asked of it. -/
  | torqueLimitWrite (dt : Nat)
  /-- R656. TPER has passed and an energised safe output starts its off-pulse. -/
  | safeOutputTestStart (dt : Nat) (n : Fin 8)
  /-- R656. The TPW off-pulse ends and the stuck check of the readback is made. -/
  | safeOutputPulseEnd (dt : Nat) (n : Fin 8)
  /-- R655. The recognised level of SRB_n changes and the open check is made. -/
  | readbackChange (dt : Nat) (n : Fin 8) (level : Bool)
  /-- R658. TRB passes without the expected readback, giving an open or stuck fault. -/
  | readbackTimeout (dt : Nat) (n : Fin 8)
  /-- R663. Every 4 ms a temperature channel is converted, its validity and level updated. -/
  | temperatureConversion (dt : Nat) (k : Fin 24) (v : Int)
  /-- R667. Every 10 us VSYS is converted, and the sag level may rise. -/
  | vsysConversion (dt : Nat) (v : Fin 65536)
  /-- R667. VSYS has stayed above the threshold plus hysteresis for SAGRT and the sag level falls by one. -/
  | sagRestore (dt : Nat)
  /-- R668. Each millisecond at sag level 4, the traction torque limit ramps toward 0 and then LAST is set. -/
  | sagRampTick (dt : Nat)
  /-- R671. A monitored rail leaves its limits for its filter time and its event and reaction follow. The voltage of `rail` becomes `v`, in 10 mV;
  the filter time follows, and the event with it, in the time of later commands. 0 `VDD_CORE`, 1 `VDD_ANA`, 2 `VDD_IO_A`, 3 `VDD_IO_B`, 4 `VDD_IO_C`, 5 `VDRV`. -/
  | railFault (dt : Nat) (rail : Fin 6) (v : Nat)
  /-- R682. A controller starts to run and deasserts its standby output. -/
  | canStart (dt : Nat) (k : Fin 4)
  /-- R682. 50 us after CAN_n_STB is deasserted, the controller starts bus integration. -/
  | canIntegrationStart (dt : Nat) (k : Fin 4)
  /-- R690. A valid frame is stored into a matching receive buffer or dropped. -/
  | frameReceived (dt : Nat) (k : Fin 4) (ide fdf brs esi rtr res : Bool) (id dlc : Nat) (data : List Byte)
  /-- R686. A transmit buffer's frame completes, loses arbitration or fails, ending or keeping its request. -/
  | frameTransmitted (dt : Nat) (k : Fin 4) (outcome : Fin 3) (ago tdcv : Nat)
  /-- R694. The controller detects a protocol error and updates its error counters and state. -/
  | frameError (dt : Nat) (k : Fin 4) (err : Fin 8) (dataPhase : Bool) (inc : Fin 4)
  /-- R693. After BOHOLD and 128 recessive idle sequences, the controller becomes error-active. -/
  | busOffRecovery (dt : Nat) (k : Fin 4)
  /-- R688. The safety controller withdraws a pending transmit request. -/
  | transmitWithdraw (dt : Nat) (k : Fin 4) (b : Fin 8) (onWire : Bool)
  /-- R691. The safety controller reads a full receive buffer and clears its FULL. -/
  | receiveBufferRead (dt : Nat) (k : Fin 4) (j : Fin 16)
  /-- R707. An accepted CMD_TRAC writes the traction shadows and requests commits. -/
  | cmdTrac (dt : Nat)
  /-- R709. An accepted CMD_AUX writes the auxiliary fields, actuator words and safe-output requests. -/
  | cmdAux (dt : Nat)
  /-- R704. A SESS_REQ OPEN negotiates a version and opens, repeats or fails over the session. -/
  | sessReqOpen (dt : Nat)
  /-- R705. A SESS_REQ CLOSE carries out the loss actions and returns the session to ANNOUNCE. -/
  | sessReqClose (dt : Nat)
  /-- R715. REQ operation RESTART returns the BX960 from AXLE_SAFE to READY when the demands are withdrawn. -/
  | restart (dt : Nat)
  /-- R716. REQ operation REARM asks the safety controller to re-arm isolated channels or legs. -/
  | rearm (dt : Nat)
  /-- R717. REQ operation READREG returns register values without clearing RC fields. -/
  | readreg (dt : Nat)
  /-- R710. Every STATT, the BX960 sends STAT_TRAC and STAT_AUX on the session's paths. -/
  | statTrac (dt : Nat)
  /-- R712. With queued events and an OPEN session, an EVT frame is sent with up to 4 entries. -/
  | evt (dt : Nat)
  /-- R701. Every ANNT in ANNOUNCE or HOLD, a one-shot ANNOUNCE is sent on each path. -/
  | announce (dt : Nat)
  /-- R722. In DEFAULTS, CAN_0 sends ANNOUNCE with DEFAULTS_IN_USE every 100 ms. -/
  | announceDefaults (dt : Nat)
  /-- R718. No valid command of a code arrives for CMDTMO or the controller is bus-off, so the path is lost. -/
  | pathLoss (dt : Nat) (p : Fin 2)
  /-- R719. FOHOLD passes in HOLD without a resume and the loss actions are carried out. -/
  | failoverHoldEnd (dt : Nat)
  /-- R745. An OUT write to GQ_PUSH pushes an item into a Gallery's input buffer. -/
  | gqPush (dt : Nat) (g : Fin 64) (w : Word)
  /-- R745. An OUT write to GQ_PUSHE pushes an item that ends its packet. -/
  | gqPushe (dt : Nat) (g : Fin 64) (w : Word)
  /-- R745. An OUT write to GQ_END pushes an end without an item. -/
  | gqEnd (dt : Nat) (g : Fin 64) (w : Word)
  /-- R747. A Gallery packs the oldest entry of its input buffer into its slots. -/
  | gqPack (dt : Nat) (g : Fin 64)
  /-- R753. A service-port read of GQ_POPTAG pops the oldest closed slot and latches its data. -/
  | gqPoptag (dt : Nat) (g : Fin 64)
  /-- R759. The pointer copies of a Gallery disagree and the Gallery resets in the next cycle. -/
  | gqPointerMismatch (dt : Nat) (g : Fin 64)
  /-- R832. The matrix FIFO's oldest entry is written to GQ_00 as a two-slot packet. -/
  | eventLogPush (dt : Nat)
  /-- R728. A corrected table-memory byte is written back into its failing bank. -/
  | parityWriteBack (dt a : Nat)
  /-- R736. Every SCRUBDIV cycles, the scrubber reads one word and acts on its findings. -/
  | scrubStep (dt : Nat) (ups : List (Nat × Byte × Bool))
  /-- R738. A write of MP_FLIP with ARM = 1 arms a parity inversion for the next write to MP_FLIPA. -/
  | mpFlipArm (dt : Nat) (bank : Fin 4) (mask : Fin 16)
  /-- R806. The BX960 programs the oldest queued fault-log record at the write position. -/
  | faultLogWrite (dt : Nat)
  /-- R807. The program completes, the record is read back, and a failure is counted. -/
  | faultLogReadback (dt : Nat) (good : Bool)
  /-- R806. The erase of the next erase unit completes. -/
  | faultLogErase (dt : Nat)
  /-- R817. A READ frame returns N words with RESP, RIDX and RCRC. -/
  | spRead (dt n addr : Nat) (hcrc : Byte)
  /-- R819. A READS frame returns the shadow copies of commit-group words. -/
  | spReads (dt n addr : Nat) (hcrc : Byte)
  /-- R818. A WRITE frame checks every word against the writability rules and writes all or none. -/
  | spWrite (dt addr : Nat) (ws : List Word) (hcrc dcrc : Byte)
  /-- R815. SP_CS_N is deasserted before the frame's CRC and the frame does nothing. -/
  | spFrameAbort (dt : Nat)
  /-- R820. A write to a register that has no row of its own sets its writable fields, including W1C clears. -/
  | registerWrite (dt a : Nat) (w : Word)
  /-- R821. A write to SP_UNLOCK requests or ends the test-register unlock. -/
  | spUnlock (dt : Nat) (key : Fin 65536) (dur : Fin 1024)
  /-- R822. DUR seconds pass since the grant and the unlock ends. -/
  | unlockEnd (dt : Nat)
  /-- R823. A write of 0x5253 to SYS_RST resets the BX960 in DEFAULTS or AXLE_SAFE. -/
  | sysRst (dt : Nat)
  /-- R824. A write to CG_REQ captures and checks a commit group's shadow copy. -/
  | cgReq (dt : Nat) (g : Fin 1024)
  /-- R837. A write of ARM = 1 starts the trace recorder. -/
  | trArm (dt : Nat)
  /-- R837. A write of FORCE = 1 triggers the trace recorder. -/
  | trForce (dt : Nat)
  /-- R836. At each TDOM boundary, the running recorder writes one record and may end. -/
  | traceRecord (dt : Nat)
  /-- R800. A write of LT_CTL.FREL releases or reclaims the flash pins. -/
  | frel (dt : Nat) (on : Bool)
  /-- R801. OTP_PROG operation 1 programs the image key and sets KEYF. -/
  | otpProgramKey (dt : Nat) (pcode : Fin 65536)
  /-- R801. OTP_PROG operation 2 sets FRELDIS. -/
  | otpSetFreldis (dt : Nat) (pcode : Fin 65536)
  /-- R801. OTP_PROG operation 3 sets FMT2DIS. -/
  | otpSetFmt2dis (dt : Nat) (pcode : Fin 65536)
  /-- R801. An OTP program operation completes and its result is verified, setting PERR on failure. -/
  | otpProgramComplete (dt : Nat) (good : Bool)
  /-- R598. The BLK cycles of a blanked comparator run out while RAWO is still asserted, and the latch sets in that cycle as a trip with
  its action. -/
  | blankingEnd (dt : Nat) (k : Fin 48)
  /-- R682. A CAN controller that is integrating sees 11 consecutive recessive bits and becomes error-active, able to send and receive. -/
  | busIntegrationEnd (dt : Nat) (k : Fin 4)
  /-- R764. 20 us after reset release the BX960 deasserts FL_RST_N. -/
  | flashResetRelease (dt : Nat)
  /-- R456. Every cycle whose number is a multiple of 20, an enabled resolver interface updates its excitation output from the angle of
  EDOM. -/
  | excitationUpdate (dt : Nat) (i : Fin 2)
  /-- R818. A service-port frame with opcode 0 or 4 to 7 does nothing and returns RESP 0x03 in the byte positions of a READ. -/
  | spReservedOpcode (dt : Nat) (op : Fin 8) (n addr : Nat) (hcrc : Byte)
  deriving DecidableEq, Repr

end Sys2Proof
end

