-- ==== Sys2Proof/Machine/Bits.lean ====
section
/-! DEFINITION. Bit fields, sign extension, byte order (R3, R12): the plain helpers that every block uses. -/

namespace Sys2Proof.Machine

/-- A field of a register: the register's byte address, the field's least significant bit and its width (R12). -/
structure Fld where
  addr  : Nat
  lsb   : Nat
  width : Nat
  deriving DecidableEq, Repr

/-- The bits `[lsb + width - 1 : lsb]` of a natural number. -/
def bitsOf (x lsb width : Nat) : Nat := x / 2 ^ lsb % 2 ^ width

/-- Bit `i` of a natural number. -/
def bitOf (x i : Nat) : Bool := x / 2 ^ i % 2 == 1

/-- `x` with the bits `[lsb + width - 1 : lsb]` replaced by `v` (taken modulo `2 ^ width`). -/
def putBits (x lsb width v : Nat) : Nat :=
  x - bitsOf x lsb width * 2 ^ lsb + v % 2 ^ width * 2 ^ lsb

/-- The field of a word, as a number. -/
def Word.get (w : Word) (lsb width : Nat) : Nat := bitsOf w.toNat lsb width

/-- The word with one field replaced. -/
def Word.put (w : Word) (lsb width v : Nat) : Word := BitVec.ofNat 32 (putBits w.toNat lsb width v)

/-- A number of `width` bits read as two's complement. -/
def signed (width x : Nat) : Int :=
  if x % 2 ^ width < 2 ^ (width - 1) then (x % 2 ^ width : Nat) else (x % 2 ^ width : Nat) - (2 ^ width : Nat)

/-- The two's-complement code of `width` bits of an integer (modulo `2 ^ width`). -/
def code (width : Nat) (x : Int) : Nat := (x % (2 ^ width : Nat)).toNat

/-- A word of an integer, modulo `2 ^ 32`. -/
def wordOf (x : Int) : Word := BitVec.ofInt 32 x

/-- The Boolean as one bit. -/
def b2n (b : Bool) : Nat := if b then 1 else 0

/-- Four bytes, the lowest address first, as one little-endian word (R3). -/
def le32 (b0 b1 b2 b3 : Byte) : Word := b3 ++ b2 ++ b1 ++ b0

/-- Byte `k` of a word, byte 0 the least significant (R3). -/
def byteOf (w : Word) (k : Nat) : Byte := BitVec.ofNat 8 (w.toNat / 2 ^ (8 * k))

/-- A little-endian number read from bytes, the lowest address first (R3). -/
def leNat : List Byte → Nat
  | [] => 0
  | b :: bs => b.toNat + 256 * leNat bs

/-- The `n` little-endian bytes of a number (R3). -/
def leBytes : Nat → Nat → List Byte
  | 0, _ => []
  | n + 1, x => BitVec.ofNat 8 x :: leBytes n (x / 256)

/-- The positions below `n` whose bit is set in `x`, in ascending order. -/
def bitList (x n : Nat) : List Nat := (List.range n).filter (bitOf x)

/-- The cycles of one microsecond, and of one millisecond, at 400 MHz (R11, "Numbers and units"). -/
def cyclesPerUs : Nat := 400
def cyclesPerMs : Nat := 400000

end Sys2Proof.Machine
end

