-- ==== Sys2Proof/Machine/Arith.lean ====
section
/-! DEFINITION. The arithmetic of signals, coefficients and angle words (R4 to R11, R213, R214). Every value is an exact integer and
is narrowed explicitly. -/

namespace Sys2Proof.Machine

/-- The largest signal, 2³¹ − 1 (R4). -/
def sMax : Int := 2 ^ 31 - 1

/-- `v` limited to `lo … hi`. -/
def clampI (lo hi v : Int) : Int := if v < lo then lo else if v > hi then hi else v

/-- Limits a value to the signal range (R213). -/
def sat32 (v : Int) : Int := clampI (-sMax) sMax v

/-- Limits a value to the 72-bit accumulator (R214). -/
def sat72 (v : Int) : Int := clampI (-(2 ^ 71 - 1)) (2 ^ 71 - 1) v

/-- Limits a 64-bit state value ("(64)" in R232 to R234). -/
def sat64 (v : Int) : Int := clampI (-(2 ^ 63 - 1)) (2 ^ 63 - 1) v

/-- The sign of an integer as −1, 0 or 1. -/
def sgn (v : Int) : Int := if v < 0 then -1 else if v > 0 then 1 else 0

/-- Rounding by `n` bits, symmetric about zero (R213). -/
def rnd (v : Int) (n : Nat) : Int :=
  match n with
  | 0 => v
  | n + 1 => sgn v * (((v.natAbs + 2 ^ n) / 2 ^ (n + 1) : Nat) : Int)

/-- A coefficient: mantissa and shift (R6). -/
structure Coeff where
  m : Int
  s : Int
  deriving DecidableEq, Repr

/-- Shift left for a non-negative exponent, rounding right shift for a negative one. -/
def shlRnd (v : Int) (e : Int) : Int := if 0 ≤ e then v * 2 ^ e.toNat else rnd v (-e).toNat

/-- term(x, c) of R213, limited under R214. -/
def term (x : Int) (c : Coeff) : Int := sat72 (shlRnd (x * c.m) (c.s - 7))

/-- prod(x, y) of R213. -/
def prod (x y : Int) : Int := sat72 (x * y)

/-- mulA(a, c) of R213. -/
def mulA (a : Int) (c : Coeff) : Int := sat72 (rnd (a * c.m) (31 - c.s).toNat)

/-- q(a) of R213. -/
def qRaw (a : Int) : Int := rnd a 24
def q (a : Int) : Int := sat32 (qRaw a)

/-- The sum and the difference of accumulator values (R214). -/
def addA (a b : Int) : Int := sat72 (a + b)
def subA (a b : Int) : Int := sat72 (a - b)

/-- floor((x × m + 2^(k−1)) ÷ 2^k): the scaling of R111, R167 and R180, with k of 1 or more. -/
def scaleK (x m : Int) (k : Nat) : Int := (x * m + 2 ^ (k - 1)) / 2 ^ k

/-- round(a ÷ b) of R167, for b > 0: floor((a + floor(b ÷ 2)) ÷ b). -/
def roundDiv (a b : Int) : Int := (a + b / 2) / b

/-- Division that truncates toward zero. -/
def truncDiv (a b : Int) : Int := Int.tdiv a b

/-- The signed 32-bit difference of two angle words (R10). -/
def angDiff (a b : Word) : Int := (a - b).toInt

/-- The digits of a square root below bit `k`, added to the part `r` found so far. -/
def isqrtFrom (n : Nat) : Nat → Nat → Nat
  | 0, r => r
  | k + 1, r => isqrtFrom n k (if (r + 2 ^ k) * (r + 2 ^ k) ≤ n then r + 2 ^ k else r)

/-- isqrt of R254: the floor of the exact square root, for operands below 2¹⁴⁰. -/
def isqrt (n : Nat) : Nat := isqrtFrom n 70 0

/-- The angle word of a 48-bit accumulator (R52). -/
def angleOf (acc : W48) : Word := acc.extractLsb' 16 32

/-- The signed 32-bit value of a signal operand, with the code 0x8000_0000 replaced (R216). -/
def sigOf (w : Word) : Int := if w = 0x80000000#32 then -sMax else w.toInt

end Sys2Proof.Machine
end

