-- ==== Sys2Proof/Config.lean ====
section
/-! DEFINITION. What the manual leaves open: values that a part, its board or its surroundings fix, and values that no rule
states. Each is an opaque constant, so that no proof can know it. -/

namespace Sys2Proof.Config

/-- A fresh value for a result that the manual leaves open, indexed by the counter `State.freeCtr`.
DESIGN CHOICE, safe (log entry 9). -/
opaque freeWord : Nat → Word

end Sys2Proof.Config
end

