-- ==== Sys2Proof/Machine/Events.lean ====
section
/-! DEFINITION. The event sources (R834), and the severity and the level that the chapters' event tables give each of them. -/

namespace Sys2Proof.Machine.Ev

/-- A source of the event matrix: its number (R834), its severity (0 info, 1 warning, 2 degrade, 3 fault) and its containment
level. -/
structure Src where
  num : Nat
  sev : Nat
  lvl : Nat
  deriving DecidableEq, Repr

def SP_CRCERR : Src := ⟨0x000, 1, 5⟩
def SP_DENY : Src := ⟨0x001, 1, 5⟩
def SP_UNL : Src := ⟨0x002, 0, 5⟩
def CG_REJ : Src := ⟨0x003, 1, 5⟩
def CG_BUSY : Src := ⟨0x004, 1, 5⟩
def TR_DONE : Src := ⟨0x005, 0, 5⟩
def EV_SEAL : Src := ⟨0x006, 0, 5⟩
def LT_SLOTB : Src := ⟨0x010, 1, 5⟩
def LT_FLDROP : Src := ⟨0x011, 1, 5⟩
def LT_FLERR : Src := ⟨0x012, 1, 5⟩
def LT_TRIM : Src := ⟨0x013, 2, 5⟩
def LT_FLSTOP : Src := ⟨0x014, 2, 5⟩
def LT_LDERR : Src := ⟨0x015, 3, 5⟩
def LT_DEFAULTS : Src := ⟨0x016, 3, 5⟩
def AD_LOCK : Src := ⟨0x020, 0, 3⟩
def AD_COAST : Src := ⟨0x021, 1, 3⟩
def AD_LOST : Src := ⟨0x022, 2, 3⟩
def AD_SRCSW : Src := ⟨0x023, 2, 3⟩
def AD_JUMP : Src := ⟨0x024, 1, 3⟩
def AD_RSAT : Src := ⟨0x025, 1, 3⟩
def AD_DIR : Src := ⟨0x026, 0, 3⟩
def DL_LATE : Src := ⟨0x027, 1, 3⟩
def DL_OVR : Src := ⟨0x028, 1, 3⟩
def DL_RDERR : Src := ⟨0x029, 2, 3⟩
def DL_FORCED : Src := ⟨0x02A, 0, 3⟩
def ADC_CONV : Src := ⟨0x030, 0, 3⟩
def ADC_SOVR : Src := ⟨0x031, 1, 3⟩
def ADC_WTMO : Src := ⟨0x032, 1, 3⟩
def ADC_CLIP : Src := ⟨0x033, 1, 3⟩
def ADC_TQDROP : Src := ⟨0x034, 1, 3⟩
def ADC_SLEX : Src := ⟨0x035, 2, 3⟩
def ADC_OPEN : Src := ⟨0x036, 2, 3⟩
def ADC_XERR : Src := ⟨0x037, 2, 3⟩
def ADC_PERR : Src := ⟨0x038, 2, 3⟩
def ADC_FAIL : Src := ⟨0x039, 3, 3⟩
def FIT_SEGOVF : Src := ⟨0x040, 0, 3⟩
def FIT_REFINV : Src := ⟨0x041, 1, 3⟩
def FIT_KFAIL : Src := ⟨0x042, 1, 3⟩
def FIT_MODEL : Src := ⟨0x043, 1, 3⟩
def FIT_OPEN : Src := ⟨0x044, 2, 3⟩
def FIT_DEAD : Src := ⟨0x045, 2, 3⟩
def FIT_FAIL : Src := ⟨0x046, 3, 3⟩
def FE_GSCHG : Src := ⟨0x050, 0, 3⟩
def PF_DONE : Src := ⟨0x051, 0, 3⟩
def FE_QOVR : Src := ⟨0x052, 1, 3⟩
def FE_STALE : Src := ⟨0x053, 1, 3⟩
def FE_NEGMAX : Src := ⟨0x054, 1, 3⟩
def FE_REFINV : Src := ⟨0x055, 2, 3⟩
def FE_SATTMO : Src := ⟨0x056, 2, 3⟩
def FE_FOLLOW : Src := ⟨0x057, 2, 3⟩
def FE_BUSERR : Src := ⟨0x058, 2, 3⟩
def FE_OVRESC : Src := ⟨0x059, 3, 3⟩
def EC_MIS : Src := ⟨0x060, 1, 3⟩
def EC_ESC : Src := ⟨0x061, 3, 3⟩
def EC_STFAIL : Src := ⟨0x062, 3, 4⟩
def EC_SCMIS : Src := ⟨0x063, 1, 5⟩
def EC_SCFAIL : Src := ⟨0x064, 3, 5⟩
def PG_OCMISS : Src := ⟨0x070, 2, 1⟩
def PG_FORCEOFF : Src := ⟨0x071, 2, 1⟩
def PG_NOON : Src := ⟨0x072, 1, 1⟩
def PG_STGUARD : Src := ⟨0x073, 2, 2⟩
def PG_ISO : Src := ⟨0x074, 2, 2⟩
def PG_ELATE : Src := ⟨0x075, 1, 3⟩
def PG_EQOVF : Src := ⟨0x076, 1, 3⟩
def GL_DESAT : Src := ⟨0x080, 2, 1⟩
def GL_UVLO : Src := ⟨0x081, 2, 1⟩
def GL_OTS : Src := ⟨0x082, 2, 1⟩
def GL_GMON : Src := ⟨0x083, 2, 1⟩
def GL_OTW : Src := ⟨0x084, 1, 1⟩
def GL_CFGERR : Src := ⟨0x085, 1, 1⟩
def GL_RST : Src := ⟨0x086, 1, 1⟩
def GL_NRDY : Src := ⟨0x087, 1, 1⟩
def GL_STOMIS : Src := ⟨0x088, 1, 5⟩
def GL_LOST : Src := ⟨0x089, 1, 1⟩
def GL_RECOV : Src := ⟨0x08A, 0, 1⟩
def GL_PORTLOST : Src := ⟨0x08B, 2, 3⟩
def GL_RATEFB : Src := ⟨0x08C, 1, 3⟩
def GL_NEGFAIL : Src := ⟨0x08D, 3, 2⟩
def TM_HREQ : Src := ⟨0x090, 0, 4⟩
def TM_MODE : Src := ⟨0x091, 0, 4⟩
def TM_SLOT : Src := ⟨0x092, 0, 3⟩
def TM_LIM : Src := ⟨0x093, 1, 3⟩
def TM_VDCBAD : Src := ⟨0x094, 1, 3⟩
def TM_XOVR : Src := ⟨0x095, 1, 3⟩
def TM_CSMIS : Src := ⟨0x096, 1, 3⟩
def TM_QLOW : Src := ⟨0x097, 1, 3⟩
def TM_RDERR : Src := ⟨0x098, 2, 3⟩
def TC_STATE : Src := ⟨0x0A0, 0, 4⟩
def TC_RECAP : Src := ⟨0x0A1, 0, 4⟩
def TC_SETCLIP : Src := ⟨0x0A2, 0, 4⟩
def TC_RESTORE : Src := ⟨0x0A3, 0, 4⟩
def TC_CATCHF : Src := ⟨0x0A4, 1, 4⟩
def TC_VLIM : Src := ⟨0x0A5, 1, 4⟩
def TC_DERATE : Src := ⟨0x0A6, 1, 4⟩
def TC_MIS : Src := ⟨0x0A7, 1, 4⟩
def TC_POSLOSS : Src := ⟨0x0A8, 2, 4⟩
def TC_PFWF : Src := ⟨0x0A9, 2, 4⟩
def TC_RECAPF : Src := ⟨0x0AA, 2, 4⟩
def TC_RDERR : Src := ⟨0x0AB, 2, 4⟩
def TC_HOLDESC : Src := ⟨0x0AC, 3, 4⟩
def RS_GOOD : Src := ⟨0x0B0, 0, 3⟩
def RS_DEGR : Src := ⟨0x0B1, 2, 3⟩
def RS_FAIL : Src := ⟨0x0B2, 3, 3⟩
def QD_GOOD : Src := ⟨0x0B3, 0, 3⟩
def QD_DEGR : Src := ⟨0x0B4, 2, 3⟩
def QD_FAIL : Src := ⟨0x0B5, 3, 3⟩
def QD_REF : Src := ⟨0x0B6, 0, 3⟩
def QD_CMP : Src := ⟨0x0B7, 0, 3⟩
def QD_ILL : Src := ⟨0x0B8, 1, 3⟩
def QD_REBASE : Src := ⟨0x0B9, 1, 3⟩
def QD_IDXERR : Src := ⟨0x0BA, 2, 3⟩
def QD_IDXMISS : Src := ⟨0x0BB, 2, 3⟩
def HL_GOOD : Src := ⟨0x0C0, 0, 3⟩
def HL_DEGR : Src := ⟨0x0C1, 2, 3⟩
def HL_FAIL : Src := ⟨0x0C2, 3, 3⟩
def HL_INV : Src := ⟨0x0C3, 1, 3⟩
def HL_SEQ : Src := ⟨0x0C4, 1, 3⟩
def DC_SHED : Src := ⟨0x0D0, 0, 3⟩
def DC_ADD : Src := ⟨0x0D1, 0, 3⟩
def DC_CELLOFF : Src := ⟨0x0D2, 0, 3⟩
def DC_STATE : Src := ⟨0x0D3, 0, 4⟩
def DC_ABORT : Src := ⟨0x0D4, 1, 3⟩
def DC_FRQ : Src := ⟨0x0D5, 1, 4⟩
def DC_VBAD : Src := ⟨0x0D6, 1, 4⟩
def DC_MIS : Src := ⟨0x0D7, 1, 4⟩
def DC_PCFAIL : Src := ⟨0x0D8, 2, 4⟩
def DC_HOLDESC : Src := ⟨0x0D9, 3, 4⟩
def CH_STATE : Src := ⟨0x0E0, 0, 4⟩
def CH_CPST : Src := ⟨0x0E1, 0, 4⟩
def CH_PPST : Src := ⟨0x0E2, 0, 4⟩
def CH_TEMP : Src := ⟨0x0E3, 0, 4⟩
def CH_PHREQ : Src := ⟨0x0E4, 0, 4⟩
def CH_TAPER : Src := ⟨0x0E5, 0, 4⟩
def CH_LIM : Src := ⟨0x0E6, 1, 3⟩
def CH_VBAD : Src := ⟨0x0E7, 1, 4⟩
def CH_RDTMO : Src := ⟨0x0E8, 1, 4⟩
def CH_MIS : Src := ⟨0x0E9, 1, 4⟩
def CH_HALT : Src := ⟨0x0EA, 2, 4⟩
def CH_HOLDESC : Src := ⟨0x0EB, 3, 4⟩
def AC_STATE : Src := ⟨0x0F0, 0, 3⟩
def AC_CAP : Src := ⟨0x0F1, 0, 3⟩
def AC_NOON : Src := ⟨0x0F2, 1, 1⟩
def AC_GMMISS : Src := ⟨0x0F3, 2, 1⟩
def AC_VDS : Src := ⟨0x0F4, 2, 1⟩
def AC_STGUARD : Src := ⟨0x0F5, 2, 2⟩
def AC_BSUV : Src := ⟨0x0F6, 2, 2⟩
def AC_ISO : Src := ⟨0x0F7, 2, 2⟩
def AC_HALL : Src := ⟨0x0F8, 1, 3⟩
def AC_SMAX : Src := ⟨0x0F9, 1, 4⟩
def AC_VMOV : Src := ⟨0x0FA, 2, 4⟩
def CMP_CBC : Src := ⟨0x100, 0, 2⟩
def CMP_TRIP : Src := ⟨0x101, 1, 3⟩
def CMP_UNRES : Src := ⟨0x102, 2, 3⟩
def CMP_STFAIL : Src := ⟨0x103, 2, 3⟩
def PR_SHORT : Src := ⟨0x104, 2, 2⟩
def PR_CONV : Src := ⟨0x105, 3, 4⟩
def PR_OV : Src := ⟨0x106, 3, 4⟩
def PR_OVCLR : Src := ⟨0x107, 0, 4⟩
def PR_SUMPMAX : Src := ⟨0x108, 1, 4⟩
def PR_SUMPF : Src := ⟨0x109, 3, 4⟩
def FR_VARCHG : Src := ⟨0x10A, 0, 3⟩
def FR_NOVAR : Src := ⟨0x10B, 2, 4⟩
def SI_CHG : Src := ⟨0x110, 0, 5⟩
def SI_UNRES : Src := ⟨0x111, 2, 5⟩
def SI_DISC : Src := ⟨0x112, 2, 5⟩
def SF_SS1 : Src := ⟨0x113, 0, 4⟩
def SF_SLSV : Src := ⟨0x114, 2, 4⟩
def SF_STOFB : Src := ⟨0x115, 3, 5⟩
def SF_STODRV : Src := ⟨0x116, 3, 5⟩
def SO_OPEN : Src := ⟨0x117, 2, 5⟩
def SO_STUCK : Src := ⟨0x118, 3, 5⟩
def TS_WARN : Src := ⟨0x120, 1, 3⟩
def TS_THROT : Src := ⟨0x121, 2, 3⟩
def TS_SHUT : Src := ⟨0x122, 3, 4⟩
def TS_INV : Src := ⟨0x123, 2, 3⟩
def TS_NVM : Src := ⟨0x124, 1, 5⟩
def SUP_SAG : Src := ⟨0x125, 1, 5⟩
def SUP_CORE : Src := ⟨0x126, 3, 5⟩
def SUP_ANA : Src := ⟨0x127, 3, 5⟩
def SUP_IO : Src := ⟨0x128, 3, 5⟩
def SUP_VDRV : Src := ⟨0x129, 2, 4⟩
def CAN_EWARN : Src := ⟨0x130, 1, 5⟩
def CAN_EPASS : Src := ⟨0x131, 1, 5⟩
def CAN_BOFF : Src := ⟨0x132, 2, 5⟩
def CAN_RECOV : Src := ⟨0x133, 0, 5⟩
def CAN_RXOVF : Src := ⟨0x134, 1, 5⟩
def CAN_PXE : Src := ⟨0x135, 0, 5⟩
def AL_OPEN : Src := ⟨0x136, 0, 5⟩
def AL_CLOSE : Src := ⟨0x137, 0, 5⟩
def AL_FAILOVER : Src := ⟨0x138, 0, 5⟩
def AL_PATH : Src := ⟨0x139, 1, 5⟩
def AL_LOSS : Src := ⟨0x13A, 1, 5⟩
def AL_FMT : Src := ⟨0x13B, 1, 5⟩
def AL_EVLOST : Src := ⟨0x13C, 1, 5⟩
def MP_CORR : Src := ⟨0x140, 0, 5⟩
def MP_LATENT : Src := ⟨0x141, 1, 5⟩
def MP_MIRDIF : Src := ⟨0x142, 1, 5⟩
def MP_HARD : Src := ⟨0x143, 1, 5⟩
def MP_UNCORR : Src := ⟨0x144, 2, 5⟩
def MP_STFAIL : Src := ⟨0x145, 3, 5⟩
def GQ_DROP : Src := ⟨0x146, 1, 3⟩
def GQ_PERR : Src := ⟨0x147, 1, 3⟩
def GQ_PTRERR : Src := ⟨0x148, 2, 3⟩

/-- The source numbers that R834 gives, as ranges of its groups: first source and count. -/
def given : List (Nat × Nat) := [
  (0x000, 7), (0x010, 7), (0x020, 11), (0x030, 10), (0x040, 7), (0x050, 10), (0x060, 5), (0x070, 7), (0x080, 14), (0x090, 9), (0x0A0, 13), (0x0B0, 12), (0x0C0, 5), (0x0D0, 10), (0x0E0, 12), (0x0F0, 11), (0x100, 12), (0x110, 9), (0x120, 10), (0x130, 13), (0x140, 9)]

/-- Whether R834 gives the source number; every other number is reserved and is never raised. -/
def isGiven (n : Nat) : Bool := given.any fun p => p.1 ≤ n && n < p.1 + p.2

end Sys2Proof.Machine.Ev
end

