-- ==== Sys2Proof/Machine/Regs.lean ====
section
/-! DEFINITION. The register map: the address of every register of the manual (R12), each under the manual's own
name, with the chapters' instance strides, and its fields. The words of a loop context (`CX_…`) stand here too, at their
addresses in loop context memory (R217). -/

namespace Sys2Proof.Machine.Reg

-- spec/02_angle_domains_dripline.md
def AD_CFG (n : Nat) : Nat := 0x010000 + n * 0x40
def AD_GAIN (n : Nat) : Nat := 0x010004 + n * 0x40
def AD_WIN (n : Nat) : Nat := 0x010008 + n * 0x40
def AD_TIME (n : Nat) : Nat := 0x01000C + n * 0x40
def AD_RSET_HI (n : Nat) : Nat := 0x010010 + n * 0x40
def AD_RSET_LO (n : Nat) : Nat := 0x010014 + n * 0x40
def AD_RMAX (n : Nat) : Nat := 0x010018 + n * 0x40
def AD_BND (n : Nat) : Nat := 0x01001C + n * 0x40
def AD_OFS (n : Nat) : Nat := 0x010020 + n * 0x40
def AD_THR (n : Nat) : Nat := 0x010024 + n * 0x40
def AD_CTRL (n : Nat) : Nat := 0x010028 + n * 0x40
def AD_ANGLE (n : Nat) : Nat := 0x01002C + n * 0x40
def AD_RATE_HI (n : Nat) : Nat := 0x010030 + n * 0x40
def AD_RATE_LO (n : Nat) : Nat := 0x010034 + n * 0x40
def AD_ERR (n : Nat) : Nat := 0x010038 + n * 0x40
def AD_STAT (n : Nat) : Nat := 0x01003C + n * 0x40
def DL_CTRL : Nat := 0x010800
def DL_CNT : Nat := 0x010804
def DL_RDERR : Nat := 0x010808
def DL_TRK_CFG (n : Nat) : Nat := 0x011000 + n * 0x20
def DL_TRK_BASE (n : Nat) : Nat := 0x011004 + n * 0x20
def DL_TRK_SCHED (n : Nat) : Nat := 0x011008 + n * 0x20
def DL_TRK_PCOUNT (n : Nat) : Nat := 0x01100C + n * 0x20
def DL_TRK_PHASE (n : Nat) : Nat := 0x011010 + n * 0x20
def DL_TRK_FLAG (n : Nat) : Nat := 0x011014 + n * 0x20
-- spec/03_conversion_subsystem.md
def ADC_CTRL (n : Nat) : Nat := 0x020000 + n * 0x1000
def ADC_STAT (n : Nat) : Nat := 0x020004 + n * 0x1000
def ADC_CNT (n : Nat) : Nat := 0x020008 + n * 0x1000
def ADC_TQCNT (n : Nat) : Nat := 0x02000C + n * 0x1000
def ADC_CORR (n : Nat) : Nat := 0x020100 + n * 0x1000
def ADC_CORR_LIM (n : Nat) : Nat := 0x020104 + n * 0x1000
def ADC_SL_OFS (n : Nat) (k : Nat) : Nat := 0x020110 + n * 0x1000 + k * 0x10
def ADC_SL_GERR (n : Nat) (k : Nat) : Nat := 0x020114 + n * 0x1000 + k * 0x10
def ADC_SL_SKEW (n : Nat) (k : Nat) : Nat := 0x020118 + n * 0x1000 + k * 0x10
def ADC_SL_STAT (n : Nat) (k : Nat) : Nat := 0x02011C + n * 0x1000 + k * 0x10
def ADC_SEQ (n : Nat) (k : Nat) : Nat := 0x020200 + n * 0x1000 + k * 0x4
def ADC_ENT (n : Nat) (k : Nat) : Nat := 0x020400 + n * 0x1000 + k * 0x4
def ADC_RESV (n : Nat) (k : Nat) (j : Nat) : Nat := 0x020800 + n * 0x1000 + k * 0x200 + j * 0x8
def ADC_RESC (n : Nat) (k : Nat) (j : Nat) : Nat := 0x020804 + n * 0x1000 + k * 0x200 + j * 0x8
def AIN_CFG (n : Nat) : Nat := 0x026000 + n * 0x10
def AIN_OFS (n : Nat) : Nat := 0x026004 + n * 0x10
def AIN_GM (n : Nat) : Nat := 0x026008 + n * 0x10
def AIN_GS (n : Nat) : Nat := 0x02600C + n * 0x10
def XC_CFG (n : Nat) : Nat := 0x027000 + n * 0x10
def XC_STAT (n : Nat) : Nat := 0x027004 + n * 0x10
def ADC_OW : Nat := 0x027100
def ADC_OWCNT : Nat := 0x027104
-- spec/04_current_capture.md
def FIT_CFG (n : Nat) : Nat := 0x028000 + n * 0x100
def FIT_PG (n : Nat) : Nat := 0x028004 + n * 0x100
def FIT_TIME (n : Nat) : Nat := 0x028008 + n * 0x100
def FIT_OP (n : Nat) : Nat := 0x02800C + n * 0x100
def FIT_TH (n : Nat) : Nat := 0x028010 + n * 0x100
def FIT_SM (n : Nat) : Nat := 0x028014 + n * 0x100
def FIT_YM (n : Nat) : Nat := 0x028018 + n * 0x100
def FIT_YS (n : Nat) : Nat := 0x02801C + n * 0x100
def FIT_LDV (n : Nat) : Nat := 0x028020 + n * 0x100
def FIT_MEMF (n : Nat) (k : Nat) : Nat := 0x028030 + n * 0x100 + k * 0x4
def FIT_MVDC (n : Nat) : Nat := 0x02803C + n * 0x100
def FIT_STAT (n : Nat) : Nat := 0x028040 + n * 0x100
def FIT_CNT (n : Nat) : Nat := 0x028044 + n * 0x100
def FIT_PCNT (n : Nat) : Nat := 0x028048 + n * 0x100
-- spec/05_flowstone_engines.md
def AD_MPORT_ANG (n : Nat) : Nat := 0x010400 + n * 0x8
def AD_MPORT_AGE (n : Nat) : Nat := 0x010404 + n * 0x8
def FE_CFG (n : Nat) : Nat := 0x030000 + n * 0x40
def FE_STAT (n : Nat) : Nat := 0x030004 + n * 0x40
def FE_RUNS (n : Nat) : Nat := 0x030008 + n * 0x40
def FE_MAXLAT (n : Nat) : Nat := 0x03000C + n * 0x40
def FE_FLAG (n : Nat) : Nat := 0x030010 + n * 0x40
def FE_CNT (n : Nat) : Nat := 0x030014 + n * 0x40
def FE_LASTCTX (n : Nat) : Nat := 0x030018 + n * 0x40
def FF_CFG (n : Nat) : Nat := 0x030400 + n * 0x4
def PF_CFG (n : Nat) : Nat := 0x058000 + n * 0x40
def PF_TGT (n : Nat) : Nat := 0x058004 + n * 0x40
def PF_VM (n : Nat) : Nat := 0x058008 + n * 0x40
def PF_AM (n : Nat) : Nat := 0x05800C + n * 0x40
def PF_JM (n : Nat) : Nat := 0x058010 + n * 0x40
def PF_SH (n : Nat) : Nat := 0x058014 + n * 0x40
def PF_TOL (n : Nat) : Nat := 0x058018 + n * 0x40
def PF_MEAS (n : Nat) : Nat := 0x05801C + n * 0x40
def PF_POS (n : Nat) : Nat := 0x058020 + n * 0x40
def PF_VEL (n : Nat) : Nat := 0x058024 + n * 0x40
def PF_ACC (n : Nat) : Nat := 0x058028 + n * 0x40
def PF_STAT (n : Nat) : Nat := 0x05802C + n * 0x40
def CX_CFG (n : Nat) : Nat := 0x880000 + n * 0x400
def CX_SUPV (n : Nat) : Nat := 0x880004 + n * 0x400
def CX_GS (n : Nat) : Nat := 0x880008 + n * 0x400
def CX_GSADR (n : Nat) : Nat := 0x88000C + n * 0x400
def CX_ST0 (n : Nat) : Nat := 0x8802D0 + n * 0x400
def CX_ST1 (n : Nat) : Nat := 0x8802D4 + n * 0x400
def CX_ST2 (n : Nat) : Nat := 0x8802D8 + n * 0x400
def CX_ST3 (n : Nat) : Nat := 0x8802DC + n * 0x400
-- spec/06_echo_execution.md
def EC_STAT (n : Nat) : Nat := 0x030200 + n * 0x20
def EC_CNT (n : Nat) : Nat := 0x030204 + n * 0x20
def EC_LAST (n : Nat) : Nat := 0x030208 + n * 0x20
def EC_LVAL (n : Nat) : Nat := 0x03020C + n * 0x20
def EC_EVAL (n : Nat) : Nat := 0x030210 + n * 0x20
def EC_INJ (n : Nat) : Nat := 0x030214 + n * 0x20
def EC_INJM (n : Nat) : Nat := 0x030218 + n * 0x20
def EC_SC_STAT : Nat := 0x030300
def EC_HIST (n : Nat) : Nat := 0x031000 + n * 0x4
-- spec/07_power_stage_interface.md
def PG_CFG (n : Nat) : Nat := 0x040000 + n * 0x80
def PG_DTFLOOR (n : Nat) : Nat := 0x040004 + n * 0x80
def PG_DTR (n : Nat) : Nat := 0x040008 + n * 0x80
def PG_DTF (n : Nat) : Nat := 0x04000C + n * 0x80
def PG_HS (n : Nat) : Nat := 0x040010 + n * 0x80
def PG_LOAD (n : Nat) : Nat := 0x040014 + n * 0x80
def PG_SCMPA (n : Nat) : Nat := 0x040018 + n * 0x80
def PG_SCMPB (n : Nat) : Nat := 0x04001C + n * 0x80
def PG_SCMPC (n : Nat) : Nat := 0x040020 + n * 0x80
def PG_SCMPD (n : Nat) : Nat := 0x040024 + n * 0x80
def PG_SPHOFS (n : Nat) : Nat := 0x040028 + n * 0x80
def PG_SCTL (n : Nat) : Nat := 0x04002C + n * 0x80
def PG_ACMPA (n : Nat) : Nat := 0x040030 + n * 0x80
def PG_ACMPB (n : Nat) : Nat := 0x040034 + n * 0x80
def PG_ACMPC (n : Nat) : Nat := 0x040038 + n * 0x80
def PG_ACMPD (n : Nat) : Nat := 0x04003C + n * 0x80
def PG_APHOFS (n : Nat) : Nat := 0x040040 + n * 0x80
def PG_ACTL (n : Nat) : Nat := 0x040044 + n * 0x80
def PG_EQA (n : Nat) : Nat := 0x040048 + n * 0x80
def PG_EQS (n : Nat) : Nat := 0x04004C + n * 0x80
def PG_STAT (n : Nat) : Nat := 0x040050 + n * 0x80
def PG_FLAG (n : Nat) : Nat := 0x040054 + n * 0x80
def PG_CNT (n : Nat) : Nat := 0x040058 + n * 0x80
def PG_SAFE : Nat := 0x041400
def PG_STOMASK0 : Nat := 0x041404
def PG_STOMASK1 : Nat := 0x041408
def PG_ISO0 : Nat := 0x04140C
def PG_ISO1 : Nat := 0x041410
def PG_STOSTAT : Nat := 0x041414
def GL_CFG (n : Nat) : Nat := 0x042000 + n * 0x100
def GL_POLL (n : Nat) : Nat := 0x042004 + n * 0x100
def GL_STAT (n : Nat) : Nat := 0x042008 + n * 0x100
def GL_CNT (n : Nat) : Nat := 0x04200C + n * 0x100
def GL_DMAP (n : Nat) (k : Nat) : Nat := 0x042040 + n * 0x100 + k * 0x10
def GL_DID (n : Nat) (k : Nat) : Nat := 0x042044 + n * 0x100 + k * 0x10
def GL_DVER (n : Nat) (k : Nat) : Nat := 0x042048 + n * 0x100 + k * 0x10
def GL_DSTAT (n : Nat) (k : Nat) : Nat := 0x04204C + n * 0x100 + k * 0x10
-- spec/08_traction_modulation.md
def TM_CFG (n : Nat) : Nat := 0x070000 + n * 0x800
def TM_RATIO (n : Nat) : Nat := 0x070004 + n * 0x800
def TM_MINP (n : Nat) : Nat := 0x070008 + n * 0x800
def TM_DBASE (n : Nat) : Nat := 0x07000C + n * 0x800
def TM_VMIN (n : Nat) : Nat := 0x070010 + n * 0x800
def TM_XCTL (n : Nat) : Nat := 0x070014 + n * 0x800
def TM_STAT (n : Nat) : Nat := 0x070018 + n * 0x800
def TM_FLAG (n : Nat) : Nat := 0x07001C + n * 0x800
def TM_CNT (n : Nat) : Nat := 0x070020 + n * 0x800
def TM_RHO (n : Nat) : Nat := 0x070024 + n * 0x800
def TM_VDCU (n : Nat) : Nat := 0x070028 + n * 0x800
def TM_SCFG (n : Nat) (k : Nat) : Nat := 0x070100 + n * 0x800 + k * 0x40
def TM_FOFS (n : Nat) (k : Nat) : Nat := 0x070104 + n * 0x800 + k * 0x40
def TM_KPRED (n : Nat) (k : Nat) : Nat := 0x070108 + n * 0x800 + k * 0x40
def TM_SPH (n : Nat) (k : Nat) : Nat := 0x07010C + n * 0x800 + k * 0x40
def TM_UA (n : Nat) (k : Nat) : Nat := 0x070110 + n * 0x800 + k * 0x40
def TM_UB (n : Nat) (k : Nat) : Nat := 0x070114 + n * 0x800 + k * 0x40
def TM_SM (n : Nat) (k : Nat) : Nat := 0x070118 + n * 0x800 + k * 0x40
def TM_SDELTA (n : Nat) (k : Nat) : Nat := 0x07011C + n * 0x800 + k * 0x40
def TM_SSTAT (n : Nat) (k : Nat) : Nat := 0x070120 + n * 0x800 + k * 0x40
def TM_SX (n : Nat) (k : Nat) : Nat := 0x070124 + n * 0x800 + k * 0x40
-- spec/09_traction_control.md
def TC_CFG (n : Nat) : Nat := 0x071000 + n * 0x200
def TC_CMD (n : Nat) : Nat := 0x071004 + n * 0x200
def TC_TSET (n : Nat) : Nat := 0x071008 + n * 0x200
def TC_SSET (n : Nat) : Nat := 0x07100C + n * 0x200
def TC_TRAMP (n : Nat) : Nat := 0x071010 + n * 0x200
def TC_SRAMP (n : Nat) : Nat := 0x071014 + n * 0x200
def TC_TMOT (n : Nat) : Nat := 0x071018 + n * 0x200
def TC_TGEN (n : Nat) : Nat := 0x07101C + n * 0x200
def TC_VREG (n : Nat) : Nat := 0x071020 + n * 0x200
def TC_VMOT (n : Nat) : Nat := 0x071024 + n * 0x200
def TC_KV (n : Nat) : Nat := 0x071028 + n * 0x200
def TC_KE (n : Nat) : Nat := 0x07102C + n * 0x200
def TC_MARG (n : Nat) : Nat := 0x071030 + n * 0x200
def TC_ULIM (n : Nat) : Nat := 0x071034 + n * 0x200
def TC_CONF (n : Nat) : Nat := 0x071038 + n * 0x200
def TC_STEPS (n : Nat) : Nat := 0x07103C + n * 0x200
def TC_TMO0 (n : Nat) : Nat := 0x071040 + n * 0x200
def TC_TMO1 (n : Nat) : Nat := 0x071044 + n * 0x200
def TC_DER (n : Nat) : Nat := 0x071048 + n * 0x200
def TC_QMAX (n : Nat) : Nat := 0x07104C + n * 0x200
def TC_ICON (n : Nat) : Nat := 0x071050 + n * 0x200
def TC_TH (n : Nat) : Nat := 0x071054 + n * 0x200
def TC_TH2 (n : Nat) : Nat := 0x071058 + n * 0x200
def TC_STAT (n : Nat) : Nat := 0x071080 + n * 0x200
def TC_TR (n : Nat) : Nat := 0x071084 + n * 0x200
def TC_LT (n : Nat) : Nat := 0x071088 + n * 0x200
def TC_F (n : Nat) : Nat := 0x07108C + n * 0x200
def TC_E (n : Nat) : Nat := 0x071090 + n * 0x200
def TC_BUD (n : Nat) : Nat := 0x071094 + n * 0x200
def TC_TJ (n : Nat) : Nat := 0x071098 + n * 0x200
def TC_QACC (n : Nat) : Nat := 0x07109C + n * 0x200
def TC_FLAG (n : Nat) : Nat := 0x0710A0 + n * 0x200
def TC_CNT (n : Nat) : Nat := 0x0710A4 + n * 0x200
def TC_TREQ (n : Nat) : Nat := 0x0710C0 + n * 0x200
def TC_OBS0A (n : Nat) : Nat := 0x0710C4 + n * 0x200
def TC_OBS0G (n : Nat) : Nat := 0x0710C8 + n * 0x200
def TC_OBS1A (n : Nat) : Nat := 0x0710CC + n * 0x200
def TC_OBS1G (n : Nat) : Nat := 0x0710D0 + n * 0x200
def TC_OBSCONF (n : Nat) : Nat := 0x0710D4 + n * 0x200
def TC_CTL (n : Nat) : Nat := 0x0710E0 + n * 0x200
def TC_SLIM (n : Nat) : Nat := 0x0710E4 + n * 0x200
def TC_VBS (n : Nat) (k : Nat) : Nat := 0x071100 + n * 0x200 + k * 0x8
def TC_VBT (n : Nat) (k : Nat) : Nat := 0x071104 + n * 0x200 + k * 0x8
-- spec/10_position_speed.md
def RS_CFG (n : Nat) : Nat := 0x050000 + n * 0x80
def RS_EXC (n : Nat) : Nat := 0x050004 + n * 0x80
def RS_WIN (n : Nat) : Nat := 0x050008 + n * 0x80
def RS_QCTL (n : Nat) : Nat := 0x05000C + n * 0x80
def RS_OFS (n : Nat) : Nat := 0x050010 + n * 0x80
def RS_KSH (n : Nat) : Nat := 0x050014 + n * 0x80
def RS_KSL (n : Nat) : Nat := 0x050018 + n * 0x80
def RS_NMOD (n : Nat) : Nat := 0x05001C + n * 0x80
def RS_STAT (n : Nat) : Nat := 0x050020 + n * 0x80
def RS_PHI (n : Nat) : Nat := 0x050024 + n * 0x80
def RS_N (n : Nat) : Nat := 0x050028 + n * 0x80
def RS_AMP (n : Nat) : Nat := 0x05002C + n * 0x80
def RS_OSS (n : Nat) : Nat := 0x050030 + n * 0x80
def RS_OSC (n : Nat) : Nat := 0x050034 + n * 0x80
def RS_IDX (n : Nat) : Nat := 0x050038 + n * 0x80
def RS_ICNT (n : Nat) : Nat := 0x05003C + n * 0x80
def RS_CNT (n : Nat) : Nat := 0x050040 + n * 0x80
def QD_CFG (n : Nat) : Nat := 0x051000 + n * 0x80
def QD_NMOD (n : Nat) : Nat := 0x051004 + n * 0x80
def QD_KSH (n : Nat) : Nat := 0x051008 + n * 0x80
def QD_KSL (n : Nat) : Nat := 0x05100C + n * 0x80
def QD_IDXCFG (n : Nat) : Nat := 0x051010 + n * 0x80
def QD_TIME (n : Nat) : Nat := 0x051014 + n * 0x80
def QD_QCTL (n : Nat) : Nat := 0x051018 + n * 0x80
def QD_CMPV (n : Nat) : Nat := 0x05101C + n * 0x80
def QD_CMPC (n : Nat) : Nat := 0x051020 + n * 0x80
def QD_CNT (n : Nat) : Nat := 0x051024 + n * 0x80
def QD_STAT (n : Nat) : Nat := 0x051028 + n * 0x80
def QD_IDX (n : Nat) : Nat := 0x05102C + n * 0x80
def QD_ICNT (n : Nat) : Nat := 0x051030 + n * 0x80
def QD_PER (n : Nat) : Nat := 0x051034 + n * 0x80
def QD_TEDGE (n : Nat) : Nat := 0x051038 + n * 0x80
def QD_AOFS (n : Nat) : Nat := 0x05103C + n * 0x80
def QD_ECNT (n : Nat) : Nat := 0x051040 + n * 0x80
def HL_CFG (n : Nat) : Nat := 0x052000 + n * 0x40
def HL_TIME (n : Nat) : Nat := 0x052004 + n * 0x40
def HL_EDGE (n : Nat) (k : Nat) : Nat := 0x052008 + n * 0x40 + k * 0x4
def HL_QCTL (n : Nat) : Nat := 0x052020 + n * 0x40
def HL_STAT (n : Nat) : Nat := 0x052024 + n * 0x40
def HL_PER (n : Nat) : Nat := 0x052028 + n * 0x40
def HL_CNT (n : Nat) : Nat := 0x05202C + n * 0x40
-- spec/11_dcdc_converter.md
def DC_CFG : Nat := 0x080000
def DC_MEAS : Nat := 0x080004
def DC_CMD : Nat := 0x080008
def DC_VRAMP : Nat := 0x08000C
def DC_ILIM : Nat := 0x080010
def DC_PHLIM : Nat := 0x080014
def DC_TH12 : Nat := 0x080018
def DC_TH34 : Nat := 0x08001C
def DC_TH5 : Nat := 0x080020
def DC_TIME : Nat := 0x080024
def DC_TIME2 : Nat := 0x080028
def DC_VMIN : Nat := 0x08002C
def DC_FMIN : Nat := 0x080030
def DC_VAR (n : Nat) : Nat := 0x080034 + n * 0x4
def DC_CTL : Nat := 0x080044
def DC_STAT : Nat := 0x080050
def DC_FLAG : Nat := 0x080054
def DC_CNT : Nat := 0x080058
def DC_VREF : Nat := 0x080060
def DC_IHI : Nat := 0x080064
def DC_ILO : Nat := 0x080068
def DC_ITOT : Nat := 0x08006C
def DC_VERR : Nat := 0x080070
def DC_CCFG (n : Nat) : Nat := 0x080200 + n * 0x20
def DC_CDE (n : Nat) : Nat := 0x080204 + n * 0x20
def DC_CSTAT (n : Nat) : Nat := 0x080208 + n * 0x20
def DC_IREF (n : Nat) : Nat := 0x08020C + n * 0x20
def DC_PHI (n : Nat) : Nat := 0x080210 + n * 0x20
def DC_PLO (n : Nat) : Nat := 0x080214 + n * 0x20
def DC_ILV (n : Nat) : Nat := 0x080218 + n * 0x20
def DC_DECNT (n : Nat) : Nat := 0x08021C + n * 0x20
-- spec/12_charger.md
def CH_CFG : Nat := 0x080800
def CH_CMD : Nat := 0x080804
def CH_IBAT : Nat := 0x080808
def CH_RAMP : Nat := 0x08080C
def CH_RAMP2 : Nat := 0x080810
def CH_KAC : Nat := 0x080814
def CH_ILIM : Nat := 0x080818
def CH_VBUS : Nat := 0x08081C
def CH_VBLIM : Nat := 0x080820
def CH_VBMAX : Nat := 0x080824
def CH_BPH : Nat := 0x080828
def CH_MAINS : Nat := 0x08082C
def CH_VAWIN : Nat := 0x080830
def CH_TMO : Nat := 0x080834
def CH_TMO2 : Nat := 0x080838
def CH_CP : Nat := 0x08083C
def CH_BTS : Nat := 0x080840
def CH_BTW : Nat := 0x080844
def CH_BTH : Nat := 0x080848
def CH_PFC : Nat := 0x08084C
def CH_DAB : Nat := 0x080850
def CH_VAR (n : Nat) : Nat := 0x080854 + n * 0x4
def CH_CTL : Nat := 0x080864
def CH_STAT : Nat := 0x080870
def CH_FLAG : Nat := 0x080874
def CH_CPSTAT : Nat := 0x080880
def CH_CPV : Nat := 0x080884
def CH_PP : Nat := 0x080888
def CH_IAV : Nat := 0x08088C
def CH_VREF : Nat := 0x0808A0
def CH_PIHI : Nat := 0x0808A4
def CH_PILO : Nat := 0x0808A8
def CH_IBREF : Nat := 0x0808AC
def CH_BPHI : Nat := 0x0808B0
def CH_BPLO : Nat := 0x0808B4
def CH_UA : Nat := 0x0808C0
def CH_UB : Nat := 0x0808C4
def CH_VAMP : Nat := 0x0808C8
-- spec/13_gearbox_actuators.md
def AC_SUMP : Nat := 0x090000
def AC_SUMPT : Nat := 0x090004
def AC_VMLIM : Nat := 0x090008
def AC_VM : Nat := 0x09000C
def AC_SCNT : Nat := 0x090010
def AC_CFG (n : Nat) : Nat := 0x090100 + n * 0x100
def AC_DT (n : Nat) : Nat := 0x090104 + n * 0x100
def AC_HS (n : Nat) : Nat := 0x090108 + n * 0x100
def AC_MON (n : Nat) : Nat := 0x09010C + n * 0x100
def AC_VAR (n : Nat) (k : Nat) : Nat := 0x090110 + n * 0x100 + k * 0x4
def AC_DUTY (n : Nat) : Nat := 0x090120 + n * 0x100
def AC_UA (n : Nat) : Nat := 0x090124 + n * 0x100
def AC_UB (n : Nat) : Nat := 0x090128 + n * 0x100
def AC_CTL (n : Nat) : Nat := 0x090130 + n * 0x100
def AC_STAT (n : Nat) : Nat := 0x090134 + n * 0x100
def AC_LSTAT (n : Nat) : Nat := 0x090138 + n * 0x100
def AC_FLAG (n : Nat) : Nat := 0x09013C + n * 0x100
def AC_CNT (n : Nat) : Nat := 0x090140 + n * 0x100
def AC_LH (n : Nat) (k : Nat) : Nat := 0x090150 + n * 0x100 + k * 0x4
-- spec/14_containment_degraded_operation.md
def CMP_CFG (n : Nat) : Nat := 0x060000 + n * 0x20
def CMP_TH (n : Nat) : Nat := 0x060004 + n * 0x20
def CMP_HB (n : Nat) : Nat := 0x060008 + n * 0x20
def CMP_STAT (n : Nat) : Nat := 0x06000C + n * 0x20
def CMP_CNT (n : Nat) : Nat := 0x060010 + n * 0x20
def CMP_TEST (n : Nat) : Nat := 0x060014 + n * 0x20
def PR_CFG : Nat := 0x060800
def PR_SUMPT : Nat := 0x060804
def PR_SUMPST : Nat := 0x060808
def PR_SH (n : Nat) : Nat := 0x060810 + n * 0x4
def PR_CONVST : Nat := 0x060824
def PR_CNT : Nat := 0x060828
def PR_REARM : Nat := 0x06082C
def FR_CVAR (n : Nat) : Nat := 0x060C00 + n * 0x4
def FR_LAST : Nat := 0x060C14
def FR_CNT : Nat := 0x060C18
-- spec/15_safety_thermal_supply.md
def SI_CFG (n : Nat) : Nat := 0x0A0000 + n * 0x10
def SI_STAT (n : Nat) : Nat := 0x0A0004 + n * 0x10
def SI_CNT (n : Nat) : Nat := 0x0A0008 + n * 0x10
def SO_CFG (n : Nat) : Nat := 0x0A0100 + n * 0x10
def SO_TIME (n : Nat) : Nat := 0x0A0104 + n * 0x10
def SO_STAT (n : Nat) : Nat := 0x0A0108 + n * 0x10
def SO_CNT (n : Nat) : Nat := 0x0A010C + n * 0x10
def SF_STO : Nat := 0x0A0200
def SF_STOCFG : Nat := 0x0A0204
def SF_CTL : Nat := 0x0A0208
def SF_SS1 : Nat := 0x0A020C
def SF_SLS : Nat := 0x0A0210
def SF_SLSTQ : Nat := 0x0A0214
def SF_STAT : Nat := 0x0A0218
def TS_CFG (n : Nat) : Nat := 0x0A0400 + n * 0x20
def TS_THA (n : Nat) : Nat := 0x0A0404 + n * 0x20
def TS_THB (n : Nat) : Nat := 0x0A0408 + n * 0x20
def TS_VAL (n : Nat) : Nat := 0x0A040C + n * 0x20
def TS_THL (n : Nat) : Nat := 0x0A0410 + n * 0x20
def TS_NVM : Nat := 0x0A0800
def TS_LINB : Nat := 0x0A0804
def TS_STAT : Nat := 0x0A0808
def SUP_L12 : Nat := 0x0A0900
def SUP_L34 : Nat := 0x0A0904
def SUP_L5 : Nat := 0x0A0908
def SUP_SAGT : Nat := 0x0A090C
def SUP_STAT : Nat := 0x0A0910
-- spec/16_vehicle_link.md
def CAN_CFG (n : Nat) : Nat := 0x0B0000 + n * 0x100
def CAN_NBT (n : Nat) : Nat := 0x0B0004 + n * 0x100
def CAN_DBT (n : Nat) : Nat := 0x0B0008 + n * 0x100
def CAN_TDC (n : Nat) : Nat := 0x0B000C + n * 0x100
def CAN_STAT (n : Nat) : Nat := 0x0B0010 + n * 0x100
def CAN_LEC (n : Nat) : Nat := 0x0B0014 + n * 0x100
def CAN_FLAG (n : Nat) : Nat := 0x0B0018 + n * 0x100
def CAN_CNT (n : Nat) : Nat := 0x0B001C + n * 0x100
def CAN_CNT2 (n : Nat) : Nat := 0x0B0020 + n * 0x100
def CAN_TXS (n : Nat) : Nat := 0x0B0024 + n * 0x100
def CAN_RXS (n : Nat) : Nat := 0x0B0028 + n * 0x100
def CAN_FID (n : Nat) (k : Nat) : Nat := 0x0B0040 + n * 0x100 + k * 0x8
def CAN_FMSK (n : Nat) (k : Nat) : Nat := 0x0B0044 + n * 0x100 + k * 0x8
def AL_CFG : Nat := 0x0B0800
def AL_TIME : Nat := 0x0B0804
def AL_TIME2 : Nat := 0x0B0808
def AL_MAP : Nat := 0x0B080C
def AL_SOLOSS : Nat := 0x0B0810
def AL_STAT : Nat := 0x0B0820
def AL_FLAG : Nat := 0x0B0824
def AL_CNT : Nat := 0x0B0828
def AL_CNT2 : Nat := 0x0B082C
-- spec/17_memory_galleries.md
def MP_CTRL : Nat := 0x0C0000
def MP_STAT : Nat := 0x0C0004
def MP_CNT : Nat := 0x0C0008
def MP_CNT2 : Nat := 0x0C000C
def MP_CERR : Nat := 0x0C0010
def MP_UERR : Nat := 0x0C0014
def MP_LERR : Nat := 0x0C0018
def MP_HERR : Nat := 0x0C001C
def MP_FLIP : Nat := 0x0C0020
def MP_FLIPA : Nat := 0x0C0024
def MP_STADR : Nat := 0x0C0028
def GQ_CFG (n : Nat) : Nat := 0x0C1000 + n * 0x40
def GQ_BASE (n : Nat) : Nat := 0x0C1004 + n * 0x40
def GQ_STAT (n : Nat) : Nat := 0x0C1008 + n * 0x40
def GQ_POPTAG (n : Nat) : Nat := 0x0C100C + n * 0x40
def GQ_LD0 (n : Nat) : Nat := 0x0C1010 + n * 0x40
def GQ_LD1 (n : Nat) : Nat := 0x0C1014 + n * 0x40
def GQ_PKT (n : Nat) : Nat := 0x0C1018 + n * 0x40
def GQ_CNT (n : Nat) : Nat := 0x0C101C + n * 0x40
def GQ_CNT2 (n : Nat) : Nat := 0x0C1020 + n * 0x40
def GQ_PUSH (n : Nat) : Nat := 0x0C1024 + n * 0x40
def GQ_PUSHE (n : Nat) : Nat := 0x0C1028 + n * 0x40
def GQ_END (n : Nat) : Nat := 0x0C102C + n * 0x40
-- spec/18_startup_image.md
def DEV_ID : Nat := 0x000000
def LT_STAT : Nat := 0x000200
def LT_FAIL : Nat := 0x000204
def LT_ICRC : Nat := 0x000208
def LT_BUILD : Nat := 0x00020C
def LT_FLASH : Nat := 0x000210
def LT_TIME : Nat := 0x000214
def LT_CTL : Nat := 0x000218
def LT_FLCFG : Nat := 0x000220
def LT_FLSTAT : Nat := 0x000224
def LT_FLCNT : Nat := 0x000228
def LT_FLSEQ : Nat := 0x00022C
def OTP_STAT : Nat := 0x000280
def OTP_KEYW (n : Nat) : Nat := 0x000284 + n * 0x4
def OTP_PROG : Nat := 0x000294
-- spec/19_service_port_events.md
def SYS_STAT : Nat := 0x000004
def SYS_RST : Nat := 0x000008
def SP_CFG : Nat := 0x000010
def SP_STAT : Nat := 0x000014
def SP_CNT : Nat := 0x000018
def SP_UNLOCK : Nat := 0x00001C
def CG_REQ : Nat := 0x000400
def CG_SPSTAT : Nat := 0x000404
def CG_CNT : Nat := 0x000408
def EV_PEND (n : Nat) : Nat := 0x0D0000 + n * 0x4
def EV_EN (n : Nat) : Nat := 0x0D0080 + n * 0x4
def EV_SUM : Nat := 0x0D0100
def EV_SEQ : Nat := 0x0D0104
def EV_CNT : Nat := 0x0D0108
def TR_CFG : Nat := 0x0D0800
def TR_TRIG : Nat := 0x0D0804
def TR_CNT : Nat := 0x0D0808
def TR_CTL : Nat := 0x0D080C
def TR_STAT : Nat := 0x0D0810
def TR_ADDR (n : Nat) : Nat := 0x0D0820 + n * 0x4
-- spec/20_electrical_package.md
def IO_STAT : Nat := 0x000020

end Sys2Proof.Machine.Reg

namespace Sys2Proof.Machine.F

-- spec/02_angle_domains_dripline.md
def AD_CFG_SRC2 (n : Nat) : Fld := ⟨(Reg.AD_CFG n), 24, 8⟩
def AD_CFG_SRC (n : Nat) : Fld := ⟨(Reg.AD_CFG n), 16, 8⟩
def AD_CFG_MASTER (n : Nat) : Fld := ⟨(Reg.AD_CFG n), 8, 4⟩
def AD_CFG_AUTO2 (n : Nat) : Fld := ⟨(Reg.AD_CFG n), 3, 1⟩
def AD_CFG_KIND (n : Nat) : Fld := ⟨(Reg.AD_CFG n), 0, 3⟩
def AD_GAIN_RATIO (n : Nat) : Fld := ⟨(Reg.AD_GAIN n), 24, 8⟩
def AD_GAIN_LOCK_CNT (n : Nat) : Fld := ⟨(Reg.AD_GAIN n), 16, 4⟩
def AD_GAIN_KI_SH (n : Nat) : Fld := ⟨(Reg.AD_GAIN n), 8, 5⟩
def AD_GAIN_KP_SH (n : Nat) : Fld := ⟨(Reg.AD_GAIN n), 0, 4⟩
def AD_WIN_ERR_MAX (n : Nat) : Fld := ⟨(Reg.AD_WIN n), 16, 16⟩
def AD_WIN_LOCK_WIN (n : Nat) : Fld := ⟨(Reg.AD_WIN n), 0, 16⟩
def AD_TIME_COAST_MAX (n : Nat) : Fld := ⟨(Reg.AD_TIME n), 16, 16⟩
def AD_TIME_UPD_TMO (n : Nat) : Fld := ⟨(Reg.AD_TIME n), 0, 16⟩
def AD_RSET_HI_RSET_INT (n : Nat) : Fld := ⟨(Reg.AD_RSET_HI n), 0, 32⟩
def AD_RSET_LO_RSET_FRAC (n : Nat) : Fld := ⟨(Reg.AD_RSET_LO n), 0, 16⟩
def AD_RMAX_RATE_MAX (n : Nat) : Fld := ⟨(Reg.AD_RMAX n), 0, 24⟩
def AD_BND_BND (n : Nat) : Fld := ⟨(Reg.AD_BND n), 0, 32⟩
def AD_OFS_OFS (n : Nat) : Fld := ⟨(Reg.AD_OFS n), 0, 32⟩
def AD_THR_BTMO (n : Nat) : Fld := ⟨(Reg.AD_THR n), 16, 16⟩
def AD_THR_RATE_STILL (n : Nat) : Fld := ⟨(Reg.AD_THR n), 0, 16⟩
def AD_CTRL_SRCSEL (n : Nat) : Fld := ⟨(Reg.AD_CTRL n), 0, 1⟩
def AD_ANGLE_ANGLE (n : Nat) : Fld := ⟨(Reg.AD_ANGLE n), 0, 32⟩
def AD_RATE_HI_RATE_INT (n : Nat) : Fld := ⟨(Reg.AD_RATE_HI n), 0, 32⟩
def AD_RATE_LO_RATE_FRAC (n : Nat) : Fld := ⟨(Reg.AD_RATE_LO n), 0, 16⟩
def AD_ERR_ERR (n : Nat) : Fld := ⟨(Reg.AD_ERR n), 0, 32⟩
def AD_STAT_BCOUNT (n : Nat) : Fld := ⟨(Reg.AD_STAT n), 16, 16⟩
def AD_STAT_OUTL (n : Nat) : Fld := ⟨(Reg.AD_STAT n), 10, 2⟩
def AD_STAT_RSAT (n : Nat) : Fld := ⟨(Reg.AD_STAT n), 9, 1⟩
def AD_STAT_JUMP (n : Nat) : Fld := ⟨(Reg.AD_STAT n), 8, 1⟩
def AD_STAT_STILL (n : Nat) : Fld := ⟨(Reg.AD_STAT n), 7, 1⟩
def AD_STAT_DIR (n : Nat) : Fld := ⟨(Reg.AD_STAT n), 6, 1⟩
def AD_STAT_STATE (n : Nat) : Fld := ⟨(Reg.AD_STAT n), 0, 3⟩
def DL_CTRL_RUN : Fld := ⟨Reg.DL_CTRL, 0, 1⟩
def DL_CNT_LATE_CNT : Fld := ⟨Reg.DL_CNT, 16, 16⟩
def DL_CNT_OVR_CNT : Fld := ⟨Reg.DL_CNT, 0, 16⟩
def DL_RDERR_RDERR : Fld := ⟨Reg.DL_RDERR, 31, 1⟩
def DL_RDERR_DESC : Fld := ⟨Reg.DL_RDERR, 30, 1⟩
def DL_RDERR_IDX : Fld := ⟨Reg.DL_RDERR, 0, 11⟩
def DL_TRK_CFG_DOMAIN (n : Nat) : Fld := ⟨(Reg.DL_TRK_CFG n), 24, 4⟩
def DL_TRK_CFG_PLOG (n : Nat) : Fld := ⟨(Reg.DL_TRK_CFG n), 18, 3⟩
def DL_TRK_CFG_DIRMODE (n : Nat) : Fld := ⟨(Reg.DL_TRK_CFG n), 17, 1⟩
def DL_TRK_CFG_LEAD (n : Nat) : Fld := ⟨(Reg.DL_TRK_CFG n), 16, 1⟩
def DL_TRK_CFG_EN (n : Nat) : Fld := ⟨(Reg.DL_TRK_CFG n), 15, 1⟩
def DL_TRK_CFG_CONV (n : Nat) : Fld := ⟨(Reg.DL_TRK_CFG n), 8, 3⟩
def DL_TRK_BASE_BASE (n : Nat) : Fld := ⟨(Reg.DL_TRK_BASE n), 0, 32⟩
def DL_TRK_SCHED_PVALID (n : Nat) : Fld := ⟨(Reg.DL_TRK_SCHED n), 24, 1⟩
def DL_TRK_SCHED_PEND (n : Nat) : Fld := ⟨(Reg.DL_TRK_SCHED n), 16, 8⟩
def DL_TRK_SCHED_ACTIVE (n : Nat) : Fld := ⟨(Reg.DL_TRK_SCHED n), 0, 8⟩
def DL_TRK_PCOUNT_PCOUNT (n : Nat) : Fld := ⟨(Reg.DL_TRK_PCOUNT n), 0, 32⟩
def DL_TRK_PHASE_PHI (n : Nat) : Fld := ⟨(Reg.DL_TRK_PHASE n), 0, 32⟩
def DL_TRK_FLAG_PTR (n : Nat) : Fld := ⟨(Reg.DL_TRK_FLAG n), 16, 11⟩
def DL_TRK_FLAG_IDLE (n : Nat) : Fld := ⟨(Reg.DL_TRK_FLAG n), 8, 1⟩
def DL_TRK_FLAG_RESEEK (n : Nat) : Fld := ⟨(Reg.DL_TRK_FLAG n), 4, 1⟩
def DL_TRK_FLAG_FORCED (n : Nat) : Fld := ⟨(Reg.DL_TRK_FLAG n), 3, 1⟩
def DL_TRK_FLAG_RDERR (n : Nat) : Fld := ⟨(Reg.DL_TRK_FLAG n), 2, 1⟩
def DL_TRK_FLAG_OVR (n : Nat) : Fld := ⟨(Reg.DL_TRK_FLAG n), 1, 1⟩
def DL_TRK_FLAG_LATE (n : Nat) : Fld := ⟨(Reg.DL_TRK_FLAG n), 0, 1⟩
-- spec/03_conversion_subsystem.md
def ADC_CTRL_EN (n : Nat) : Fld := ⟨(Reg.ADC_CTRL n), 31, 1⟩
def ADC_CTRL_TQ_EN (n : Nat) : Fld := ⟨(Reg.ADC_CTRL n), 23, 1⟩
def ADC_CTRL_TQ_GQ (n : Nat) : Fld := ⟨(Reg.ADC_CTRL n), 16, 6⟩
def ADC_CTRL_WIN_MAX (n : Nat) : Fld := ⟨(Reg.ADC_CTRL n), 0, 16⟩
def ADC_STAT_CONV (n : Nat) : Fld := ⟨(Reg.ADC_STAT n), 31, 1⟩
def ADC_STAT_SLEX (n : Nat) : Fld := ⟨(Reg.ADC_STAT n), 24, 4⟩
def ADC_STAT_SEQ (n : Nat) : Fld := ⟨(Reg.ADC_STAT n), 16, 5⟩
def ADC_STAT_BUSY (n : Nat) : Fld := ⟨(Reg.ADC_STAT n), 15, 1⟩
def ADC_STAT_WIN (n : Nat) : Fld := ⟨(Reg.ADC_STAT n), 14, 1⟩
def ADC_STAT_QUEUED (n : Nat) : Fld := ⟨(Reg.ADC_STAT n), 13, 1⟩
def ADC_STAT_QSEQ (n : Nat) : Fld := ⟨(Reg.ADC_STAT n), 8, 5⟩
def ADC_STAT_SUSP (n : Nat) : Fld := ⟨(Reg.ADC_STAT n), 7, 1⟩
def ADC_STAT_TQDROP (n : Nat) : Fld := ⟨(Reg.ADC_STAT n), 6, 1⟩
def ADC_STAT_XERR (n : Nat) : Fld := ⟨(Reg.ADC_STAT n), 5, 1⟩
def ADC_STAT_OPEN (n : Nat) : Fld := ⟨(Reg.ADC_STAT n), 4, 1⟩
def ADC_STAT_PERR (n : Nat) : Fld := ⟨(Reg.ADC_STAT n), 3, 1⟩
def ADC_STAT_CLIP (n : Nat) : Fld := ⟨(Reg.ADC_STAT n), 2, 1⟩
def ADC_STAT_WTMO (n : Nat) : Fld := ⟨(Reg.ADC_STAT n), 1, 1⟩
def ADC_STAT_SOVR (n : Nat) : Fld := ⟨(Reg.ADC_STAT n), 0, 1⟩
def ADC_CNT_CLIP_CNT (n : Nat) : Fld := ⟨(Reg.ADC_CNT n), 16, 16⟩
def ADC_CNT_SOVR_CNT (n : Nat) : Fld := ⟨(Reg.ADC_CNT n), 0, 16⟩
def ADC_TQCNT_TQ_DROP_CNT (n : Nat) : Fld := ⟨(Reg.ADC_TQCNT n), 0, 16⟩
def ADC_CORR_FREEZE (n : Nat) : Fld := ⟨(Reg.ADC_CORR n), 0, 1⟩
def ADC_CORR_LIM_SKEW_LIM (n : Nat) : Fld := ⟨(Reg.ADC_CORR_LIM n), 24, 8⟩
def ADC_CORR_LIM_GERR_LIM (n : Nat) : Fld := ⟨(Reg.ADC_CORR_LIM n), 12, 12⟩
def ADC_CORR_LIM_OFS_LIM (n : Nat) : Fld := ⟨(Reg.ADC_CORR_LIM n), 0, 12⟩
def ADC_SL_OFS_SL_OFS (n : Nat) (k : Nat) : Fld := ⟨(Reg.ADC_SL_OFS n k), 0, 16⟩
def ADC_SL_GERR_SL_GERR (n : Nat) (k : Nat) : Fld := ⟨(Reg.ADC_SL_GERR n k), 0, 20⟩
def ADC_SL_SKEW_SL_SKEW (n : Nat) (k : Nat) : Fld := ⟨(Reg.ADC_SL_SKEW n k), 0, 12⟩
def ADC_SL_STAT_EXCL (n : Nat) (k : Nat) : Fld := ⟨(Reg.ADC_SL_STAT n k), 3, 1⟩
def ADC_SL_STAT_LIM_SKEW (n : Nat) (k : Nat) : Fld := ⟨(Reg.ADC_SL_STAT n k), 2, 1⟩
def ADC_SL_STAT_LIM_GERR (n : Nat) (k : Nat) : Fld := ⟨(Reg.ADC_SL_STAT n k), 1, 1⟩
def ADC_SL_STAT_LIM_OFS (n : Nat) (k : Nat) : Fld := ⟨(Reg.ADC_SL_STAT n k), 0, 1⟩
def ADC_SEQ_WLEN (n : Nat) (k : Nat) : Fld := ⟨(Reg.ADC_SEQ n k), 16, 3⟩
def ADC_SEQ_COUNT (n : Nat) (k : Nat) : Fld := ⟨(Reg.ADC_SEQ n k), 8, 7⟩
def ADC_SEQ_FIRST (n : Nat) (k : Nat) : Fld := ⟨(Reg.ADC_SEQ n k), 0, 6⟩
def ADC_ENT_XCHK (n : Nat) (k : Nat) : Fld := ⟨(Reg.ADC_ENT n k), 23, 1⟩
def ADC_ENT_TQ (n : Nat) (k : Nat) : Fld := ⟨(Reg.ADC_ENT n k), 22, 1⟩
def ADC_ENT_OWT (n : Nat) (k : Nat) : Fld := ⟨(Reg.ADC_ENT n k), 21, 1⟩
def ADC_ENT_OWDIR (n : Nat) (k : Nat) : Fld := ⟨(Reg.ADC_ENT n k), 20, 1⟩
def ADC_ENT_AVG (n : Nat) (k : Nat) : Fld := ⟨(Reg.ADC_ENT n k), 16, 3⟩
def ADC_ENT_DWELL (n : Nat) (k : Nat) : Fld := ⟨(Reg.ADC_ENT n k), 12, 3⟩
def ADC_ENT_INPUT (n : Nat) (k : Nat) : Fld := ⟨(Reg.ADC_ENT n k), 0, 7⟩
def ADC_RESV_VALUE (n : Nat) (k : Nat) (j : Nat) : Fld := ⟨(Reg.ADC_RESV n k j), 0, 32⟩
def ADC_RESC_PTAG (n : Nat) (k : Nat) (j : Nat) : Fld := ⟨(Reg.ADC_RESC n k j), 28, 4⟩
def ADC_RESC_VALID (n : Nat) (k : Nat) (j : Nat) : Fld := ⟨(Reg.ADC_RESC n k j), 27, 1⟩
def ADC_RESC_CLIP (n : Nat) (k : Nat) (j : Nat) : Fld := ⟨(Reg.ADC_RESC n k j), 26, 1⟩
def ADC_RESC_OPEN (n : Nat) (k : Nat) (j : Nat) : Fld := ⟨(Reg.ADC_RESC n k j), 25, 1⟩
def ADC_RESC_XERR (n : Nat) (k : Nat) (j : Nat) : Fld := ⟨(Reg.ADC_RESC n k j), 24, 1⟩
def ADC_RESC_PERR (n : Nat) (k : Nat) (j : Nat) : Fld := ⟨(Reg.ADC_RESC n k j), 23, 1⟩
def ADC_RESC_INPUT (n : Nat) (k : Nat) (j : Nat) : Fld := ⟨(Reg.ADC_RESC n k j), 16, 7⟩
def ADC_RESC_CODE (n : Nat) (k : Nat) (j : Nat) : Fld := ⟨(Reg.ADC_RESC n k j), 0, 16⟩
def AIN_CFG_CDOM (n : Nat) : Fld := ⟨(Reg.AIN_CFG n), 8, 4⟩
def AIN_CFG_PULL (n : Nat) : Fld := ⟨(Reg.AIN_CFG n), 6, 2⟩
def AIN_CFG_DIFF (n : Nat) : Fld := ⟨(Reg.AIN_CFG n), 0, 1⟩
def AIN_OFS_OFS (n : Nat) : Fld := ⟨(Reg.AIN_OFS n), 0, 17⟩
def AIN_GM_GM (n : Nat) : Fld := ⟨(Reg.AIN_GM n), 0, 32⟩
def AIN_GS_GS (n : Nat) : Fld := ⟨(Reg.AIN_GS n), 0, 6⟩
def XC_CFG_XC_CNT (n : Nat) : Fld := ⟨(Reg.XC_CFG n), 20, 4⟩
def XC_CFG_XC_THR (n : Nat) : Fld := ⟨(Reg.XC_CFG n), 0, 16⟩
def XC_STAT_XC_MIS (n : Nat) : Fld := ⟨(Reg.XC_STAT n), 16, 16⟩
def XC_STAT_XERR (n : Nat) : Fld := ⟨(Reg.XC_STAT n), 7, 1⟩
def XC_STAT_XIN (n : Nat) : Fld := ⟨(Reg.XC_STAT n), 0, 7⟩
def ADC_OW_OW_HI : Fld := ⟨Reg.ADC_OW, 16, 16⟩
def ADC_OW_OW_LO : Fld := ⟨Reg.ADC_OW, 0, 16⟩
def ADC_OWCNT_OW_CNT : Fld := ⟨Reg.ADC_OWCNT, 0, 4⟩
-- spec/04_current_capture.md
def FIT_CFG_EN (n : Nat) : Fld := ⟨(Reg.FIT_CFG n), 31, 1⟩
def FIT_CFG_CDOM (n : Nat) : Fld := ⟨(Reg.FIT_CFG n), 24, 4⟩
def FIT_CFG_RECON (n : Nat) : Fld := ⟨(Reg.FIT_CFG n), 23, 1⟩
def FIT_CFG_ISTAR (n : Nat) : Fld := ⟨(Reg.FIT_CFG n), 22, 1⟩
def FIT_CFG_VSRC (n : Nat) : Fld := ⟨(Reg.FIT_CFG n), 21, 1⟩
def FIT_CFG_REFMODE (n : Nat) : Fld := ⟨(Reg.FIT_CFG n), 20, 1⟩
def FIT_CFG_REF (n : Nat) : Fld := ⟨(Reg.FIT_CFG n), 0, 16⟩
def FIT_PG_PG2 (n : Nat) : Fld := ⟨(Reg.FIT_PG n), 18, 6⟩
def FIT_PG_PG1 (n : Nat) : Fld := ⟨(Reg.FIT_PG n), 12, 6⟩
def FIT_PG_PG0 (n : Nat) : Fld := ⟨(Reg.FIT_PG n), 6, 6⟩
def FIT_PG_PHMASK (n : Nat) : Fld := ⟨(Reg.FIT_PG n), 0, 3⟩
def FIT_TIME_NMIN (n : Nat) : Fld := ⟨(Reg.FIT_TIME n), 16, 8⟩
def FIT_TIME_SETTLE (n : Nat) : Fld := ⟨(Reg.FIT_TIME n), 0, 12⟩
def FIT_OP_OP_UMIN (n : Nat) : Fld := ⟨(Reg.FIT_OP n), 16, 16⟩
def FIT_OP_OP_IMAX (n : Nat) : Fld := ⟨(Reg.FIT_OP n), 0, 16⟩
def FIT_TH_OP_SMAX (n : Nat) : Fld := ⟨(Reg.FIT_TH n), 16, 16⟩
def FIT_TH_KS_THR (n : Nat) : Fld := ⟨(Reg.FIT_TH n), 0, 16⟩
def FIT_SM_DS_CNT (n : Nat) : Fld := ⟨(Reg.FIT_SM n), 24, 4⟩
def FIT_SM_SM_THR (n : Nat) : Fld := ⟨(Reg.FIT_SM n), 0, 16⟩
def FIT_YM_YM (n : Nat) : Fld := ⟨(Reg.FIT_YM n), 0, 32⟩
def FIT_YS_YS (n : Nat) : Fld := ⟨(Reg.FIT_YS n), 0, 6⟩
def FIT_LDV_LDV_MIN (n : Nat) : Fld := ⟨(Reg.FIT_LDV n), 0, 16⟩
def FIT_MEMF_MVAL (n : Nat) (k : Nat) : Fld := ⟨(Reg.FIT_MEMF n k), 0, 32⟩
def FIT_MVDC_MVAL (n : Nat) : Fld := ⟨(Reg.FIT_MVDC n), 0, 32⟩
def FIT_STAT_TCLEAN (n : Nat) : Fld := ⟨(Reg.FIT_STAT n), 16, 16⟩
def FIT_STAT_FAILSET (n : Nat) : Fld := ⟨(Reg.FIT_STAT n), 14, 1⟩
def FIT_STAT_DEAD (n : Nat) : Fld := ⟨(Reg.FIT_STAT n), 11, 3⟩
def FIT_STAT_OPEN (n : Nat) : Fld := ⟨(Reg.FIT_STAT n), 8, 3⟩
def FIT_STAT_BUF1 (n : Nat) : Fld := ⟨(Reg.FIT_STAT n), 7, 1⟩
def FIT_STAT_BUF0 (n : Nat) : Fld := ⟨(Reg.FIT_STAT n), 6, 1⟩
def FIT_STAT_SEGOVF (n : Nat) : Fld := ⟨(Reg.FIT_STAT n), 5, 1⟩
def FIT_STAT_REFINV (n : Nat) : Fld := ⟨(Reg.FIT_STAT n), 4, 1⟩
def FIT_STAT_KFAIL (n : Nat) : Fld := ⟨(Reg.FIT_STAT n), 3, 1⟩
def FIT_STAT_MODEL (n : Nat) : Fld := ⟨(Reg.FIT_STAT n), 2, 1⟩
def FIT_STAT_MSTALE (n : Nat) : Fld := ⟨(Reg.FIT_STAT n), 1, 1⟩
def FIT_CNT_KFAIL_CNT (n : Nat) : Fld := ⟨(Reg.FIT_CNT n), 16, 16⟩
def FIT_CNT_REFINV_CNT (n : Nat) : Fld := ⟨(Reg.FIT_CNT n), 0, 16⟩
def FIT_PCNT_DSC2 (n : Nat) : Fld := ⟨(Reg.FIT_PCNT n), 24, 4⟩
def FIT_PCNT_DSC1 (n : Nat) : Fld := ⟨(Reg.FIT_PCNT n), 20, 4⟩
def FIT_PCNT_DSC0 (n : Nat) : Fld := ⟨(Reg.FIT_PCNT n), 16, 4⟩
def FIT_PCNT_OPC2 (n : Nat) : Fld := ⟨(Reg.FIT_PCNT n), 4, 2⟩
def FIT_PCNT_OPC1 (n : Nat) : Fld := ⟨(Reg.FIT_PCNT n), 2, 2⟩
def FIT_PCNT_OPC0 (n : Nat) : Fld := ⟨(Reg.FIT_PCNT n), 0, 2⟩
-- spec/05_flowstone_engines.md
def AD_MPORT_ANG_MANG (n : Nat) : Fld := ⟨(Reg.AD_MPORT_ANG n), 0, 32⟩
def AD_MPORT_AGE_MAGE (n : Nat) : Fld := ⟨(Reg.AD_MPORT_AGE n), 0, 12⟩
def FE_CFG_EN (n : Nat) : Fld := ⟨(Reg.FE_CFG n), 31, 1⟩
def FE_CFG_SPLIT (n : Nat) : Fld := ⟨(Reg.FE_CFG n), 30, 1⟩
def FE_STAT_BUSY0 (n : Nat) : Fld := ⟨(Reg.FE_STAT n), 31, 1⟩
def FE_STAT_BUSY1 (n : Nat) : Fld := ⟨(Reg.FE_STAT n), 30, 1⟩
def FE_STAT_QLEN0 (n : Nat) : Fld := ⟨(Reg.FE_STAT n), 24, 4⟩
def FE_STAT_QLEN1 (n : Nat) : Fld := ⟨(Reg.FE_STAT n), 20, 4⟩
def FE_STAT_CTX1 (n : Nat) : Fld := ⟨(Reg.FE_STAT n), 9, 9⟩
def FE_STAT_CTX0 (n : Nat) : Fld := ⟨(Reg.FE_STAT n), 0, 9⟩
def FE_RUNS_RUNS (n : Nat) : Fld := ⟨(Reg.FE_RUNS n), 0, 32⟩
def FE_MAXLAT_MAXLAT (n : Nat) : Fld := ⟨(Reg.FE_MAXLAT n), 0, 16⟩
def FE_FLAG_FOLLOW (n : Nat) : Fld := ⟨(Reg.FE_FLAG n), 6, 1⟩
def FE_FLAG_SATTMO (n : Nat) : Fld := ⟨(Reg.FE_FLAG n), 5, 1⟩
def FE_FLAG_OVRESC (n : Nat) : Fld := ⟨(Reg.FE_FLAG n), 4, 1⟩
def FE_FLAG_NEGMAX (n : Nat) : Fld := ⟨(Reg.FE_FLAG n), 3, 1⟩
def FE_FLAG_STALE (n : Nat) : Fld := ⟨(Reg.FE_FLAG n), 2, 1⟩
def FE_FLAG_BUSERR (n : Nat) : Fld := ⟨(Reg.FE_FLAG n), 1, 1⟩
def FE_FLAG_QOVR (n : Nat) : Fld := ⟨(Reg.FE_FLAG n), 0, 1⟩
def FE_CNT_QOVR_CNT (n : Nat) : Fld := ⟨(Reg.FE_CNT n), 16, 16⟩
def FE_CNT_BUSERR_CNT (n : Nat) : Fld := ⟨(Reg.FE_CNT n), 0, 16⟩
def FE_LASTCTX_LCTX (n : Nat) : Fld := ⟨(Reg.FE_LASTCTX n), 0, 9⟩
def FF_CFG_EN (n : Nat) : Fld := ⟨(Reg.FF_CFG n), 31, 1⟩
def FF_CFG_MODE (n : Nat) : Fld := ⟨(Reg.FF_CFG n), 30, 1⟩
def FF_CFG_SH (n : Nat) : Fld := ⟨(Reg.FF_CFG n), 20, 4⟩
def FF_CFG_BLK (n : Nat) : Fld := ⟨(Reg.FF_CFG n), 0, 9⟩
def PF_CFG_EN (n : Nat) : Fld := ⟨(Reg.PF_CFG n), 31, 1⟩
def PF_CFG_CDOM (n : Nat) : Fld := ⟨(Reg.PF_CFG n), 24, 4⟩
def PF_CFG_VSH (n : Nat) : Fld := ⟨(Reg.PF_CFG n), 16, 5⟩
def PF_CFG_ASH (n : Nat) : Fld := ⟨(Reg.PF_CFG n), 8, 5⟩
def PF_TGT_TGT (n : Nat) : Fld := ⟨(Reg.PF_TGT n), 0, 32⟩
def PF_VM_LM (n : Nat) : Fld := ⟨(Reg.PF_VM n), 0, 32⟩
def PF_AM_LM (n : Nat) : Fld := ⟨(Reg.PF_AM n), 0, 32⟩
def PF_JM_LM (n : Nat) : Fld := ⟨(Reg.PF_JM n), 0, 32⟩
def PF_SH_VS (n : Nat) : Fld := ⟨(Reg.PF_SH n), 24, 6⟩
def PF_SH_AS (n : Nat) : Fld := ⟨(Reg.PF_SH n), 16, 6⟩
def PF_SH_JS (n : Nat) : Fld := ⟨(Reg.PF_SH n), 8, 6⟩
def PF_SH_RESYNC (n : Nat) : Fld := ⟨(Reg.PF_SH n), 0, 1⟩
def PF_TOL_TOL (n : Nat) : Fld := ⟨(Reg.PF_TOL n), 0, 32⟩
def PF_MEAS_MEAS (n : Nat) : Fld := ⟨(Reg.PF_MEAS n), 0, 32⟩
def PF_POS_OUTV (n : Nat) : Fld := ⟨(Reg.PF_POS n), 0, 32⟩
def PF_VEL_OUTV (n : Nat) : Fld := ⟨(Reg.PF_VEL n), 0, 32⟩
def PF_ACC_OUTV (n : Nat) : Fld := ⟨(Reg.PF_ACC n), 0, 32⟩
def PF_STAT_TICKS (n : Nat) : Fld := ⟨(Reg.PF_STAT n), 16, 16⟩
def PF_STAT_VLIM (n : Nat) : Fld := ⟨(Reg.PF_STAT n), 2, 1⟩
def PF_STAT_DONE (n : Nat) : Fld := ⟨(Reg.PF_STAT n), 1, 1⟩
def PF_STAT_PEND (n : Nat) : Fld := ⟨(Reg.PF_STAT n), 0, 1⟩
def CX_CFG_EN (n : Nat) : Fld := ⟨(Reg.CX_CFG n), 31, 1⟩
def CX_CFG_SAFE (n : Nat) : Fld := ⟨(Reg.CX_CFG n), 30, 1⟩
def CX_CFG_ENG (n : Nat) : Fld := ⟨(Reg.CX_CFG n), 28, 2⟩
def CX_CFG_LANE (n : Nat) : Fld := ⟨(Reg.CX_CFG n), 27, 1⟩
def CX_CFG_CONV (n : Nat) : Fld := ⟨(Reg.CX_CFG n), 24, 3⟩
def CX_CFG_NSTG (n : Nat) : Fld := ⟨(Reg.CX_CFG n), 16, 5⟩
def CX_CFG_CDOM (n : Nat) : Fld := ⟨(Reg.CX_CFG n), 12, 4⟩
def CX_SUPV_SMODE (n : Nat) : Fld := ⟨(Reg.CX_SUPV n), 30, 2⟩
def CX_SUPV_FEPAR (n : Nat) : Fld := ⟨(Reg.CX_SUPV n), 24, 5⟩
def CX_SUPV_WATCH (n : Nat) : Fld := ⟨(Reg.CX_SUPV n), 16, 8⟩
def CX_SUPV_TLIM (n : Nat) : Fld := ⟨(Reg.CX_SUPV n), 0, 16⟩
def CX_GS_GSEN (n : Nat) : Fld := ⟨(Reg.CX_GS n), 31, 1⟩
def CX_GS_GX (n : Nat) : Fld := ⟨(Reg.CX_GS n), 16, 8⟩
def CX_GS_GY (n : Nat) : Fld := ⟨(Reg.CX_GS n), 8, 8⟩
def CX_GSADR_GSADR (n : Nat) : Fld := ⟨(Reg.CX_GSADR n), 0, 21⟩
def CX_ST0_PTAG (n : Nat) : Fld := ⟨(Reg.CX_ST0 n), 28, 4⟩
def CX_ST0_STALE (n : Nat) : Fld := ⟨(Reg.CX_ST0 n), 27, 1⟩
def CX_ST0_BUSERR (n : Nat) : Fld := ⟨(Reg.CX_ST0 n), 26, 1⟩
def CX_ST0_CMPL (n : Nat) : Fld := ⟨(Reg.CX_ST0 n), 25, 1⟩
def CX_ST0_HELD (n : Nat) : Fld := ⟨(Reg.CX_ST0 n), 24, 1⟩
def CX_ST0_OVRHIST (n : Nat) : Fld := ⟨(Reg.CX_ST0 n), 16, 8⟩
def CX_ST0_GSREG (n : Nat) : Fld := ⟨(Reg.CX_ST0 n), 12, 4⟩
def CX_ST0_GSJ (n : Nat) : Fld := ⟨(Reg.CX_ST0 n), 0, 8⟩
def CX_ST1_SATF (n : Nat) : Fld := ⟨(Reg.CX_ST1 n), 0, 24⟩
def CX_ST2_SUPCNT (n : Nat) : Fld := ⟨(Reg.CX_ST2 n), 16, 16⟩
def CX_ST2_RFVCNT (n : Nat) : Fld := ⟨(Reg.CX_ST2 n), 8, 8⟩
def CX_ST3_RUNS (n : Nat) : Fld := ⟨(Reg.CX_ST3 n), 0, 32⟩
-- spec/06_echo_execution.md
def EC_STAT_STPASS (n : Nat) : Fld := ⟨(Reg.EC_STAT n), 31, 1⟩
def EC_STAT_STFAIL (n : Nat) : Fld := ⟨(Reg.EC_STAT n), 30, 1⟩
def EC_STAT_ESC (n : Nat) : Fld := ⟨(Reg.EC_STAT n), 3, 1⟩
def EC_STAT_MIS (n : Nat) : Fld := ⟨(Reg.EC_STAT n), 2, 1⟩
def EC_STAT_INJD (n : Nat) : Fld := ⟨(Reg.EC_STAT n), 1, 1⟩
def EC_CNT_MIS_CNT (n : Nat) : Fld := ⟨(Reg.EC_CNT n), 0, 16⟩
def EC_LAST_WKIND (n : Nat) : Fld := ⟨(Reg.EC_LAST n), 30, 2⟩
def EC_LAST_STG (n : Nat) : Fld := ⟨(Reg.EC_LAST n), 25, 5⟩
def EC_LAST_WIDX (n : Nat) : Fld := ⟨(Reg.EC_LAST n), 20, 5⟩
def EC_LAST_CTX (n : Nat) : Fld := ⟨(Reg.EC_LAST n), 0, 9⟩
def EC_LVAL_LVAL (n : Nat) : Fld := ⟨(Reg.EC_LVAL n), 0, 32⟩
def EC_EVAL_EVAL (n : Nat) : Fld := ⟨(Reg.EC_EVAL n), 0, 32⟩
def EC_INJ_ARM (n : Nat) : Fld := ⟨(Reg.EC_INJ n), 31, 1⟩
def EC_INJ_PASS (n : Nat) : Fld := ⟨(Reg.EC_INJ n), 30, 1⟩
def EC_INJ_NOESC (n : Nat) : Fld := ⟨(Reg.EC_INJ n), 29, 1⟩
def EC_INJ_STG (n : Nat) : Fld := ⟨(Reg.EC_INJ n), 24, 5⟩
def EC_INJ_CTX (n : Nat) : Fld := ⟨(Reg.EC_INJ n), 0, 9⟩
def EC_INJM_MASK (n : Nat) : Fld := ⟨(Reg.EC_INJM n), 0, 32⟩
def EC_SC_STAT_SCSTPASS : Fld := ⟨Reg.EC_SC_STAT, 31, 1⟩
def EC_SC_STAT_SCFAIL : Fld := ⟨Reg.EC_SC_STAT, 30, 1⟩
def EC_SC_STAT_SCMIS : Fld := ⟨Reg.EC_SC_STAT, 16, 1⟩
def EC_SC_STAT_REP_CNT : Fld := ⟨Reg.EC_SC_STAT, 0, 16⟩
def EC_HIST_ECHIST (n : Nat) : Fld := ⟨(Reg.EC_HIST n), 0, 8⟩
-- spec/07_power_stage_interface.md
def PG_CFG_EN (n : Nat) : Fld := ⟨(Reg.PG_CFG n), 31, 1⟩
def PG_CFG_OCEN (n : Nat) : Fld := ⟨(Reg.PG_CFG n), 30, 1⟩
def PG_CFG_SUMP (n : Nat) : Fld := ⟨(Reg.PG_CFG n), 29, 1⟩
def PG_CFG_CDOM (n : Nat) : Fld := ⟨(Reg.PG_CFG n), 24, 4⟩
def PG_CFG_EDOM (n : Nat) : Fld := ⟨(Reg.PG_CFG n), 20, 4⟩
def PG_CFG_CONV (n : Nat) : Fld := ⟨(Reg.PG_CFG n), 16, 3⟩
def PG_CFG_MODE (n : Nat) : Fld := ⟨(Reg.PG_CFG n), 0, 2⟩
def PG_DTFLOOR_DTFLOOR (n : Nat) : Fld := ⟨(Reg.PG_DTFLOOR n), 0, 17⟩
def PG_DTR_DTR (n : Nat) : Fld := ⟨(Reg.PG_DTR n), 0, 17⟩
def PG_DTF_DTF (n : Nat) : Fld := ⟨(Reg.PG_DTF n), 0, 17⟩
def PG_HS_OCFILT (n : Nat) : Fld := ⟨(Reg.PG_HS n), 28, 4⟩
def PG_HS_ONTMO (n : Nat) : Fld := ⟨(Reg.PG_HS n), 16, 12⟩
def PG_HS_HSTMO (n : Nat) : Fld := ⟨(Reg.PG_HS n), 0, 12⟩
def PG_LOAD_LDANG (n : Nat) : Fld := ⟨(Reg.PG_LOAD n), 16, 16⟩
def PG_LOAD_LD2 (n : Nat) : Fld := ⟨(Reg.PG_LOAD n), 1, 1⟩
def PG_LOAD_LDEN (n : Nat) : Fld := ⟨(Reg.PG_LOAD n), 0, 1⟩
def PG_SCMPA_SVAL (n : Nat) : Fld := ⟨(Reg.PG_SCMPA n), 0, 32⟩
def PG_SCMPB_SVAL (n : Nat) : Fld := ⟨(Reg.PG_SCMPB n), 0, 32⟩
def PG_SCMPC_SVAL (n : Nat) : Fld := ⟨(Reg.PG_SCMPC n), 0, 32⟩
def PG_SCMPD_SVAL (n : Nat) : Fld := ⟨(Reg.PG_SCMPD n), 0, 32⟩
def PG_SPHOFS_SVAL (n : Nat) : Fld := ⟨(Reg.PG_SPHOFS n), 0, 32⟩
def PG_SCTL_FL (n : Nat) : Fld := ⟨(Reg.PG_SCTL n), 8, 2⟩
def PG_SCTL_FH (n : Nat) : Fld := ⟨(Reg.PG_SCTL n), 4, 2⟩
def PG_SCTL_SRC (n : Nat) : Fld := ⟨(Reg.PG_SCTL n), 0, 1⟩
def PG_ACMPA_AVAL (n : Nat) : Fld := ⟨(Reg.PG_ACMPA n), 0, 32⟩
def PG_ACMPB_AVAL (n : Nat) : Fld := ⟨(Reg.PG_ACMPB n), 0, 32⟩
def PG_ACMPC_AVAL (n : Nat) : Fld := ⟨(Reg.PG_ACMPC n), 0, 32⟩
def PG_ACMPD_AVAL (n : Nat) : Fld := ⟨(Reg.PG_ACMPD n), 0, 32⟩
def PG_APHOFS_AVAL (n : Nat) : Fld := ⟨(Reg.PG_APHOFS n), 0, 32⟩
def PG_ACTL_FL (n : Nat) : Fld := ⟨(Reg.PG_ACTL n), 8, 2⟩
def PG_ACTL_FH (n : Nat) : Fld := ⟨(Reg.PG_ACTL n), 4, 2⟩
def PG_ACTL_SRC (n : Nat) : Fld := ⟨(Reg.PG_ACTL n), 0, 1⟩
def PG_EQA_EANG (n : Nat) : Fld := ⟨(Reg.PG_EQA n), 0, 32⟩
def PG_EQS_SL (n : Nat) : Fld := ⟨(Reg.PG_EQS n), 1, 1⟩
def PG_EQS_SH (n : Nat) : Fld := ⟨(Reg.PG_EQS n), 0, 1⟩
def PG_STAT_ISO (n : Nat) : Fld := ⟨(Reg.PG_STAT n), 31, 1⟩
def PG_STAT_ISOC (n : Nat) : Fld := ⟨(Reg.PG_STAT n), 28, 3⟩
def PG_STAT_EQCNT (n : Nat) : Fld := ⟨(Reg.PG_STAT n), 20, 5⟩
def PG_STAT_SAFEC (n : Nat) : Fld := ⟨(Reg.PG_STAT n), 18, 2⟩
def PG_STAT_STOG (n : Nat) : Fld := ⟨(Reg.PG_STAT n), 17, 1⟩
def PG_STAT_OCLR (n : Nat) : Fld := ⟨(Reg.PG_STAT n), 7, 1⟩
def PG_STAT_OCHR (n : Nat) : Fld := ⟨(Reg.PG_STAT n), 6, 1⟩
def PG_STAT_PINL (n : Nat) : Fld := ⟨(Reg.PG_STAT n), 5, 1⟩
def PG_STAT_PINH (n : Nat) : Fld := ⟨(Reg.PG_STAT n), 4, 1⟩
def PG_STAT_RL (n : Nat) : Fld := ⟨(Reg.PG_STAT n), 3, 1⟩
def PG_STAT_RH (n : Nat) : Fld := ⟨(Reg.PG_STAT n), 2, 1⟩
def PG_STAT_PENDL (n : Nat) : Fld := ⟨(Reg.PG_STAT n), 1, 1⟩
def PG_STAT_PENDH (n : Nat) : Fld := ⟨(Reg.PG_STAT n), 0, 1⟩
def PG_FLAG_EQOVF (n : Nat) : Fld := ⟨(Reg.PG_FLAG n), 6, 1⟩
def PG_FLAG_ELATE (n : Nat) : Fld := ⟨(Reg.PG_FLAG n), 5, 1⟩
def PG_FLAG_NOON (n : Nat) : Fld := ⟨(Reg.PG_FLAG n), 4, 1⟩
def PG_FLAG_STGUARD (n : Nat) : Fld := ⟨(Reg.PG_FLAG n), 3, 1⟩
def PG_FLAG_FORCEOFF (n : Nat) : Fld := ⟨(Reg.PG_FLAG n), 2, 1⟩
def PG_FLAG_OCMISS (n : Nat) : Fld := ⟨(Reg.PG_FLAG n), 1, 1⟩
def PG_CNT_LDCNT (n : Nat) : Fld := ⟨(Reg.PG_CNT n), 16, 16⟩
def PG_CNT_ELATE_CNT (n : Nat) : Fld := ⟨(Reg.PG_CNT n), 0, 16⟩
def PG_STOMASK0_MASK0 : Fld := ⟨Reg.PG_STOMASK0, 0, 32⟩
def PG_STOMASK1_MASK1 : Fld := ⟨Reg.PG_STOMASK1, 0, 8⟩
def PG_ISO0_ISOV : Fld := ⟨Reg.PG_ISO0, 0, 32⟩
def PG_ISO1_ISOV : Fld := ⟨Reg.PG_ISO1, 0, 32⟩
def PG_STOSTAT_STOREQ : Fld := ⟨Reg.PG_STOSTAT, 0, 1⟩
def GL_CFG_EN (n : Nat) : Fld := ⟨(Reg.GL_CFG n), 31, 1⟩
def GL_CFG_RATE (n : Nat) : Fld := ⟨(Reg.GL_CFG n), 24, 2⟩
def GL_CFG_NDRV (n : Nat) : Fld := ⟨(Reg.GL_CFG n), 16, 4⟩
def GL_CFG_RETRY (n : Nat) : Fld := ⟨(Reg.GL_CFG n), 8, 2⟩
def GL_CFG_RTMO (n : Nat) : Fld := ⟨(Reg.GL_CFG n), 0, 8⟩
def GL_POLL_POLL (n : Nat) : Fld := ⟨(Reg.GL_POLL n), 0, 16⟩
def GL_STAT_STATE (n : Nat) : Fld := ⟨(Reg.GL_STAT n), 29, 3⟩
def GL_STAT_ALERT (n : Nat) : Fld := ⟨(Reg.GL_STAT n), 28, 1⟩
def GL_STAT_RATEA (n : Nat) : Fld := ⟨(Reg.GL_STAT n), 26, 2⟩
def GL_STAT_NFOUND (n : Nat) : Fld := ⟨(Reg.GL_STAT n), 20, 4⟩
def GL_STAT_RATEFB (n : Nat) : Fld := ⟨(Reg.GL_STAT n), 7, 1⟩
def GL_STAT_ECHOERR (n : Nat) : Fld := ⟨(Reg.GL_STAT n), 6, 1⟩
def GL_STAT_CRCERR (n : Nat) : Fld := ⟨(Reg.GL_STAT n), 5, 1⟩
def GL_STAT_TMO (n : Nat) : Fld := ⟨(Reg.GL_STAT n), 4, 1⟩
def GL_CNT_CRC_CNT (n : Nat) : Fld := ⟨(Reg.GL_CNT n), 16, 16⟩
def GL_CNT_TMO_CNT (n : Nat) : Fld := ⟨(Reg.GL_CNT n), 0, 16⟩
def GL_DMAP_DEN (n : Nat) (k : Nat) : Fld := ⟨(Reg.GL_DMAP n k), 31, 1⟩
def GL_DMAP_CH (n : Nat) (k : Nat) : Fld := ⟨(Reg.GL_DMAP n k), 16, 6⟩
def GL_DMAP_SWL (n : Nat) (k : Nat) : Fld := ⟨(Reg.GL_DMAP n k), 9, 1⟩
def GL_DMAP_SWH (n : Nat) (k : Nat) : Fld := ⟨(Reg.GL_DMAP n k), 8, 1⟩
def GL_DMAP_VMINOR (n : Nat) (k : Nat) : Fld := ⟨(Reg.GL_DMAP n k), 0, 3⟩
def GL_DID_VENDOR (n : Nat) (k : Nat) : Fld := ⟨(Reg.GL_DID n k), 16, 16⟩
def GL_DID_PART (n : Nat) (k : Nat) : Fld := ⟨(Reg.GL_DID n k), 0, 16⟩
def GL_DVER_DMIN (n : Nat) (k : Nat) : Fld := ⟨(Reg.GL_DVER n k), 24, 8⟩
def GL_DVER_DMAX (n : Nat) (k : Nat) : Fld := ⟨(Reg.GL_DVER n k), 16, 8⟩
def GL_DVER_VNEG (n : Nat) (k : Nat) : Fld := ⟨(Reg.GL_DVER n k), 8, 8⟩
def GL_DVER_CAPS (n : Nat) (k : Nat) : Fld := ⟨(Reg.GL_DVER n k), 0, 8⟩
def GL_DSTAT_DSTATE (n : Nat) (k : Nat) : Fld := ⟨(Reg.GL_DSTAT n k), 29, 3⟩
def GL_DSTAT_STALE (n : Nat) (k : Nat) : Fld := ⟨(Reg.GL_DSTAT n k), 28, 1⟩
def GL_DSTAT_STATW (n : Nat) (k : Nat) : Fld := ⟨(Reg.GL_DSTAT n k), 16, 10⟩
def GL_DSTAT_TEMP (n : Nat) (k : Nat) : Fld := ⟨(Reg.GL_DSTAT n k), 0, 16⟩
-- spec/08_traction_modulation.md
def TM_CFG_EN (n : Nat) : Fld := ⟨(Reg.TM_CFG n), 31, 1⟩
def TM_CFG_PDEN (n : Nat) : Fld := ⟨(Reg.TM_CFG n), 30, 1⟩
def TM_CFG_CDOM (n : Nat) : Fld := ⟨(Reg.TM_CFG n), 24, 4⟩
def TM_CFG_RDOM (n : Nat) : Fld := ⟨(Reg.TM_CFG n), 20, 4⟩
def TM_CFG_PDOM (n : Nat) : Fld := ⟨(Reg.TM_CFG n), 16, 4⟩
def TM_CFG_VCONV (n : Nat) : Fld := ⟨(Reg.TM_CFG n), 8, 3⟩
def TM_CFG_VENT (n : Nat) : Fld := ⟨(Reg.TM_CFG n), 0, 6⟩
def TM_RATIO_RENG (n : Nat) : Fld := ⟨(Reg.TM_RATIO n), 16, 16⟩
def TM_RATIO_RHYS (n : Nat) : Fld := ⟨(Reg.TM_RATIO n), 0, 16⟩
def TM_MINP_HOR (n : Nat) : Fld := ⟨(Reg.TM_MINP n), 16, 16⟩
def TM_MINP_MINPT (n : Nat) : Fld := ⟨(Reg.TM_MINP n), 0, 12⟩
def TM_DBASE_DBASE (n : Nat) : Fld := ⟨(Reg.TM_DBASE n), 0, 21⟩
def TM_VMIN_VMIN (n : Nat) : Fld := ⟨(Reg.TM_VMIN n), 0, 32⟩
def TM_XCTL_XMAX (n : Nat) : Fld := ⟨(Reg.TM_XCTL n), 0, 4⟩
def TM_STAT_MODE (n : Nat) : Fld := ⟨(Reg.TM_STAT n), 30, 2⟩
def TM_STAT_PMODE (n : Nat) : Fld := ⟨(Reg.TM_STAT n), 28, 2⟩
def TM_STAT_HREQ (n : Nat) : Fld := ⟨(Reg.TM_STAT n), 27, 1⟩
def TM_STAT_HMODE (n : Nat) : Fld := ⟨(Reg.TM_STAT n), 26, 1⟩
def TM_FLAG_RDERR (n : Nat) : Fld := ⟨(Reg.TM_FLAG n), 5, 1⟩
def TM_FLAG_QLOW (n : Nat) : Fld := ⟨(Reg.TM_FLAG n), 4, 1⟩
def TM_FLAG_CSMIS (n : Nat) : Fld := ⟨(Reg.TM_FLAG n), 3, 1⟩
def TM_FLAG_XOVR (n : Nat) : Fld := ⟨(Reg.TM_FLAG n), 2, 1⟩
def TM_FLAG_VDCBAD (n : Nat) : Fld := ⟨(Reg.TM_FLAG n), 1, 1⟩
def TM_FLAG_LIM (n : Nat) : Fld := ⟨(Reg.TM_FLAG n), 0, 1⟩
def TM_CNT_LIM_CNT (n : Nat) : Fld := ⟨(Reg.TM_CNT n), 16, 16⟩
def TM_CNT_XOVR_CNT (n : Nat) : Fld := ⟨(Reg.TM_CNT n), 0, 16⟩
def TM_RHO_RHO (n : Nat) : Fld := ⟨(Reg.TM_RHO n), 0, 16⟩
def TM_VDCU_VDCU (n : Nat) : Fld := ⟨(Reg.TM_VDCU n), 0, 32⟩
def TM_SCFG_EN (n : Nat) (k : Nat) : Fld := ⟨(Reg.TM_SCFG n k), 31, 1⟩
def TM_SCFG_PGW (n : Nat) (k : Nat) : Fld := ⟨(Reg.TM_SCFG n k), 18, 6⟩
def TM_SCFG_PGV (n : Nat) (k : Nat) : Fld := ⟨(Reg.TM_SCFG n k), 12, 6⟩
def TM_SCFG_PGU (n : Nat) (k : Nat) : Fld := ⟨(Reg.TM_SCFG n k), 6, 6⟩
def TM_FOFS_FOFS (n : Nat) (k : Nat) : Fld := ⟨(Reg.TM_FOFS n k), 0, 32⟩
def TM_KPRED_KPRED (n : Nat) (k : Nat) : Fld := ⟨(Reg.TM_KPRED n k), 0, 16⟩
def TM_SPH_SPH (n : Nat) (k : Nat) : Fld := ⟨(Reg.TM_SPH n k), 0, 32⟩
def TM_UA_UREF (n : Nat) (k : Nat) : Fld := ⟨(Reg.TM_UA n k), 0, 32⟩
def TM_UB_UREF (n : Nat) (k : Nat) : Fld := ⟨(Reg.TM_UB n k), 0, 32⟩
def TM_SM_M (n : Nat) (k : Nat) : Fld := ⟨(Reg.TM_SM n k), 0, 17⟩
def TM_SDELTA_DELTA (n : Nat) (k : Nat) : Fld := ⟨(Reg.TM_SDELTA n k), 0, 32⟩
def TM_SSTAT_SLOT (n : Nat) (k : Nat) : Fld := ⟨(Reg.TM_SSTAT n k), 28, 4⟩
def TM_SSTAT_TSLOT (n : Nat) (k : Nat) : Fld := ⟨(Reg.TM_SSTAT n k), 24, 4⟩
def TM_SSTAT_XPEND (n : Nat) (k : Nat) : Fld := ⟨(Reg.TM_SSTAT n k), 23, 1⟩
def TM_SSTAT_FRZ (n : Nat) (k : Nat) : Fld := ⟨(Reg.TM_SSTAT n k), 22, 1⟩
def TM_SSTAT_QLOW (n : Nat) (k : Nat) : Fld := ⟨(Reg.TM_SSTAT n k), 21, 1⟩
def TM_SSTAT_LIM (n : Nat) (k : Nat) : Fld := ⟨(Reg.TM_SSTAT n k), 20, 1⟩
def TM_SSTAT_XOVRC (n : Nat) (k : Nat) : Fld := ⟨(Reg.TM_SSTAT n k), 16, 4⟩
def TM_SX_SX (n : Nat) (k : Nat) : Fld := ⟨(Reg.TM_SX n k), 0, 32⟩
-- spec/09_traction_control.md
def TC_CFG_EN (n : Nat) : Fld := ⟨(Reg.TC_CFG n), 31, 1⟩
def TC_CFG_CDOM (n : Nat) : Fld := ⟨(Reg.TC_CFG n), 24, 4⟩
def TC_CFG_RDOM (n : Nat) : Fld := ⟨(Reg.TC_CFG n), 20, 4⟩
def TC_CFG_XWB (n : Nat) : Fld := ⟨(Reg.TC_CFG n), 0, 9⟩
def TC_CMD_MODE (n : Nat) : Fld := ⟨(Reg.TC_CMD n), 0, 2⟩
def TC_TSET_TVAL (n : Nat) : Fld := ⟨(Reg.TC_TSET n), 0, 32⟩
def TC_SSET_SVAL (n : Nat) : Fld := ⟨(Reg.TC_SSET n), 0, 32⟩
def TC_TRAMP_TVAL (n : Nat) : Fld := ⟨(Reg.TC_TRAMP n), 0, 32⟩
def TC_SRAMP_SVAL (n : Nat) : Fld := ⟨(Reg.TC_SRAMP n), 0, 32⟩
def TC_TMOT_TVAL (n : Nat) : Fld := ⟨(Reg.TC_TMOT n), 0, 32⟩
def TC_TGEN_TVAL (n : Nat) : Fld := ⟨(Reg.TC_TGEN n), 0, 32⟩
def TC_VREG_VREG_MAX (n : Nat) : Fld := ⟨(Reg.TC_VREG n), 16, 16⟩
def TC_VREG_VREG_HI (n : Nat) : Fld := ⟨(Reg.TC_VREG n), 0, 16⟩
def TC_VMOT_VMOT_LO (n : Nat) : Fld := ⟨(Reg.TC_VMOT n), 16, 16⟩
def TC_VMOT_VMOT_MIN (n : Nat) : Fld := ⟨(Reg.TC_VMOT n), 0, 16⟩
def TC_KV_KV (n : Nat) : Fld := ⟨(Reg.TC_KV n), 16, 16⟩
def TC_KV_MFW (n : Nat) : Fld := ⟨(Reg.TC_KV n), 0, 16⟩
def TC_KE_KE (n : Nat) : Fld := ⟨(Reg.TC_KE n), 0, 32⟩
def TC_MARG_VMARG (n : Nat) : Fld := ⟨(Reg.TC_MARG n), 16, 16⟩
def TC_MARG_VHYS (n : Nat) : Fld := ⟨(Reg.TC_MARG n), 0, 16⟩
def TC_ULIM_ULIM (n : Nat) : Fld := ⟨(Reg.TC_ULIM n), 0, 32⟩
def TC_CONF_CONF_OK (n : Nat) : Fld := ⟨(Reg.TC_CONF n), 16, 16⟩
def TC_CONF_CONF_LO (n : Nat) : Fld := ⟨(Reg.TC_CONF n), 0, 16⟩
def TC_STEPS_RCNT (n : Nat) : Fld := ⟨(Reg.TC_STEPS n), 24, 8⟩
def TC_STEPS_ZSTEPS (n : Nat) : Fld := ⟨(Reg.TC_STEPS n), 16, 8⟩
def TC_STEPS_SETSTEPS (n : Nat) : Fld := ⟨(Reg.TC_STEPS n), 0, 16⟩
def TC_TMO0_CATCHTMO (n : Nat) : Fld := ⟨(Reg.TC_TMO0 n), 16, 16⟩
def TC_TMO0_CATCHMIN (n : Nat) : Fld := ⟨(Reg.TC_TMO0 n), 0, 16⟩
def TC_TMO1_RECTMO (n : Nat) : Fld := ⟨(Reg.TC_TMO1 n), 16, 16⟩
def TC_TMO1_PFWTMO (n : Nat) : Fld := ⟨(Reg.TC_TMO1 n), 0, 16⟩
def TC_DER_DERSTEPS (n : Nat) : Fld := ⟨(Reg.TC_DER n), 0, 16⟩
def TC_QMAX_QMAX (n : Nat) : Fld := ⟨(Reg.TC_QMAX n), 0, 32⟩
def TC_ICON_ICON (n : Nat) : Fld := ⟨(Reg.TC_ICON n), 0, 32⟩
def TC_TH_NTC (n : Nat) : Fld := ⟨(Reg.TC_TH n), 24, 4⟩
def TC_TH_TJMAX (n : Nat) : Fld := ⟨(Reg.TC_TH n), 0, 16⟩
def TC_TH2_TJHYS (n : Nat) : Fld := ⟨(Reg.TC_TH2 n), 16, 16⟩
def TC_TH2_KTH (n : Nat) : Fld := ⟨(Reg.TC_TH2 n), 0, 16⟩
def TC_STAT_STATE (n : Nat) : Fld := ⟨(Reg.TC_STAT n), 28, 4⟩
def TC_STAT_SREQ (n : Nat) : Fld := ⟨(Reg.TC_STAT n), 26, 2⟩
def TC_STAT_OBSUSE (n : Nat) : Fld := ⟨(Reg.TC_STAT n), 25, 1⟩
def TC_STAT_OBSSEL (n : Nat) : Fld := ⟨(Reg.TC_STAT n), 24, 1⟩
def TC_STAT_VAR (n : Nat) : Fld := ⟨(Reg.TC_STAT n), 22, 2⟩
def TC_STAT_DERATE (n : Nat) : Fld := ⟨(Reg.TC_STAT n), 21, 1⟩
def TC_STAT_SETALW (n : Nat) : Fld := ⟨(Reg.TC_STAT n), 20, 1⟩
def TC_STAT_VLIMM (n : Nat) : Fld := ⟨(Reg.TC_STAT n), 19, 1⟩
def TC_STAT_VLIMG (n : Nat) : Fld := ⟨(Reg.TC_STAT n), 18, 1⟩
def TC_STAT_HOLDHIST (n : Nat) : Fld := ⟨(Reg.TC_STAT n), 8, 8⟩
def TC_STAT_CONFCNT (n : Nat) : Fld := ⟨(Reg.TC_STAT n), 0, 8⟩
def TC_TR_VALS (n : Nat) : Fld := ⟨(Reg.TC_TR n), 0, 32⟩
def TC_LT_VALS (n : Nat) : Fld := ⟨(Reg.TC_LT n), 0, 32⟩
def TC_F_VALS (n : Nat) : Fld := ⟨(Reg.TC_F n), 0, 32⟩
def TC_E_VALS (n : Nat) : Fld := ⟨(Reg.TC_E n), 0, 32⟩
def TC_BUD_G (n : Nat) : Fld := ⟨(Reg.TC_BUD n), 0, 25⟩
def TC_TJ_TJ (n : Nat) : Fld := ⟨(Reg.TC_TJ n), 16, 16⟩
def TC_TJ_DTI (n : Nat) : Fld := ⟨(Reg.TC_TJ n), 0, 16⟩
def TC_QACC_QV (n : Nat) : Fld := ⟨(Reg.TC_QACC n), 0, 32⟩
def TC_FLAG_HOLDESC (n : Nat) : Fld := ⟨(Reg.TC_FLAG n), 6, 1⟩
def TC_FLAG_RDERR (n : Nat) : Fld := ⟨(Reg.TC_FLAG n), 5, 1⟩
def TC_FLAG_MIS (n : Nat) : Fld := ⟨(Reg.TC_FLAG n), 4, 1⟩
def TC_FLAG_RECAPF (n : Nat) : Fld := ⟨(Reg.TC_FLAG n), 3, 1⟩
def TC_FLAG_PFWF (n : Nat) : Fld := ⟨(Reg.TC_FLAG n), 2, 1⟩
def TC_FLAG_CATCHF (n : Nat) : Fld := ⟨(Reg.TC_FLAG n), 1, 1⟩
def TC_FLAG_POSLOSS (n : Nat) : Fld := ⟨(Reg.TC_FLAG n), 0, 1⟩
def TC_CNT_RECAP_CNT (n : Nat) : Fld := ⟨(Reg.TC_CNT n), 16, 16⟩
def TC_CNT_HOLD_CNT (n : Nat) : Fld := ⟨(Reg.TC_CNT n), 0, 16⟩
def TC_TREQ_TREQ (n : Nat) : Fld := ⟨(Reg.TC_TREQ n), 0, 32⟩
def TC_OBS0A_OANG (n : Nat) : Fld := ⟨(Reg.TC_OBS0A n), 0, 32⟩
def TC_OBS0G_OAGE (n : Nat) : Fld := ⟨(Reg.TC_OBS0G n), 0, 12⟩
def TC_OBS1A_OANG (n : Nat) : Fld := ⟨(Reg.TC_OBS1A n), 0, 32⟩
def TC_OBS1G_OAGE (n : Nat) : Fld := ⟨(Reg.TC_OBS1G n), 0, 12⟩
def TC_OBSCONF_CONF (n : Nat) : Fld := ⟨(Reg.TC_OBSCONF n), 0, 32⟩
def TC_CTL_VARP (n : Nat) : Fld := ⟨(Reg.TC_CTL n), 4, 2⟩
def TC_CTL_LAST (n : Nat) : Fld := ⟨(Reg.TC_CTL n), 0, 1⟩
def TC_SLIM_SLIM (n : Nat) : Fld := ⟨(Reg.TC_SLIM n), 0, 32⟩
def TC_VBS_VALID (n : Nat) (k : Nat) : Fld := ⟨(Reg.TC_VBS n k), 31, 1⟩
def TC_VBS_SETEN (n : Nat) (k : Nat) : Fld := ⟨(Reg.TC_VBS n k), 0, 2⟩
def TC_VBT_TAB (n : Nat) (k : Nat) : Fld := ⟨(Reg.TC_VBT n k), 0, 21⟩
-- spec/10_position_speed.md
def RS_CFG_EN (n : Nat) : Fld := ⟨(Reg.RS_CFG n), 31, 1⟩
def RS_CFG_MODE (n : Nat) : Fld := ⟨(Reg.RS_CFG n), 30, 1⟩
def RS_CFG_CONV (n : Nat) : Fld := ⟨(Reg.RS_CFG n), 24, 3⟩
def RS_CFG_EDOM (n : Nat) : Fld := ⟨(Reg.RS_CFG n), 20, 4⟩
def RS_CFG_CDOM (n : Nat) : Fld := ⟨(Reg.RS_CFG n), 16, 4⟩
def RS_CFG_ADC (n : Nat) : Fld := ⟨(Reg.RS_CFG n), 12, 3⟩
def RS_CFG_CENT (n : Nat) : Fld := ⟨(Reg.RS_CFG n), 6, 6⟩
def RS_CFG_SENT (n : Nat) : Fld := ⟨(Reg.RS_CFG n), 0, 6⟩
def RS_EXC_AMP (n : Nat) : Fld := ⟨(Reg.RS_EXC n), 16, 16⟩
def RS_EXC_PHC (n : Nat) : Fld := ⟨(Reg.RS_EXC n), 0, 16⟩
def RS_WIN_AMAX (n : Nat) : Fld := ⟨(Reg.RS_WIN n), 16, 16⟩
def RS_WIN_AMIN (n : Nat) : Fld := ⟨(Reg.RS_WIN n), 0, 16⟩
def RS_QCTL_GOODN (n : Nat) : Fld := ⟨(Reg.RS_QCTL n), 16, 8⟩
def RS_QCTL_BADN (n : Nat) : Fld := ⟨(Reg.RS_QCTL n), 8, 4⟩
def RS_QCTL_REARM (n : Nat) : Fld := ⟨(Reg.RS_QCTL n), 0, 1⟩
def RS_OFS_OSH (n : Nat) : Fld := ⟨(Reg.RS_OFS n), 24, 5⟩
def RS_OFS_MID (n : Nat) : Fld := ⟨(Reg.RS_OFS n), 0, 17⟩
def RS_KSH_KSH (n : Nat) : Fld := ⟨(Reg.RS_KSH n), 0, 16⟩
def RS_KSL_KSL (n : Nat) : Fld := ⟨(Reg.RS_KSL n), 0, 32⟩
def RS_NMOD_IXEN (n : Nat) : Fld := ⟨(Reg.RS_NMOD n), 31, 1⟩
def RS_NMOD_IXQD (n : Nat) : Fld := ⟨(Reg.RS_NMOD n), 16, 4⟩
def RS_NMOD_NMOD (n : Nat) : Fld := ⟨(Reg.RS_NMOD n), 0, 16⟩
def RS_STAT_Q (n : Nat) : Fld := ⟨(Reg.RS_STAT n), 30, 2⟩
def RS_STAT_REF (n : Nat) : Fld := ⟨(Reg.RS_STAT n), 29, 1⟩
def RS_STAT_GCNT (n : Nat) : Fld := ⟨(Reg.RS_STAT n), 16, 8⟩
def RS_STAT_BCNT (n : Nat) : Fld := ⟨(Reg.RS_STAT n), 8, 4⟩
def RS_STAT_SPD (n : Nat) : Fld := ⟨(Reg.RS_STAT n), 3, 1⟩
def RS_STAT_AMPF (n : Nat) : Fld := ⟨(Reg.RS_STAT n), 2, 1⟩
def RS_STAT_RFLG (n : Nat) : Fld := ⟨(Reg.RS_STAT n), 1, 1⟩
def RS_STAT_PAIR (n : Nat) : Fld := ⟨(Reg.RS_STAT n), 0, 1⟩
def RS_PHI_PHI (n : Nat) : Fld := ⟨(Reg.RS_PHI n), 0, 32⟩
def RS_N_N (n : Nat) : Fld := ⟨(Reg.RS_N n), 0, 16⟩
def RS_AMP_AMPM (n : Nat) : Fld := ⟨(Reg.RS_AMP n), 0, 24⟩
def RS_OSS_OSV (n : Nat) : Fld := ⟨(Reg.RS_OSS n), 0, 32⟩
def RS_OSC_OSV (n : Nat) : Fld := ⟨(Reg.RS_OSC n), 0, 32⟩
def RS_IDX_LASTOFS (n : Nat) : Fld := ⟨(Reg.RS_IDX n), 16, 16⟩
def RS_IDX_REBOFS (n : Nat) : Fld := ⟨(Reg.RS_IDX n), 0, 16⟩
def RS_ICNT_SNAP_CNT (n : Nat) : Fld := ⟨(Reg.RS_ICNT n), 16, 16⟩
def RS_ICNT_IDXN (n : Nat) : Fld := ⟨(Reg.RS_ICNT n), 0, 16⟩
def RS_CNT_BAD_CNT (n : Nat) : Fld := ⟨(Reg.RS_CNT n), 16, 16⟩
def RS_CNT_DLV_CNT (n : Nat) : Fld := ⟨(Reg.RS_CNT n), 0, 16⟩
def QD_CFG_EN (n : Nat) : Fld := ⟨(Reg.QD_CFG n), 31, 1⟩
def QD_CFG_IDXEN (n : Nat) : Fld := ⟨(Reg.QD_CFG n), 30, 1⟩
def QD_CFG_SWAP (n : Nat) : Fld := ⟨(Reg.QD_CFG n), 29, 1⟩
def QD_CFG_CONV (n : Nat) : Fld := ⟨(Reg.QD_CFG n), 26, 3⟩
def QD_CFG_IGATE (n : Nat) : Fld := ⟨(Reg.QD_CFG n), 22, 2⟩
def QD_CFG_HREN (n : Nat) : Fld := ⟨(Reg.QD_CFG n), 21, 1⟩
def QD_CFG_HSEL (n : Nat) : Fld := ⟨(Reg.QD_CFG n), 18, 2⟩
def QD_CFG_QFILT (n : Nat) : Fld := ⟨(Reg.QD_CFG n), 12, 4⟩
def QD_CFG_CDOM (n : Nat) : Fld := ⟨(Reg.QD_CFG n), 4, 4⟩
def QD_NMOD_IDXEXP (n : Nat) : Fld := ⟨(Reg.QD_NMOD n), 16, 16⟩
def QD_NMOD_NMOD (n : Nat) : Fld := ⟨(Reg.QD_NMOD n), 0, 16⟩
def QD_KSH_KSH (n : Nat) : Fld := ⟨(Reg.QD_KSH n), 0, 16⟩
def QD_KSL_KSL (n : Nat) : Fld := ⟨(Reg.QD_KSL n), 0, 32⟩
def QD_IDXCFG_IMISS (n : Nat) : Fld := ⟨(Reg.QD_IDXCFG n), 16, 8⟩
def QD_IDXCFG_ITOL (n : Nat) : Fld := ⟨(Reg.QD_IDXCFG n), 0, 8⟩
def QD_TIME_QHOLD (n : Nat) : Fld := ⟨(Reg.QD_TIME n), 16, 16⟩
def QD_TIME_QDEL (n : Nat) : Fld := ⟨(Reg.QD_TIME n), 0, 16⟩
def QD_QCTL_GOODN (n : Nat) : Fld := ⟨(Reg.QD_QCTL n), 16, 8⟩
def QD_QCTL_ILLMAX (n : Nat) : Fld := ⟨(Reg.QD_QCTL n), 8, 4⟩
def QD_QCTL_REARM (n : Nat) : Fld := ⟨(Reg.QD_QCTL n), 0, 1⟩
def QD_CMPV_CMPW (n : Nat) : Fld := ⟨(Reg.QD_CMPV n), 24, 8⟩
def QD_CMPV_CMPV (n : Nat) : Fld := ⟨(Reg.QD_CMPV n), 0, 16⟩
def QD_CMPC_CMPEN (n : Nat) : Fld := ⟨(Reg.QD_CMPC n), 31, 1⟩
def QD_CMPC_AUTO (n : Nat) : Fld := ⟨(Reg.QD_CMPC n), 30, 1⟩
def QD_CMPC_CMPEV (n : Nat) : Fld := ⟨(Reg.QD_CMPC n), 29, 1⟩
def QD_CMPC_CMPSTEP (n : Nat) : Fld := ⟨(Reg.QD_CMPC n), 0, 16⟩
def QD_CNT_DIR (n : Nat) : Fld := ⟨(Reg.QD_CNT n), 31, 1⟩
def QD_CNT_PERV (n : Nat) : Fld := ⟨(Reg.QD_CNT n), 30, 1⟩
def QD_CNT_COUNT (n : Nat) : Fld := ⟨(Reg.QD_CNT n), 0, 16⟩
def QD_STAT_Q (n : Nat) : Fld := ⟨(Reg.QD_STAT n), 30, 2⟩
def QD_STAT_REFBY (n : Nat) : Fld := ⟨(Reg.QD_STAT n), 28, 2⟩
def QD_STAT_REF (n : Nat) : Fld := ⟨(Reg.QD_STAT n), 27, 1⟩
def QD_STAT_ILLC (n : Nat) : Fld := ⟨(Reg.QD_STAT n), 24, 3⟩
def QD_STAT_OOWC (n : Nat) : Fld := ⟨(Reg.QD_STAT n), 22, 2⟩
def QD_STAT_IDXMISS (n : Nat) : Fld := ⟨(Reg.QD_STAT n), 5, 1⟩
def QD_STAT_ILL (n : Nat) : Fld := ⟨(Reg.QD_STAT n), 4, 1⟩
def QD_STAT_IDXERR (n : Nat) : Fld := ⟨(Reg.QD_STAT n), 3, 1⟩
def QD_STAT_REBASE (n : Nat) : Fld := ⟨(Reg.QD_STAT n), 2, 1⟩
def QD_STAT_CMP (n : Nat) : Fld := ⟨(Reg.QD_STAT n), 1, 1⟩
def QD_IDX_LASTOFS (n : Nat) : Fld := ⟨(Reg.QD_IDX n), 16, 16⟩
def QD_IDX_REBOFS (n : Nat) : Fld := ⟨(Reg.QD_IDX n), 0, 16⟩
def QD_ICNT_SNAP_CNT (n : Nat) : Fld := ⟨(Reg.QD_ICNT n), 16, 16⟩
def QD_ICNT_IDXN (n : Nat) : Fld := ⟨(Reg.QD_ICNT n), 0, 16⟩
def QD_PER_QVAL (n : Nat) : Fld := ⟨(Reg.QD_PER n), 0, 32⟩
def QD_TEDGE_QVAL (n : Nat) : Fld := ⟨(Reg.QD_TEDGE n), 0, 32⟩
def QD_AOFS_QVAL (n : Nat) : Fld := ⟨(Reg.QD_AOFS n), 0, 32⟩
def QD_ECNT_ILL_CNT (n : Nat) : Fld := ⟨(Reg.QD_ECNT n), 16, 16⟩
def QD_ECNT_CMP_CNT (n : Nat) : Fld := ⟨(Reg.QD_ECNT n), 0, 16⟩
def HL_CFG_EN (n : Nat) : Fld := ⟨(Reg.HL_CFG n), 31, 1⟩
def HL_CFG_CONV (n : Nat) : Fld := ⟨(Reg.HL_CFG n), 28, 3⟩
def HL_CFG_CDOM (n : Nat) : Fld := ⟨(Reg.HL_CFG n), 24, 4⟩
def HL_CFG_HMAP (n : Nat) : Fld := ⟨(Reg.HL_CFG n), 0, 24⟩
def HL_TIME_HFILT (n : Nat) : Fld := ⟨(Reg.HL_TIME n), 28, 4⟩
def HL_TIME_HHOLD (n : Nat) : Fld := ⟨(Reg.HL_TIME n), 0, 16⟩
def HL_EDGE_EANG (n : Nat) (k : Nat) : Fld := ⟨(Reg.HL_EDGE n k), 0, 32⟩
def HL_QCTL_ABNMAX (n : Nat) : Fld := ⟨(Reg.HL_QCTL n), 8, 4⟩
def HL_QCTL_REARM (n : Nat) : Fld := ⟨(Reg.HL_QCTL n), 0, 1⟩
def HL_STAT_Q (n : Nat) : Fld := ⟨(Reg.HL_STAT n), 30, 2⟩
def HL_STAT_DIR (n : Nat) : Fld := ⟨(Reg.HL_STAT n), 29, 1⟩
def HL_STAT_PERV (n : Nat) : Fld := ⟨(Reg.HL_STAT n), 28, 1⟩
def HL_STAT_SECT (n : Nat) : Fld := ⟨(Reg.HL_STAT n), 24, 3⟩
def HL_STAT_CODE (n : Nat) : Fld := ⟨(Reg.HL_STAT n), 20, 3⟩
def HL_STAT_ABNC (n : Nat) : Fld := ⟨(Reg.HL_STAT n), 16, 4⟩
def HL_STAT_SEQ (n : Nat) : Fld := ⟨(Reg.HL_STAT n), 2, 1⟩
def HL_STAT_INV (n : Nat) : Fld := ⟨(Reg.HL_STAT n), 1, 1⟩
def HL_PER_PER (n : Nat) : Fld := ⟨(Reg.HL_PER n), 0, 32⟩
def HL_CNT_INV_CNT (n : Nat) : Fld := ⟨(Reg.HL_CNT n), 16, 16⟩
def HL_CNT_SEQ_CNT (n : Nat) : Fld := ⟨(Reg.HL_CNT n), 0, 16⟩
-- spec/11_dcdc_converter.md
def DC_CFG_EN : Fld := ⟨Reg.DC_CFG, 31, 1⟩
def DC_CFG_LSCEN : Fld := ⟨Reg.DC_CFG, 30, 1⟩
def DC_CFG_DDOM : Fld := ⟨Reg.DC_CFG, 24, 4⟩
def DC_CFG_LSCMP : Fld := ⟨Reg.DC_CFG, 16, 6⟩
def DC_MEAS_VOCONV : Fld := ⟨Reg.DC_MEAS, 28, 3⟩
def DC_MEAS_VOENT : Fld := ⟨Reg.DC_MEAS, 16, 6⟩
def DC_MEAS_VICONV : Fld := ⟨Reg.DC_MEAS, 12, 3⟩
def DC_MEAS_VIENT : Fld := ⟨Reg.DC_MEAS, 0, 6⟩
def DC_CMD_RUN : Fld := ⟨Reg.DC_CMD, 31, 1⟩
def DC_CMD_VSET : Fld := ⟨Reg.DC_CMD, 0, 16⟩
def DC_VRAMP_VOK : Fld := ⟨Reg.DC_VRAMP, 16, 16⟩
def DC_VRAMP_VRAMP : Fld := ⟨Reg.DC_VRAMP, 0, 16⟩
def DC_ILIM_ILIM : Fld := ⟨Reg.DC_ILIM, 16, 16⟩
def DC_ILIM_ISTART : Fld := ⟨Reg.DC_ILIM, 0, 16⟩
def DC_PHLIM_PHLIM : Fld := ⟨Reg.DC_PHLIM, 0, 32⟩
def DC_TH12_TH1 : Fld := ⟨Reg.DC_TH12, 16, 16⟩
def DC_TH12_TH2 : Fld := ⟨Reg.DC_TH12, 0, 16⟩
def DC_TH34_TH3 : Fld := ⟨Reg.DC_TH34, 16, 16⟩
def DC_TH34_TH4 : Fld := ⟨Reg.DC_TH34, 0, 16⟩
def DC_TH5_TH5 : Fld := ⟨Reg.DC_TH5, 16, 16⟩
def DC_TH5_HYS : Fld := ⟨Reg.DC_TH5, 0, 16⟩
def DC_TIME_SHRAMP : Fld := ⟨Reg.DC_TIME, 16, 8⟩
def DC_TIME_SHHOLD : Fld := ⟨Reg.DC_TIME, 0, 16⟩
def DC_TIME2_PCTMO : Fld := ⟨Reg.DC_TIME2, 16, 16⟩
def DC_TIME2_LSTH : Fld := ⟨Reg.DC_TIME2, 0, 16⟩
def DC_VMIN_VINMIN : Fld := ⟨Reg.DC_VMIN, 0, 32⟩
def DC_FMIN_FMINR : Fld := ⟨Reg.DC_FMIN, 0, 24⟩
def DC_VAR_VALID (n : Nat) : Fld := ⟨(Reg.DC_VAR n), 31, 1⟩
def DC_VAR_CELLEN (n : Nat) : Fld := ⟨(Reg.DC_VAR n), 0, 6⟩
def DC_CTL_VARP : Fld := ⟨Reg.DC_CTL, 0, 2⟩
def DC_STAT_STATE : Fld := ⟨Reg.DC_STAT, 30, 2⟩
def DC_STAT_VAR : Fld := ⟨Reg.DC_STAT, 28, 2⟩
def DC_STAT_NSET : Fld := ⟨Reg.DC_STAT, 25, 3⟩
def DC_STAT_WIDX : Fld := ⟨Reg.DC_STAT, 22, 3⟩
def DC_STAT_HOLD : Fld := ⟨Reg.DC_STAT, 21, 1⟩
def DC_STAT_RESP : Fld := ⟨Reg.DC_STAT, 20, 1⟩
def DC_STAT_ATT : Fld := ⟨Reg.DC_STAT, 18, 2⟩
def DC_STAT_HOLDHIST : Fld := ⟨Reg.DC_STAT, 8, 8⟩
def DC_FLAG_HOLDESC : Fld := ⟨Reg.DC_FLAG, 5, 1⟩
def DC_FLAG_MIS : Fld := ⟨Reg.DC_FLAG, 4, 1⟩
def DC_FLAG_PCFAIL : Fld := ⟨Reg.DC_FLAG, 3, 1⟩
def DC_FLAG_VBAD : Fld := ⟨Reg.DC_FLAG, 2, 1⟩
def DC_FLAG_FRQ : Fld := ⟨Reg.DC_FLAG, 1, 1⟩
def DC_FLAG_ABORT : Fld := ⟨Reg.DC_FLAG, 0, 1⟩
def DC_CNT_SHED_CNT : Fld := ⟨Reg.DC_CNT, 16, 16⟩
def DC_CNT_ABORT_CNT : Fld := ⟨Reg.DC_CNT, 0, 16⟩
def DC_VREF_LVAL : Fld := ⟨Reg.DC_VREF, 0, 32⟩
def DC_IHI_LVAL : Fld := ⟨Reg.DC_IHI, 0, 32⟩
def DC_ILO_LVAL : Fld := ⟨Reg.DC_ILO, 0, 32⟩
def DC_ITOT_OVAL : Fld := ⟨Reg.DC_ITOT, 0, 32⟩
def DC_VERR_OVAL : Fld := ⟨Reg.DC_VERR, 0, 32⟩
def DC_CCFG_EN (n : Nat) : Fld := ⟨(Reg.DC_CCFG n), 31, 1⟩
def DC_CCFG_PRI (n : Nat) : Fld := ⟨(Reg.DC_CCFG n), 24, 6⟩
def DC_CCFG_SR (n : Nat) : Fld := ⟨(Reg.DC_CCFG n), 16, 6⟩
def DC_CCFG_ZCMP (n : Nat) : Fld := ⟨(Reg.DC_CCFG n), 8, 6⟩
def DC_CCFG_DEMODE (n : Nat) : Fld := ⟨(Reg.DC_CCFG n), 6, 2⟩
def DC_CDE_DETH (n : Nat) : Fld := ⟨(Reg.DC_CDE n), 16, 16⟩
def DC_CDE_ZBLK (n : Nat) : Fld := ⟨(Reg.DC_CDE n), 0, 12⟩
def DC_CSTAT_CST (n : Nat) : Fld := ⟨(Reg.DC_CSTAT n), 29, 3⟩
def DC_CSTAT_GATE (n : Nat) : Fld := ⟨(Reg.DC_CSTAT n), 28, 1⟩
def DC_CSTAT_DEACT (n : Nat) : Fld := ⟨(Reg.DC_CSTAT n), 27, 1⟩
def DC_CSTAT_J (n : Nat) : Fld := ⟨(Reg.DC_CSTAT n), 17, 8⟩
def DC_CSTAT_F (n : Nat) : Fld := ⟨(Reg.DC_CSTAT n), 0, 17⟩
def DC_IREF_CVAL (n : Nat) : Fld := ⟨(Reg.DC_IREF n), 0, 32⟩
def DC_PHI_CVAL (n : Nat) : Fld := ⟨(Reg.DC_PHI n), 0, 32⟩
def DC_PLO_CVAL (n : Nat) : Fld := ⟨(Reg.DC_PLO n), 0, 32⟩
def DC_ILV_CVAL (n : Nat) : Fld := ⟨(Reg.DC_ILV n), 0, 32⟩
def DC_DECNT_DE_CNT (n : Nat) : Fld := ⟨(Reg.DC_DECNT n), 0, 16⟩
-- spec/12_charger.md
def CH_CFG_EN : Fld := ⟨Reg.CH_CFG, 31, 1⟩
def CH_CFG_DIGEN : Fld := ⟨Reg.CH_CFG, 30, 1⟩
def CH_CFG_SDOM : Fld := ⟨Reg.CH_CFG, 24, 4⟩
def CH_CFG_MDOM : Fld := ⟨Reg.CH_CFG, 20, 4⟩
def CH_CFG_VBCONV : Fld := ⟨Reg.CH_CFG, 16, 3⟩
def CH_CFG_VBENT : Fld := ⟨Reg.CH_CFG, 0, 6⟩
def CH_CMD_CHG : Fld := ⟨Reg.CH_CMD, 31, 1⟩
def CH_CMD_PH1 : Fld := ⟨Reg.CH_CMD, 30, 1⟩
def CH_CMD_IMAXV : Fld := ⟨Reg.CH_CMD, 0, 16⟩
def CH_IBAT_IBAT : Fld := ⟨Reg.CH_IBAT, 0, 32⟩
def CH_RAMP_ISLEW : Fld := ⟨Reg.CH_RAMP, 16, 16⟩
def CH_RAMP_IRAMP : Fld := ⟨Reg.CH_RAMP, 0, 16⟩
def CH_RAMP2_IDOWN : Fld := ⟨Reg.CH_RAMP2, 16, 16⟩
def CH_RAMP2_VBRAMP : Fld := ⟨Reg.CH_RAMP2, 0, 16⟩
def CH_KAC_KAC : Fld := ⟨Reg.CH_KAC, 0, 24⟩
def CH_ILIM_DIGLIM : Fld := ⟨Reg.CH_ILIM, 16, 16⟩
def CH_ILIM_IMIN : Fld := ⟨Reg.CH_ILIM, 0, 16⟩
def CH_VBUS_VBUS : Fld := ⟨Reg.CH_VBUS, 16, 16⟩
def CH_VBUS_VBTOL : Fld := ⟨Reg.CH_VBUS, 0, 16⟩
def CH_VBLIM_VBOK : Fld := ⟨Reg.CH_VBLIM, 16, 16⟩
def CH_VBLIM_VBMIN : Fld := ⟨Reg.CH_VBLIM, 0, 16⟩
def CH_VBMAX_VBMAX : Fld := ⟨Reg.CH_VBMAX, 16, 16⟩
def CH_VBMAX_VPRE : Fld := ⟨Reg.CH_VBMAX, 0, 16⟩
def CH_BPH_BPHLIM : Fld := ⟨Reg.CH_BPH, 0, 32⟩
def CH_MAINS_FHI : Fld := ⟨Reg.CH_MAINS, 16, 16⟩
def CH_MAINS_FLO : Fld := ⟨Reg.CH_MAINS, 0, 16⟩
def CH_VAWIN_VAMAX : Fld := ⟨Reg.CH_VAWIN, 16, 16⟩
def CH_VAWIN_VAMIN : Fld := ⟨Reg.CH_VAWIN, 0, 16⟩
def CH_TMO_CTMO : Fld := ⟨Reg.CH_TMO, 16, 16⟩
def CH_TMO_BUTMO : Fld := ⟨Reg.CH_TMO, 0, 16⟩
def CH_TMO2_RDTMO : Fld := ⟨Reg.CH_TMO2, 16, 16⟩
def CH_TMO2_RETRY : Fld := ⟨Reg.CH_TMO2, 0, 16⟩
def CH_CP_CPDEB : Fld := ⟨Reg.CH_CP, 24, 4⟩
def CH_CP_CPSET : Fld := ⟨Reg.CH_CP, 8, 8⟩
def CH_CP_CPDC : Fld := ⟨Reg.CH_CP, 0, 8⟩
def CH_BTS_BTMASK : Fld := ⟨Reg.CH_BTS, 16, 4⟩
def CH_BTS_BTS : Fld := ⟨Reg.CH_BTS, 0, 16⟩
def CH_BTW_TBMAX : Fld := ⟨Reg.CH_BTW, 16, 16⟩
def CH_BTW_TBMIN : Fld := ⟨Reg.CH_BTW, 0, 16⟩
def CH_BTH_TBHYS : Fld := ⟨Reg.CH_BTH, 0, 16⟩
def CH_PFC_CH3 : Fld := ⟨Reg.CH_PFC, 24, 8⟩
def CH_PFC_CH2 : Fld := ⟨Reg.CH_PFC, 18, 6⟩
def CH_PFC_CH1 : Fld := ⟨Reg.CH_PFC, 12, 6⟩
def CH_PFC_CH0 : Fld := ⟨Reg.CH_PFC, 6, 6⟩
def CH_DAB_CH3 : Fld := ⟨Reg.CH_DAB, 24, 8⟩
def CH_DAB_CH2 : Fld := ⟨Reg.CH_DAB, 18, 6⟩
def CH_DAB_CH1 : Fld := ⟨Reg.CH_DAB, 12, 6⟩
def CH_DAB_CH0 : Fld := ⟨Reg.CH_DAB, 6, 6⟩
def CH_VAR_VALID (n : Nat) : Fld := ⟨(Reg.CH_VAR n), 31, 1⟩
def CH_VAR_PFCMODE (n : Nat) : Fld := ⟨(Reg.CH_VAR n), 8, 2⟩
def CH_VAR_LEGB (n : Nat) : Fld := ⟨(Reg.CH_VAR n), 4, 4⟩
def CH_VAR_LEGA (n : Nat) : Fld := ⟨(Reg.CH_VAR n), 0, 4⟩
def CH_CTL_SHED : Fld := ⟨Reg.CH_CTL, 2, 1⟩
def CH_CTL_VARP : Fld := ⟨Reg.CH_CTL, 0, 2⟩
def CH_STAT_STATE : Fld := ⟨Reg.CH_STAT, 29, 3⟩
def CH_STAT_VAR : Fld := ⟨Reg.CH_STAT, 27, 2⟩
def CH_STAT_TEMPOK : Fld := ⟨Reg.CH_STAT, 26, 1⟩
def CH_STAT_S2 : Fld := ⟨Reg.CH_STAT, 25, 1⟩
def CH_STAT_GP : Fld := ⟨Reg.CH_STAT, 22, 3⟩
def CH_STAT_GB : Fld := ⟨Reg.CH_STAT, 21, 1⟩
def CH_STAT_PHREQ : Fld := ⟨Reg.CH_STAT, 20, 1⟩
def CH_STAT_ATT : Fld := ⟨Reg.CH_STAT, 18, 2⟩
def CH_STAT_HOLDHIST : Fld := ⟨Reg.CH_STAT, 8, 8⟩
def CH_STAT_CAUSE : Fld := ⟨Reg.CH_STAT, 0, 4⟩
def CH_FLAG_HOLDESC : Fld := ⟨Reg.CH_FLAG, 5, 1⟩
def CH_FLAG_MIS : Fld := ⟨Reg.CH_FLAG, 4, 1⟩
def CH_FLAG_RDTMO : Fld := ⟨Reg.CH_FLAG, 3, 1⟩
def CH_FLAG_VBAD : Fld := ⟨Reg.CH_FLAG, 2, 1⟩
def CH_FLAG_BTAPER : Fld := ⟨Reg.CH_FLAG, 1, 1⟩
def CH_FLAG_LIM : Fld := ⟨Reg.CH_FLAG, 0, 1⟩
def CH_CPSTAT_CPST : Fld := ⟨Reg.CH_CPSTAT, 29, 3⟩
def CH_CPSTAT_PWM : Fld := ⟨Reg.CH_CPSTAT, 28, 1⟩
def CH_CPSTAT_DP : Fld := ⟨Reg.CH_CPSTAT, 16, 10⟩
def CH_CPSTAT_ICP : Fld := ⟨Reg.CH_CPSTAT, 0, 16⟩
def CH_CPV_VH : Fld := ⟨Reg.CH_CPV, 16, 16⟩
def CH_CPV_VL : Fld := ⟨Reg.CH_CPV, 0, 16⟩
def CH_PP_PPST : Fld := ⟨Reg.CH_PP, 29, 3⟩
def CH_PP_RPP : Fld := ⟨Reg.CH_PP, 0, 16⟩
def CH_IAV_IPP : Fld := ⟨Reg.CH_IAV, 16, 16⟩
def CH_IAV_IAV : Fld := ⟨Reg.CH_IAV, 0, 16⟩
def CH_VREF_LVAL : Fld := ⟨Reg.CH_VREF, 0, 32⟩
def CH_PIHI_LVAL : Fld := ⟨Reg.CH_PIHI, 0, 32⟩
def CH_PILO_LVAL : Fld := ⟨Reg.CH_PILO, 0, 32⟩
def CH_IBREF_LVAL : Fld := ⟨Reg.CH_IBREF, 0, 32⟩
def CH_BPHI_LVAL : Fld := ⟨Reg.CH_BPHI, 0, 32⟩
def CH_BPLO_LVAL : Fld := ⟨Reg.CH_BPLO, 0, 32⟩
def CH_UA_OVAL : Fld := ⟨Reg.CH_UA, 0, 32⟩
def CH_UB_OVAL : Fld := ⟨Reg.CH_UB, 0, 32⟩
def CH_VAMP_OVAL : Fld := ⟨Reg.CH_VAMP, 0, 32⟩
-- spec/13_gearbox_actuators.md
def AC_SUMP_SEN : Fld := ⟨Reg.AC_SUMP, 31, 1⟩
def AC_SUMP_SON : Fld := ⟨Reg.AC_SUMP, 16, 12⟩
def AC_SUMP_SOFF : Fld := ⟨Reg.AC_SUMP, 0, 12⟩
def AC_SUMPT_SMAXON : Fld := ⟨Reg.AC_SUMPT, 16, 16⟩
def AC_SUMPT_SMINOFF : Fld := ⟨Reg.AC_SUMPT, 0, 16⟩
def AC_VMLIM_AVMAX : Fld := ⟨Reg.AC_VMLIM, 0, 12⟩
def AC_VM_SONST : Fld := ⟨Reg.AC_VM, 31, 1⟩
def AC_VM_VMOV : Fld := ⟨Reg.AC_VM, 30, 1⟩
def AC_VM_SMAX : Fld := ⟨Reg.AC_VM, 29, 1⟩
def AC_VM_VMV : Fld := ⟨Reg.AC_VM, 0, 12⟩
def AC_SCNT_SON_CNT : Fld := ⟨Reg.AC_SCNT, 16, 16⟩
def AC_SCNT_SMAX_CNT : Fld := ⟨Reg.AC_SCNT, 0, 16⟩
def AC_CFG_EN (n : Nat) : Fld := ⟨(Reg.AC_CFG n), 31, 1⟩
def AC_CFG_PLOCK (n : Nat) : Fld := ⟨(Reg.AC_CFG n), 30, 1⟩
def AC_CFG_ENGDIR (n : Nat) : Fld := ⟨(Reg.AC_CFG n), 29, 1⟩
def AC_CFG_SUSPCMD (n : Nat) : Fld := ⟨(Reg.AC_CFG n), 28, 1⟩
def AC_CFG_ADOM (n : Nat) : Fld := ⟨(Reg.AC_CFG n), 24, 4⟩
def AC_CFG_RDOM (n : Nat) : Fld := ⟨(Reg.AC_CFG n), 20, 4⟩
def AC_CFG_HSEL (n : Nat) : Fld := ⟨(Reg.AC_CFG n), 18, 2⟩
def AC_CFG_BOFS (n : Nat) : Fld := ⟨(Reg.AC_CFG n), 15, 3⟩
def AC_DT_DCAP (n : Nat) : Fld := ⟨(Reg.AC_DT n), 22, 10⟩
def AC_DT_ADT (n : Nat) : Fld := ⟨(Reg.AC_DT n), 10, 12⟩
def AC_DT_REFT (n : Nat) : Fld := ⟨(Reg.AC_DT n), 0, 8⟩
def AC_HS_GMFILT (n : Nat) : Fld := ⟨(Reg.AC_HS n), 28, 4⟩
def AC_HS_AONTMO (n : Nat) : Fld := ⟨(Reg.AC_HS n), 16, 12⟩
def AC_HS_AHSTMO (n : Nat) : Fld := ⟨(Reg.AC_HS n), 0, 12⟩
def AC_MON_BSUVTH (n : Nat) : Fld := ⟨(Reg.AC_MON n), 28, 4⟩
def AC_MON_BSFILT (n : Nat) : Fld := ⟨(Reg.AC_MON n), 24, 4⟩
def AC_MON_BSPRE (n : Nat) : Fld := ⟨(Reg.AC_MON n), 16, 8⟩
def AC_MON_VDSTH (n : Nat) : Fld := ⟨(Reg.AC_MON n), 8, 6⟩
def AC_MON_VDSBLK (n : Nat) : Fld := ⟨(Reg.AC_MON n), 0, 8⟩
def AC_VAR_VALID (n : Nat) (k : Nat) : Fld := ⟨(Reg.AC_VAR n k), 31, 1⟩
def AC_VAR_TWOLEG (n : Nat) (k : Nat) : Fld := ⟨(Reg.AC_VAR n k), 30, 1⟩
def AC_VAR_DECAY (n : Nat) (k : Nat) : Fld := ⟨(Reg.AC_VAR n k), 29, 1⟩
def AC_VAR_MODE (n : Nat) (k : Nat) : Fld := ⟨(Reg.AC_VAR n k), 4, 2⟩
def AC_VAR_LEGMASK (n : Nat) (k : Nat) : Fld := ⟨(Reg.AC_VAR n k), 0, 3⟩
def AC_DUTY_OVAL (n : Nat) : Fld := ⟨(Reg.AC_DUTY n), 0, 32⟩
def AC_UA_OVAL (n : Nat) : Fld := ⟨(Reg.AC_UA n), 0, 32⟩
def AC_UB_OVAL (n : Nat) : Fld := ⟨(Reg.AC_UB n), 0, 32⟩
def AC_CTL_SUSP (n : Nat) : Fld := ⟨(Reg.AC_CTL n), 5, 1⟩
def AC_CTL_VARP (n : Nat) : Fld := ⟨(Reg.AC_CTL n), 4, 1⟩
def AC_CTL_SCMDP (n : Nat) : Fld := ⟨(Reg.AC_CTL n), 0, 2⟩
def AC_STAT_STATE (n : Nat) : Fld := ⟨(Reg.AC_STAT n), 30, 2⟩
def AC_STAT_VAR (n : Nat) : Fld := ⟨(Reg.AC_STAT n), 29, 1⟩
def AC_STAT_SCMD (n : Nat) : Fld := ⟨(Reg.AC_STAT n), 27, 2⟩
def AC_STAT_SUSPA (n : Nat) : Fld := ⟨(Reg.AC_STAT n), 26, 1⟩
def AC_STAT_CAPF (n : Nat) : Fld := ⟨(Reg.AC_STAT n), 25, 1⟩
def AC_STAT_ISO (n : Nat) : Fld := ⟨(Reg.AC_STAT n), 21, 3⟩
def AC_STAT_KSECT (n : Nat) : Fld := ⟨(Reg.AC_STAT n), 18, 3⟩
def AC_FLAG_VDS (n : Nat) : Fld := ⟨(Reg.AC_FLAG n), 6, 1⟩
def AC_FLAG_BSUV (n : Nat) : Fld := ⟨(Reg.AC_FLAG n), 5, 1⟩
def AC_FLAG_STGUARD (n : Nat) : Fld := ⟨(Reg.AC_FLAG n), 4, 1⟩
def AC_FLAG_NOON (n : Nat) : Fld := ⟨(Reg.AC_FLAG n), 3, 1⟩
def AC_FLAG_GMMISS (n : Nat) : Fld := ⟨(Reg.AC_FLAG n), 2, 1⟩
def AC_FLAG_HALL (n : Nat) : Fld := ⟨(Reg.AC_FLAG n), 1, 1⟩
def AC_FLAG_CAP (n : Nat) : Fld := ⟨(Reg.AC_FLAG n), 0, 1⟩
def AC_CNT_CAP_CNT (n : Nat) : Fld := ⟨(Reg.AC_CNT n), 16, 16⟩
def AC_CNT_ISO_CNT (n : Nat) : Fld := ⟨(Reg.AC_CNT n), 0, 16⟩
def AC_LH_H (n : Nat) (k : Nat) : Fld := ⟨(Reg.AC_LH n k), 0, 32⟩
-- spec/14_containment_degraded_operation.md
def CMP_CFG_EN (n : Nat) : Fld := ⟨(Reg.CMP_CFG n), 31, 1⟩
def CMP_CFG_BLANK (n : Nat) : Fld := ⟨(Reg.CMP_CFG n), 30, 1⟩
def CMP_CFG_ACT (n : Nat) : Fld := ⟨(Reg.CMP_CFG n), 28, 2⟩
def CMP_CFG_EVEN (n : Nat) : Fld := ⟨(Reg.CMP_CFG n), 27, 1⟩
def CMP_CFG_CONV (n : Nat) : Fld := ⟨(Reg.CMP_CFG n), 24, 3⟩
def CMP_CFG_CFILT (n : Nat) : Fld := ⟨(Reg.CMP_CFG n), 20, 3⟩
def CMP_CFG_BLKCH (n : Nat) : Fld := ⟨(Reg.CMP_CFG n), 14, 6⟩
def CMP_CFG_PAIR (n : Nat) : Fld := ⟨(Reg.CMP_CFG n), 8, 6⟩
def CMP_CFG_INPUT (n : Nat) : Fld := ⟨(Reg.CMP_CFG n), 0, 7⟩
def CMP_TH_THHI (n : Nat) : Fld := ⟨(Reg.CMP_TH n), 16, 16⟩
def CMP_TH_THLO (n : Nat) : Fld := ⟨(Reg.CMP_TH n), 0, 16⟩
def CMP_HB_HYS (n : Nat) : Fld := ⟨(Reg.CMP_HB n), 16, 16⟩
def CMP_HB_BLK (n : Nat) : Fld := ⟨(Reg.CMP_HB n), 0, 16⟩
def CMP_STAT_LTCH (n : Nat) : Fld := ⟨(Reg.CMP_STAT n), 31, 1⟩
def CMP_STAT_RAWO (n : Nat) : Fld := ⟨(Reg.CMP_STAT n), 30, 1⟩
def CMP_STAT_UNRES (n : Nat) : Fld := ⟨(Reg.CMP_STAT n), 29, 1⟩
def CMP_STAT_HITR (n : Nat) : Fld := ⟨(Reg.CMP_STAT n), 28, 1⟩
def CMP_STAT_STBUSY (n : Nat) : Fld := ⟨(Reg.CMP_STAT n), 27, 1⟩
def CMP_STAT_STPASS (n : Nat) : Fld := ⟨(Reg.CMP_STAT n), 26, 1⟩
def CMP_STAT_STFAIL (n : Nat) : Fld := ⟨(Reg.CMP_STAT n), 25, 1⟩
def CMP_STAT_CBC (n : Nat) : Fld := ⟨(Reg.CMP_STAT n), 1, 1⟩
def CMP_STAT_TRIP (n : Nat) : Fld := ⟨(Reg.CMP_STAT n), 0, 1⟩
def CMP_CNT_TRIP_CNT (n : Nat) : Fld := ⟨(Reg.CMP_CNT n), 16, 16⟩
def CMP_CNT_CBC_CNT (n : Nat) : Fld := ⟨(Reg.CMP_CNT n), 0, 16⟩
def CMP_TEST_START (n : Nat) : Fld := ⟨(Reg.CMP_TEST n), 31, 1⟩
def CMP_TEST_STREF (n : Nat) : Fld := ⟨(Reg.CMP_TEST n), 30, 1⟩
def PR_CFG_SPEN : Fld := ⟨Reg.PR_CFG, 31, 1⟩
def PR_CFG_SPCMP : Fld := ⟨Reg.PR_CFG, 24, 6⟩
def PR_CFG_OVMASK : Fld := ⟨Reg.PR_CFG, 8, 5⟩
def PR_CFG_ASCEN : Fld := ⟨Reg.PR_CFG, 0, 5⟩
def PR_SUMPT_SPMAXON : Fld := ⟨Reg.PR_SUMPT, 16, 16⟩
def PR_SUMPT_SPMINOFF : Fld := ⟨Reg.PR_SUMPT, 0, 16⟩
def PR_SUMPST_SPON : Fld := ⟨Reg.PR_SUMPST, 31, 1⟩
def PR_SUMPST_SPFORCE : Fld := ⟨Reg.PR_SUMPST, 30, 1⟩
def PR_SUMPST_SPMAX : Fld := ⟨Reg.PR_SUMPST, 29, 1⟩
def PR_SUMPST_SPMAX_CNT : Fld := ⟨Reg.PR_SUMPST, 0, 16⟩
def PR_SH_VALID (n : Nat) : Fld := ⟨(Reg.PR_SH n), 31, 1⟩
def PR_SH_SIDEV (n : Nat) : Fld := ⟨(Reg.PR_SH n), 30, 1⟩
def PR_SH_SIDE (n : Nat) : Fld := ⟨(Reg.PR_SH n), 29, 1⟩
def PR_SH_LEG (n : Nat) : Fld := ⟨(Reg.PR_SH n), 16, 6⟩
def PR_SH_PC (n : Nat) : Fld := ⟨(Reg.PR_SH n), 0, 16⟩
def PR_CONVST_OVACT : Fld := ⟨Reg.PR_CONVST, 8, 5⟩
def PR_CONVST_SHORTTRIP : Fld := ⟨Reg.PR_CONVST, 0, 5⟩
def PR_CNT_SHORT_CNT : Fld := ⟨Reg.PR_CNT, 16, 16⟩
def PR_CNT_OV_CNT : Fld := ⟨Reg.PR_CNT, 0, 16⟩
def PR_REARM_REARMMAX : Fld := ⟨Reg.PR_REARM, 0, 4⟩
def FR_CVAR_VAR (n : Nat) : Fld := ⟨(Reg.FR_CVAR n), 28, 4⟩
def FR_CVAR_VARP (n : Nat) : Fld := ⟨(Reg.FR_CVAR n), 24, 4⟩
def FR_CVAR_PVALID (n : Nat) : Fld := ⟨(Reg.FR_CVAR n), 23, 1⟩
def FR_CVAR_CMDSRC (n : Nat) : Fld := ⟨(Reg.FR_CVAR n), 20, 3⟩
def FR_CVAR_FLAGS (n : Nat) : Fld := ⟨(Reg.FR_CVAR n), 0, 16⟩
def FR_LAST_SRC : Fld := ⟨Reg.FR_LAST, 23, 9⟩
def FR_LAST_CONV : Fld := ⟨Reg.FR_LAST, 20, 3⟩
def FR_LAST_REACT : Fld := ⟨Reg.FR_LAST, 16, 4⟩
def FR_LAST_ARG : Fld := ⟨Reg.FR_LAST, 12, 4⟩
def FR_LAST_SECU : Fld := ⟨Reg.FR_LAST, 11, 1⟩
def FR_CNT_DEC_CNT : Fld := ⟨Reg.FR_CNT, 16, 16⟩
def FR_CNT_NOVAR_CNT : Fld := ⟨Reg.FR_CNT, 0, 16⟩
-- spec/15_safety_thermal_supply.md
def SI_CFG_EN (n : Nat) : Fld := ⟨(Reg.SI_CFG n), 31, 1⟩
def SI_CFG_FUNC (n : Nat) : Fld := ⟨(Reg.SI_CFG n), 28, 3⟩
def SI_CFG_ANTI (n : Nat) : Fld := ⟨(Reg.SI_CFG n), 27, 1⟩
def SI_CFG_AXLE (n : Nat) : Fld := ⟨(Reg.SI_CFG n), 26, 1⟩
def SI_CFG_SFILT (n : Nat) : Fld := ⟨(Reg.SI_CFG n), 16, 8⟩
def SI_CFG_DISC (n : Nat) : Fld := ⟨(Reg.SI_CFG n), 0, 9⟩
def SI_STAT_SISTATE (n : Nat) : Fld := ⟨(Reg.SI_STAT n), 30, 2⟩
def SI_STAT_RDA (n : Nat) : Fld := ⟨(Reg.SI_STAT n), 28, 2⟩
def SI_STAT_RDB (n : Nat) : Fld := ⟨(Reg.SI_STAT n), 26, 2⟩
def SI_STAT_DTMR (n : Nat) : Fld := ⟨(Reg.SI_STAT n), 25, 1⟩
def SI_STAT_DISCF (n : Nat) : Fld := ⟨(Reg.SI_STAT n), 1, 1⟩
def SI_STAT_UNRESF (n : Nat) : Fld := ⟨(Reg.SI_STAT n), 0, 1⟩
def SI_CNT_DEM_CNT (n : Nat) : Fld := ⟨(Reg.SI_CNT n), 16, 16⟩
def SI_CNT_DISC_CNT (n : Nat) : Fld := ⟨(Reg.SI_CNT n), 0, 16⟩
def SO_CFG_EN (n : Nat) : Fld := ⟨(Reg.SO_CFG n), 31, 1⟩
def SO_CFG_SBC (n : Nat) : Fld := ⟨(Reg.SO_CFG n), 30, 1⟩
def SO_CFG_STOD (n : Nat) : Fld := ⟨(Reg.SO_CFG n), 29, 1⟩
def SO_CFG_SBCDLY (n : Nat) : Fld := ⟨(Reg.SO_CFG n), 0, 12⟩
def SO_TIME_TPER (n : Nat) : Fld := ⟨(Reg.SO_TIME n), 22, 10⟩
def SO_TIME_TPW (n : Nat) : Fld := ⟨(Reg.SO_TIME n), 13, 9⟩
def SO_TIME_TRB (n : Nat) : Fld := ⟨(Reg.SO_TIME n), 0, 13⟩
def SO_STAT_ENRG (n : Nat) : Fld := ⟨(Reg.SO_STAT n), 31, 1⟩
def SO_STAT_PIN (n : Nat) : Fld := ⟨(Reg.SO_STAT n), 30, 1⟩
def SO_STAT_RB (n : Nat) : Fld := ⟨(Reg.SO_STAT n), 29, 1⟩
def SO_STAT_FAULT (n : Nat) : Fld := ⟨(Reg.SO_STAT n), 28, 1⟩
def SO_STAT_FCAUSE (n : Nat) : Fld := ⟨(Reg.SO_STAT n), 26, 2⟩
def SO_STAT_CMD (n : Nat) : Fld := ⟨(Reg.SO_STAT n), 25, 1⟩
def SO_STAT_OPENF (n : Nat) : Fld := ⟨(Reg.SO_STAT n), 1, 1⟩
def SO_STAT_STUCKF (n : Nat) : Fld := ⟨(Reg.SO_STAT n), 0, 1⟩
def SO_CNT_TEST_CNT (n : Nat) : Fld := ⟨(Reg.SO_CNT n), 16, 16⟩
def SO_CNT_FAIL_CNT (n : Nat) : Fld := ⟨(Reg.SO_CNT n), 0, 16⟩
def SF_STO_REQ : Fld := ⟨Reg.SF_STO, 31, 1⟩
def SF_STO_SRCP : Fld := ⟨Reg.SF_STO, 30, 1⟩
def SF_STO_SRCS : Fld := ⟨Reg.SF_STO, 29, 1⟩
def SF_STO_SRCL : Fld := ⟨Reg.SF_STO, 28, 1⟩
def SF_STO_SRCC : Fld := ⟨Reg.SF_STO, 27, 1⟩
def SF_STO_WA : Fld := ⟨Reg.SF_STO, 26, 1⟩
def SF_STO_WB : Fld := ⟨Reg.SF_STO, 25, 1⟩
def SF_STO_RBA : Fld := ⟨Reg.SF_STO, 24, 1⟩
def SF_STO_RBB : Fld := ⟨Reg.SF_STO, 23, 1⟩
def SF_STO_SOEN : Fld := ⟨Reg.SF_STO, 22, 1⟩
def SF_STO_STODRV : Fld := ⟨Reg.SF_STO, 2, 1⟩
def SF_STO_STOFB : Fld := ⟨Reg.SF_STO, 1, 1⟩
def SF_STOCFG_STOLAG : Fld := ⟨Reg.SF_STOCFG, 0, 16⟩
def SF_CTL_SCREQ : Fld := ⟨Reg.SF_CTL, 0, 1⟩
def SF_SS1_SS1T : Fld := ⟨Reg.SF_SS1, 16, 16⟩
def SF_SS1_SS1R : Fld := ⟨Reg.SF_SS1, 0, 16⟩
def SF_SLS_SLST : Fld := ⟨Reg.SF_SLS, 24, 8⟩
def SF_SLS_SLSLIM : Fld := ⟨Reg.SF_SLS, 0, 24⟩
def SF_SLSTQ_SLSTQ : Fld := ⟨Reg.SF_SLSTQ, 0, 32⟩
def SF_STAT_SS1A : Fld := ⟨Reg.SF_STAT, 31, 1⟩
def SF_STAT_SLSA : Fld := ⟨Reg.SF_STAT, 30, 1⟩
def SF_STAT_SLSV : Fld := ⟨Reg.SF_STAT, 29, 1⟩
def SF_STAT_SBCD : Fld := ⟨Reg.SF_STAT, 28, 1⟩
def SF_STAT_SS1MS : Fld := ⟨Reg.SF_STAT, 0, 16⟩
def TS_CFG_EN (n : Nat) : Fld := ⟨(Reg.TS_CFG n), 31, 1⟩
def TS_CFG_MODE (n : Nat) : Fld := ⟨(Reg.TS_CFG n), 29, 2⟩
def TS_CFG_CONV (n : Nat) : Fld := ⟨(Reg.TS_CFG n), 26, 3⟩
def TS_CFG_LIN (n : Nat) : Fld := ⟨(Reg.TS_CFG n), 24, 2⟩
def TS_CFG_TAGREE (n : Nat) : Fld := ⟨(Reg.TS_CFG n), 16, 8⟩
def TS_CFG_DG (n : Nat) : Fld := ⟨(Reg.TS_CFG n), 0, 16⟩
def TS_THA_TW (n : Nat) : Fld := ⟨(Reg.TS_THA n), 16, 16⟩
def TS_THA_TT (n : Nat) : Fld := ⟨(Reg.TS_THA n), 0, 16⟩
def TS_THB_TSH (n : Nat) : Fld := ⟨(Reg.TS_THB n), 16, 16⟩
def TS_THB_HYS (n : Nat) : Fld := ⟨(Reg.TS_THB n), 0, 16⟩
def TS_VAL_READ (n : Nat) : Fld := ⟨(Reg.TS_VAL n), 16, 16⟩
def TS_VAL_VALID (n : Nat) : Fld := ⟨(Reg.TS_VAL n), 15, 1⟩
def TS_VAL_TSTATE (n : Nat) : Fld := ⟨(Reg.TS_VAL n), 13, 2⟩
def TS_VAL_INVF (n : Nat) : Fld := ⟨(Reg.TS_VAL n), 0, 1⟩
def TS_THL_THLIM (n : Nat) : Fld := ⟨(Reg.TS_THL n), 0, 32⟩
def TS_NVM_NVMTMAX : Fld := ⟨Reg.TS_NVM, 16, 16⟩
def TS_NVM_NVMTMIN : Fld := ⟨Reg.TS_NVM, 0, 16⟩
def TS_LINB_LINB : Fld := ⟨Reg.TS_LINB, 0, 21⟩
def TS_STAT_NVMOK : Fld := ⟨Reg.TS_STAT, 31, 1⟩
def TS_STAT_NVMT : Fld := ⟨Reg.TS_STAT, 30, 1⟩
def SUP_L12_L1 : Fld := ⟨Reg.SUP_L12, 16, 16⟩
def SUP_L12_L2 : Fld := ⟨Reg.SUP_L12, 0, 16⟩
def SUP_L34_L3 : Fld := ⟨Reg.SUP_L34, 16, 16⟩
def SUP_L34_L4 : Fld := ⟨Reg.SUP_L34, 0, 16⟩
def SUP_L5_L5 : Fld := ⟨Reg.SUP_L5, 16, 16⟩
def SUP_L5_SAGHYS : Fld := ⟨Reg.SUP_L5, 0, 16⟩
def SUP_SAGT_SAGF : Fld := ⟨Reg.SUP_SAGT, 24, 8⟩
def SUP_SAGT_SAGRT : Fld := ⟨Reg.SUP_SAGT, 12, 12⟩
def SUP_SAGT_SAGRAMP : Fld := ⟨Reg.SUP_SAGT, 0, 12⟩
def SUP_STAT_VSYSV : Fld := ⟨Reg.SUP_STAT, 16, 16⟩
def SUP_STAT_SAGLVL : Fld := ⟨Reg.SUP_STAT, 13, 3⟩
def SUP_STAT_SEAL : Fld := ⟨Reg.SUP_STAT, 12, 1⟩
def SUP_STAT_VDRVF : Fld := ⟨Reg.SUP_STAT, 3, 1⟩
def SUP_STAT_IOF : Fld := ⟨Reg.SUP_STAT, 2, 1⟩
def SUP_STAT_ANAF : Fld := ⟨Reg.SUP_STAT, 1, 1⟩
def SUP_STAT_COREF : Fld := ⟨Reg.SUP_STAT, 0, 1⟩
-- spec/16_vehicle_link.md
def CAN_CFG_EN (n : Nat) : Fld := ⟨(Reg.CAN_CFG n), 31, 1⟩
def CAN_CFG_FDOE (n : Nat) : Fld := ⟨(Reg.CAN_CFG n), 30, 1⟩
def CAN_CFG_BRSE (n : Nat) : Fld := ⟨(Reg.CAN_CFG n), 29, 1⟩
def CAN_CFG_PXE (n : Nat) : Fld := ⟨(Reg.CAN_CFG n), 28, 1⟩
def CAN_CFG_BOHOLD (n : Nat) : Fld := ⟨(Reg.CAN_CFG n), 8, 8⟩
def CAN_NBT_NTSEG1 (n : Nat) : Fld := ⟨(Reg.CAN_NBT n), 24, 8⟩
def CAN_NBT_NTSEG2 (n : Nat) : Fld := ⟨(Reg.CAN_NBT n), 17, 7⟩
def CAN_NBT_NSJW (n : Nat) : Fld := ⟨(Reg.CAN_NBT n), 10, 7⟩
def CAN_NBT_NBRP (n : Nat) : Fld := ⟨(Reg.CAN_NBT n), 0, 6⟩
def CAN_DBT_DTSEG1 (n : Nat) : Fld := ⟨(Reg.CAN_DBT n), 24, 5⟩
def CAN_DBT_DTSEG2 (n : Nat) : Fld := ⟨(Reg.CAN_DBT n), 16, 5⟩
def CAN_DBT_DSJW (n : Nat) : Fld := ⟨(Reg.CAN_DBT n), 8, 5⟩
def CAN_DBT_DBRP (n : Nat) : Fld := ⟨(Reg.CAN_DBT n), 0, 4⟩
def CAN_TDC_TDCE (n : Nat) : Fld := ⟨(Reg.CAN_TDC n), 31, 1⟩
def CAN_TDC_TDCO (n : Nat) : Fld := ⟨(Reg.CAN_TDC n), 16, 7⟩
def CAN_TDC_TDCF (n : Nat) : Fld := ⟨(Reg.CAN_TDC n), 0, 7⟩
def CAN_STAT_CSTATE (n : Nat) : Fld := ⟨(Reg.CAN_STAT n), 29, 3⟩
def CAN_STAT_TEC (n : Nat) : Fld := ⟨(Reg.CAN_STAT n), 16, 8⟩
def CAN_STAT_REC (n : Nat) : Fld := ⟨(Reg.CAN_STAT n), 8, 8⟩
def CAN_STAT_TDCV (n : Nat) : Fld := ⟨(Reg.CAN_STAT n), 0, 8⟩
def CAN_LEC_DLEC (n : Nat) : Fld := ⟨(Reg.CAN_LEC n), 4, 3⟩
def CAN_LEC_LEC (n : Nat) : Fld := ⟨(Reg.CAN_LEC n), 0, 3⟩
def CAN_FLAG_PXEF (n : Nat) : Fld := ⟨(Reg.CAN_FLAG n), 4, 1⟩
def CAN_FLAG_RXOVF (n : Nat) : Fld := ⟨(Reg.CAN_FLAG n), 3, 1⟩
def CAN_FLAG_BOFF (n : Nat) : Fld := ⟨(Reg.CAN_FLAG n), 2, 1⟩
def CAN_FLAG_EPASS (n : Nat) : Fld := ⟨(Reg.CAN_FLAG n), 1, 1⟩
def CAN_FLAG_EWARN (n : Nat) : Fld := ⟨(Reg.CAN_FLAG n), 0, 1⟩
def CAN_CNT_ERR_CNT (n : Nat) : Fld := ⟨(Reg.CAN_CNT n), 16, 16⟩
def CAN_CNT_RXOVF_CNT (n : Nat) : Fld := ⟨(Reg.CAN_CNT n), 0, 16⟩
def CAN_CNT2_BOFF_CNT (n : Nat) : Fld := ⟨(Reg.CAN_CNT2 n), 16, 16⟩
def CAN_CNT2_PXE_CNT (n : Nat) : Fld := ⟨(Reg.CAN_CNT2 n), 0, 16⟩
def CAN_TXS_TXREQ (n : Nat) : Fld := ⟨(Reg.CAN_TXS n), 16, 8⟩
def CAN_TXS_TXOK (n : Nat) : Fld := ⟨(Reg.CAN_TXS n), 8, 8⟩
def CAN_TXS_TXERR (n : Nat) : Fld := ⟨(Reg.CAN_TXS n), 0, 8⟩
def CAN_RXS_RXFULL (n : Nat) : Fld := ⟨(Reg.CAN_RXS n), 0, 16⟩
def CAN_FID_FEN (n : Nat) (k : Nat) : Fld := ⟨(Reg.CAN_FID n k), 31, 1⟩
def CAN_FID_FIDE (n : Nat) (k : Nat) : Fld := ⟨(Reg.CAN_FID n k), 30, 1⟩
def CAN_FID_FFDO (n : Nat) (k : Nat) : Fld := ⟨(Reg.CAN_FID n k), 29, 1⟩
def CAN_FID_FID (n : Nat) (k : Nat) : Fld := ⟨(Reg.CAN_FID n k), 0, 29⟩
def CAN_FMSK_FMSK (n : Nat) (k : Nat) : Fld := ⟨(Reg.CAN_FMSK n k), 0, 29⟩
def AL_CFG_EN : Fld := ⟨Reg.AL_CFG, 31, 1⟩
def AL_CFG_DUALEN : Fld := ⟨Reg.AL_CFG, 30, 1⟩
def AL_CFG_PRI : Fld := ⟨Reg.AL_CFG, 24, 2⟩
def AL_CFG_SEC : Fld := ⟨Reg.AL_CFG, 20, 3⟩
def AL_CFG_NODE : Fld := ⟨Reg.AL_CFG, 16, 4⟩
def AL_CFG_ALIDB : Fld := ⟨Reg.AL_CFG, 8, 3⟩
def AL_CFG_VMIN : Fld := ⟨Reg.AL_CFG, 0, 8⟩
def AL_TIME_CMDTMO : Fld := ⟨Reg.AL_TIME, 16, 16⟩
def AL_TIME_STATT : Fld := ⟨Reg.AL_TIME, 0, 16⟩
def AL_TIME2_FOHOLD : Fld := ⟨Reg.AL_TIME2, 16, 16⟩
def AL_TIME2_ANNT : Fld := ⟨Reg.AL_TIME2, 0, 16⟩
def AL_MAP_EVMIN : Fld := ⟨Reg.AL_MAP, 30, 2⟩
def AL_MAP_PF1EN : Fld := ⟨Reg.AL_MAP, 29, 1⟩
def AL_MAP_PF0EN : Fld := ⟨Reg.AL_MAP, 28, 1⟩
def AL_MAP_PF1 : Fld := ⟨Reg.AL_MAP, 24, 4⟩
def AL_MAP_PF0 : Fld := ⟨Reg.AL_MAP, 20, 4⟩
def AL_MAP_AXWB : Fld := ⟨Reg.AL_MAP, 0, 9⟩
def AL_SOLOSS_SOLOSS : Fld := ⟨Reg.AL_SOLOSS, 0, 8⟩
def AL_STAT_SSTATE : Fld := ⟨Reg.AL_STAT, 29, 3⟩
def AL_STAT_DUAL : Fld := ⟨Reg.AL_STAT, 28, 1⟩
def AL_STAT_APATH : Fld := ⟨Reg.AL_STAT, 26, 2⟩
def AL_STAT_PPATH : Fld := ⟨Reg.AL_STAT, 25, 1⟩
def AL_STAT_SPATH : Fld := ⟨Reg.AL_STAT, 24, 1⟩
def AL_STAT_VER : Fld := ⟨Reg.AL_STAT, 16, 8⟩
def AL_STAT_SID : Fld := ⟨Reg.AL_STAT, 0, 16⟩
def AL_FLAG_EVLOST : Fld := ⟨Reg.AL_FLAG, 4, 1⟩
def AL_FLAG_TXLATE : Fld := ⟨Reg.AL_FLAG, 3, 1⟩
def AL_FLAG_FMT : Fld := ⟨Reg.AL_FLAG, 2, 1⟩
def AL_FLAG_LOSS : Fld := ⟨Reg.AL_FLAG, 1, 1⟩
def AL_FLAG_FAILOVER : Fld := ⟨Reg.AL_FLAG, 0, 1⟩
def AL_CNT_ACC_CNT : Fld := ⟨Reg.AL_CNT, 16, 16⟩
def AL_CNT_FMT_CNT : Fld := ⟨Reg.AL_CNT, 0, 16⟩
def AL_CNT2_LOSS_CNT : Fld := ⟨Reg.AL_CNT2, 16, 16⟩
def AL_CNT2_EVLOST_CNT : Fld := ⟨Reg.AL_CNT2, 0, 16⟩
-- spec/17_memory_galleries.md
def MP_CTRL_SCRUBDIV : Fld := ⟨Reg.MP_CTRL, 0, 16⟩
def MP_STAT_SCRUB_PASS : Fld := ⟨Reg.MP_STAT, 16, 16⟩
def MP_STAT_STPASS : Fld := ⟨Reg.MP_STAT, 7, 1⟩
def MP_STAT_STFAIL : Fld := ⟨Reg.MP_STAT, 6, 1⟩
def MP_STAT_HARD : Fld := ⟨Reg.MP_STAT, 4, 1⟩
def MP_STAT_MIRDIF : Fld := ⟨Reg.MP_STAT, 3, 1⟩
def MP_STAT_LATENT : Fld := ⟨Reg.MP_STAT, 2, 1⟩
def MP_STAT_UNCORR : Fld := ⟨Reg.MP_STAT, 1, 1⟩
def MP_STAT_CORR : Fld := ⟨Reg.MP_STAT, 0, 1⟩
def MP_CNT_CORR_CNT : Fld := ⟨Reg.MP_CNT, 16, 16⟩
def MP_CNT_UNCORR_CNT : Fld := ⟨Reg.MP_CNT, 0, 16⟩
def MP_CNT2_LATENT_CNT : Fld := ⟨Reg.MP_CNT2, 16, 16⟩
def MP_CNT2_MIRDIF_CNT : Fld := ⟨Reg.MP_CNT2, 0, 16⟩
def MP_CERR_BANK : Fld := ⟨Reg.MP_CERR, 30, 2⟩
def MP_CERR_ADDR : Fld := ⟨Reg.MP_CERR, 0, 24⟩
def MP_UERR_REQ : Fld := ⟨Reg.MP_UERR, 28, 4⟩
def MP_UERR_ADDR : Fld := ⟨Reg.MP_UERR, 0, 24⟩
def MP_LERR_BANK : Fld := ⟨Reg.MP_LERR, 30, 2⟩
def MP_LERR_MDIF : Fld := ⟨Reg.MP_LERR, 29, 1⟩
def MP_LERR_ADDR : Fld := ⟨Reg.MP_LERR, 0, 24⟩
def MP_HERR_BANK : Fld := ⟨Reg.MP_HERR, 30, 2⟩
def MP_HERR_ADDR : Fld := ⟨Reg.MP_HERR, 0, 24⟩
def MP_FLIP_ARM : Fld := ⟨Reg.MP_FLIP, 31, 1⟩
def MP_FLIP_DONE : Fld := ⟨Reg.MP_FLIP, 30, 1⟩
def MP_FLIP_BANK : Fld := ⟨Reg.MP_FLIP, 20, 2⟩
def MP_FLIP_MASK : Fld := ⟨Reg.MP_FLIP, 0, 4⟩
def MP_FLIPA_FADDR : Fld := ⟨Reg.MP_FLIPA, 2, 22⟩
def MP_STADR_BANK : Fld := ⟨Reg.MP_STADR, 30, 2⟩
def MP_STADR_ADDR : Fld := ⟨Reg.MP_STADR, 0, 24⟩
def GQ_CFG_EN (n : Nat) : Fld := ⟨(Reg.GQ_CFG n), 31, 1⟩
def GQ_CFG_OVW (n : Nat) : Fld := ⟨(Reg.GQ_CFG n), 30, 1⟩
def GQ_CFG_CONV (n : Nat) : Fld := ⟨(Reg.GQ_CFG n), 24, 3⟩
def GQ_CFG_IW (n : Nat) : Fld := ⟨(Reg.GQ_CFG n), 22, 2⟩
def GQ_CFG_NSLOT (n : Nat) : Fld := ⟨(Reg.GQ_CFG n), 0, 16⟩
def GQ_BASE_BASE (n : Nat) : Fld := ⟨(Reg.GQ_BASE n), 0, 19⟩
def GQ_STAT_NCL (n : Nat) : Fld := ⟨(Reg.GQ_STAT n), 16, 16⟩
def GQ_STAT_SEAL (n : Nat) : Fld := ⟨(Reg.GQ_STAT n), 15, 1⟩
def GQ_STAT_PTRERR (n : Nat) : Fld := ⟨(Reg.GQ_STAT n), 14, 1⟩
def GQ_STAT_DROP (n : Nat) : Fld := ⟨(Reg.GQ_STAT n), 13, 1⟩
def GQ_STAT_OVWF (n : Nat) : Fld := ⟨(Reg.GQ_STAT n), 12, 1⟩
def GQ_STAT_OVB (n : Nat) : Fld := ⟨(Reg.GQ_STAT n), 0, 4⟩
def GQ_POPTAG_IDLE (n : Nat) : Fld := ⟨(Reg.GQ_POPTAG n), 15, 1⟩
def GQ_POPTAG_PERR (n : Nat) : Fld := ⟨(Reg.GQ_POPTAG n), 14, 1⟩
def GQ_POPTAG_TAG (n : Nat) : Fld := ⟨(Reg.GQ_POPTAG n), 0, 8⟩
def GQ_LD0_LDATA (n : Nat) : Fld := ⟨(Reg.GQ_LD0 n), 0, 32⟩
def GQ_LD1_LDATA (n : Nat) : Fld := ⟨(Reg.GQ_LD1 n), 0, 32⟩
def GQ_PKT_PKT_IN (n : Nat) : Fld := ⟨(Reg.GQ_PKT n), 16, 16⟩
def GQ_PKT_PKT_OUT (n : Nat) : Fld := ⟨(Reg.GQ_PKT n), 0, 16⟩
def GQ_CNT_DROP_CNT (n : Nat) : Fld := ⟨(Reg.GQ_CNT n), 16, 16⟩
def GQ_CNT_OVW_CNT (n : Nat) : Fld := ⟨(Reg.GQ_CNT n), 0, 16⟩
def GQ_CNT2_RST_CNT (n : Nat) : Fld := ⟨(Reg.GQ_CNT2 n), 0, 16⟩
def GQ_PUSH_PVAL (n : Nat) : Fld := ⟨(Reg.GQ_PUSH n), 0, 32⟩
def GQ_PUSHE_PVAL (n : Nat) : Fld := ⟨(Reg.GQ_PUSHE n), 0, 32⟩
def GQ_END_PVAL (n : Nat) : Fld := ⟨(Reg.GQ_END n), 0, 32⟩
-- spec/18_startup_image.md
def DEV_ID_VENDOR : Fld := ⟨Reg.DEV_ID, 20, 12⟩
def DEV_ID_PART : Fld := ⟨Reg.DEV_ID, 8, 12⟩
def DEV_ID_MAJOR : Fld := ⟨Reg.DEV_ID, 4, 4⟩
def DEV_ID_MINOR : Fld := ⟨Reg.DEV_ID, 0, 4⟩
def LT_STAT_SLOT : Fld := ⟨Reg.LT_STAT, 30, 2⟩
def LT_STAT_DEFAULTS_IN_USE : Fld := ⟨Reg.LT_STAT, 29, 1⟩
def LT_STAT_AUTH : Fld := ⟨Reg.LT_STAT, 28, 1⟩
def LT_STAT_FMT : Fld := ⟨Reg.LT_STAT, 24, 4⟩
def LT_STAT_FMODE : Fld := ⟨Reg.LT_STAT, 20, 4⟩
def LT_STAT_ADDR4 : Fld := ⟨Reg.LT_STAT, 19, 1⟩
def LT_STAT_STEP : Fld := ⟨Reg.LT_STAT, 8, 8⟩
def LT_FAIL_CAUSEA : Fld := ⟨Reg.LT_FAIL, 28, 4⟩
def LT_FAIL_SECA : Fld := ⟨Reg.LT_FAIL, 22, 6⟩
def LT_FAIL_SVA : Fld := ⟨Reg.LT_FAIL, 21, 1⟩
def LT_FAIL_CAUSEB : Fld := ⟨Reg.LT_FAIL, 12, 4⟩
def LT_FAIL_SECB : Fld := ⟨Reg.LT_FAIL, 6, 6⟩
def LT_FAIL_SVB : Fld := ⟨Reg.LT_FAIL, 5, 1⟩
def LT_ICRC_LVAL : Fld := ⟨Reg.LT_ICRC, 0, 32⟩
def LT_BUILD_LVAL : Fld := ⟨Reg.LT_BUILD, 0, 32⟩
def LT_FLASH_DLOG : Fld := ⟨Reg.LT_FLASH, 24, 8⟩
def LT_FLASH_ESLOG : Fld := ⟨Reg.LT_FLASH, 16, 8⟩
def LT_TIME_TLOAD : Fld := ⟨Reg.LT_TIME, 16, 16⟩
def LT_TIME_TREADY : Fld := ⟨Reg.LT_TIME, 0, 16⟩
def LT_CTL_FREL : Fld := ⟨Reg.LT_CTL, 0, 1⟩
def LT_FLCFG_FLMIN : Fld := ⟨Reg.LT_FLCFG, 0, 2⟩
def LT_FLSTAT_FLON : Fld := ⟨Reg.LT_FLSTAT, 31, 1⟩
def LT_FLSTAT_FLSTOP : Fld := ⟨Reg.LT_FLSTAT, 30, 1⟩
def LT_FLSTAT_QLEN : Fld := ⟨Reg.LT_FLSTAT, 16, 8⟩
def LT_FLSTAT_BOOT : Fld := ⟨Reg.LT_FLSTAT, 0, 16⟩
def LT_FLCNT_FLWR_CNT : Fld := ⟨Reg.LT_FLCNT, 16, 16⟩
def LT_FLCNT_FLDROP_CNT : Fld := ⟨Reg.LT_FLCNT, 0, 16⟩
def LT_FLSEQ_LVAL : Fld := ⟨Reg.LT_FLSEQ, 0, 32⟩
def OTP_STAT_KEYF : Fld := ⟨Reg.OTP_STAT, 31, 1⟩
def OTP_STAT_FRELDIS : Fld := ⟨Reg.OTP_STAT, 30, 1⟩
def OTP_STAT_FMT2DIS : Fld := ⟨Reg.OTP_STAT, 29, 1⟩
def OTP_STAT_TRIMOK : Fld := ⟨Reg.OTP_STAT, 28, 1⟩
def OTP_STAT_PBUSY : Fld := ⟨Reg.OTP_STAT, 27, 1⟩
def OTP_STAT_PERR : Fld := ⟨Reg.OTP_STAT, 26, 1⟩
def OTP_KEYW_KW (n : Nat) : Fld := ⟨(Reg.OTP_KEYW n), 0, 32⟩
def OTP_PROG_PCODE : Fld := ⟨Reg.OTP_PROG, 16, 16⟩
def OTP_PROG_OP : Fld := ⟨Reg.OTP_PROG, 0, 2⟩
-- spec/19_service_port_events.md
def SYS_STAT_RSTC : Fld := ⟨Reg.SYS_STAT, 30, 2⟩
def SYS_STAT_UNL : Fld := ⟨Reg.SYS_STAT, 29, 1⟩
def SYS_STAT_SYS_STATE : Fld := ⟨Reg.SYS_STAT, 0, 4⟩
def SYS_RST_CODE : Fld := ⟨Reg.SYS_RST, 0, 16⟩
def SP_CFG_UNLEN : Fld := ⟨Reg.SP_CFG, 31, 1⟩
def SP_STAT_DENYF : Fld := ⟨Reg.SP_STAT, 1, 1⟩
def SP_STAT_CRCF : Fld := ⟨Reg.SP_STAT, 0, 1⟩
def SP_CNT_ABORT_CNT : Fld := ⟨Reg.SP_CNT, 24, 8⟩
def SP_CNT_DENY_CNT : Fld := ⟨Reg.SP_CNT, 12, 12⟩
def SP_CNT_CRC_CNT : Fld := ⟨Reg.SP_CNT, 0, 12⟩
def SP_UNLOCK_KEY : Fld := ⟨Reg.SP_UNLOCK, 16, 16⟩
def SP_UNLOCK_DUR : Fld := ⟨Reg.SP_UNLOCK, 0, 10⟩
def CG_REQ_GROUP : Fld := ⟨Reg.CG_REQ, 0, 10⟩
def CG_SPSTAT_RES : Fld := ⟨Reg.CG_SPSTAT, 28, 4⟩
def CG_SPSTAT_GROUP : Fld := ⟨Reg.CG_SPSTAT, 16, 10⟩
def CG_CNT_DONE_CNT : Fld := ⟨Reg.CG_CNT, 16, 16⟩
def CG_CNT_REJ_CNT : Fld := ⟨Reg.CG_CNT, 0, 16⟩
def EV_PEND_FPEND (n : Nat) : Fld := ⟨(Reg.EV_PEND n), 16, 16⟩
def EV_PEND_PEND (n : Nat) : Fld := ⟨(Reg.EV_PEND n), 0, 16⟩
def EV_EN_FLTEN (n : Nat) : Fld := ⟨(Reg.EV_EN n), 16, 16⟩
def EV_EN_IRQEN (n : Nat) : Fld := ⟨(Reg.EV_EN n), 0, 16⟩
def EV_SUM_SUM : Fld := ⟨Reg.EV_SUM, 0, 32⟩
def EV_SEQ_SEQV : Fld := ⟨Reg.EV_SEQ, 0, 32⟩
def EV_CNT_LOST_CNT : Fld := ⟨Reg.EV_CNT, 0, 16⟩
def TR_CFG_EN : Fld := ⟨Reg.TR_CFG, 31, 1⟩
def TR_CFG_TDOM : Fld := ⟨Reg.TR_CFG, 24, 4⟩
def TR_CFG_NCH : Fld := ⟨Reg.TR_CFG, 0, 4⟩
def TR_TRIG_TCONV : Fld := ⟨Reg.TR_TRIG, 12, 3⟩
def TR_TRIG_TSRC : Fld := ⟨Reg.TR_TRIG, 0, 9⟩
def TR_CNT_PRE : Fld := ⟨Reg.TR_CNT, 16, 11⟩
def TR_CNT_POST : Fld := ⟨Reg.TR_CNT, 0, 11⟩
def TR_CTL_FORCE : Fld := ⟨Reg.TR_CTL, 1, 1⟩
def TR_CTL_ARM : Fld := ⟨Reg.TR_CTL, 0, 1⟩
def TR_STAT_TSTATE : Fld := ⟨Reg.TR_STAT, 30, 2⟩
def TR_STAT_TIDX : Fld := ⟨Reg.TR_STAT, 16, 11⟩
def TR_STAT_WIDX : Fld := ⟨Reg.TR_STAT, 0, 11⟩
def TR_ADDR_TADDR (n : Nat) : Fld := ⟨(Reg.TR_ADDR n), 0, 24⟩
-- spec/20_electrical_package.md
def IO_STAT_CLSC : Fld := ⟨Reg.IO_STAT, 1, 1⟩
def IO_STAT_CLSA : Fld := ⟨Reg.IO_STAT, 0, 1⟩

end Sys2Proof.Machine.F
end

