-- ==== Sys2Proof/Machine/RegMap.lean ====
section
/-! DEFINITION. The access types of the register map: for every register of the manual the bits of each access type
(R14 and the access table of "Scope and Conventions"), its reset word (R13) and the image defaults (R2), as the chapters'
register tables give them. -/

namespace Sys2Proof.Machine

/-- One register, or an array of registers in up to two dimensions: the address of its first word, the count and stride of
each dimension, the reset word, and the bits of each access type. `imgMask` marks the fields that Lantern loads from the image
("(img)"), and `dflt` holds the stated defaults of those fields. -/
structure RegRow where
  base : Nat
  n1 : Nat
  s1 : Nat
  n2 : Nat
  s2 : Nat
  reset : Nat
  rw : Nat
  wo : Nat
  w1c : Nat
  rc : Nat
  imgMask : Nat
  dflt : Nat
  deriving DecidableEq, Repr

/-- Whether the row holds the register at address `a`. -/
def RegRow.holds (r : RegRow) (a : Nat) : Bool :=
  r.base ≤ a && (a - r.base) / r.s1 < r.n1 && (a - r.base) % r.s1 % r.s2 == 0 && (a - r.base) % r.s1 / r.s2 < r.n2

def regRows0 : List RegRow := [
  -- DEV_ID
  ⟨0x000000, 1, 0x4, 1, 0x4, 0x4B196010, 0x0, 0x0, 0x0, 0x0, 0x0, 0x0⟩,
  -- SYS_STAT
  ⟨0x000004, 1, 0x4, 1, 0x4, 0x0, 0x0, 0x0, 0x0, 0x0, 0x0, 0x0⟩,
  -- SYS_RST
  ⟨0x000008, 1, 0x4, 1, 0x4, 0x0, 0x0, 0xFFFF, 0x0, 0x0, 0x0, 0x0⟩,
  -- SP_CFG
  ⟨0x000010, 1, 0x4, 1, 0x4, 0x0, 0x0, 0x0, 0x0, 0x0, 0x80000000, 0x80000000⟩,
  -- SP_STAT
  ⟨0x000014, 1, 0x4, 1, 0x4, 0x0, 0x0, 0x0, 0x3, 0x0, 0x0, 0x0⟩,
  -- SP_CNT
  ⟨0x000018, 1, 0x4, 1, 0x4, 0x0, 0x0, 0x0, 0x0, 0xFFFFFFFF, 0x0, 0x0⟩,
  -- SP_UNLOCK
  ⟨0x00001C, 1, 0x4, 1, 0x4, 0x0, 0x0, 0xFFFF03FF, 0x0, 0x0, 0x0, 0x0⟩,
  -- IO_STAT
  ⟨0x000020, 1, 0x4, 1, 0x4, 0x0, 0x0, 0x0, 0x0, 0x0, 0x0, 0x0⟩,
  -- LT_STAT
  ⟨0x000200, 1, 0x4, 1, 0x4, 0x0, 0x0, 0x0, 0x0, 0x0, 0x0, 0x0⟩,
  -- LT_FAIL
  ⟨0x000204, 1, 0x4, 1, 0x4, 0x0, 0x0, 0x0, 0x0, 0x0, 0x0, 0x0⟩,
  -- LT_ICRC
  ⟨0x000208, 1, 0x4, 1, 0x4, 0x0, 0x0, 0x0, 0x0, 0x0, 0x0, 0x0⟩,
  -- LT_BUILD
  ⟨0x00020C, 1, 0x4, 1, 0x4, 0x0, 0x0, 0x0, 0x0, 0x0, 0x0, 0x0⟩,
  -- LT_FLASH
  ⟨0x000210, 1, 0x4, 1, 0x4, 0x0, 0x0, 0x0, 0x0, 0x0, 0x0, 0x0⟩,
  -- LT_TIME
  ⟨0x000214, 1, 0x4, 1, 0x4, 0x0, 0x0, 0x0, 0x0, 0x0, 0x0, 0x0⟩,
  -- LT_CTL
  ⟨0x000218, 1, 0x4, 1, 0x4, 0x0, 0x1, 0x0, 0x0, 0x0, 0x0, 0x0⟩,
  -- LT_FLCFG
  ⟨0x000220, 1, 0x4, 1, 0x4, 0x0, 0x0, 0x0, 0x0, 0x0, 0x3, 0x3⟩,
  -- LT_FLSTAT
  ⟨0x000224, 1, 0x4, 1, 0x4, 0x0, 0x0, 0x0, 0x0, 0x0, 0x0, 0x0⟩,
  -- LT_FLCNT
  ⟨0x000228, 1, 0x4, 1, 0x4, 0x0, 0x0, 0x0, 0x0, 0xFFFFFFFF, 0x0, 0x0⟩,
  -- LT_FLSEQ
  ⟨0x00022C, 1, 0x4, 1, 0x4, 0x0, 0x0, 0x0, 0x0, 0x0, 0x0, 0x0⟩,
  -- OTP_STAT
  ⟨0x000280, 1, 0x4, 1, 0x4, 0x0, 0x0, 0x0, 0x4000000, 0x0, 0x0, 0x0⟩,
  -- OTP_KEYW
  ⟨0x000284, 4, 0x4, 1, 0x4, 0x0, 0x0, 0xFFFFFFFF, 0x0, 0x0, 0x0, 0x0⟩,
  -- OTP_PROG
  ⟨0x000294, 1, 0x4, 1, 0x4, 0x0, 0x0, 0xFFFF0003, 0x0, 0x0, 0x0, 0x0⟩,
  -- CG_REQ
  ⟨0x000400, 1, 0x4, 1, 0x4, 0x0, 0x0, 0x3FF, 0x0, 0x0, 0x0, 0x0⟩,
  -- CG_SPSTAT
  ⟨0x000404, 1, 0x4, 1, 0x4, 0x0, 0x0, 0x0, 0x0, 0x0, 0x0, 0x0⟩,
  -- CG_CNT
  ⟨0x000408, 1, 0x4, 1, 0x4, 0x0, 0x0, 0x0, 0x0, 0xFFFFFFFF, 0x0, 0x0⟩,
  -- AD_CFG
  ⟨0x010000, 16, 0x40, 1, 0x4, 0x0, 0xFFFF0F0F, 0x0, 0x0, 0x0, 0xFFFF0F0F, 0x0⟩,
  -- AD_GAIN
  ⟨0x010004, 16, 0x40, 1, 0x4, 0x0, 0xFF0F1F0F, 0x0, 0x0, 0x0, 0xFF0F1F0F, 0x41101⟩,
  -- AD_WIN
  ⟨0x010008, 16, 0x40, 1, 0x4, 0x0, 0xFFFFFFFF, 0x0, 0x0, 0x0, 0xFFFFFFFF, 0x1001000⟩,
  -- AD_TIME
  ⟨0x01000C, 16, 0x40, 1, 0x4, 0x0, 0xFFFFFFFF, 0x0, 0x0, 0x0, 0xFFFFFFFF, 0x3E800C8⟩,
  -- AD_RSET_HI
  ⟨0x010010, 16, 0x40, 1, 0x4, 0x0, 0xFFFFFFFF, 0x0, 0x0, 0x0, 0xFFFFFFFF, 0x0⟩,
  -- AD_RSET_LO
  ⟨0x010014, 16, 0x40, 1, 0x4, 0x0, 0xFFFF, 0x0, 0x0, 0x0, 0xFFFF, 0x0⟩,
  -- AD_RMAX
  ⟨0x010018, 16, 0x40, 1, 0x4, 0x0, 0xFFFFFF, 0x0, 0x0, 0x0, 0xFFFFFF, 0x0⟩,
  -- AD_BND
  ⟨0x01001C, 16, 0x40, 1, 0x4, 0x0, 0xFFFFFFFF, 0x0, 0x0, 0x0, 0xFFFFFFFF, 0x0⟩,
  -- AD_OFS
  ⟨0x010020, 16, 0x40, 1, 0x4, 0x0, 0xFFFFFFFF, 0x0, 0x0, 0x0, 0xFFFFFFFF, 0x0⟩,
  -- AD_THR
  ⟨0x010024, 16, 0x40, 1, 0x4, 0x0, 0xFFFFFFFF, 0x0, 0x0, 0x0, 0xFFFFFFFF, 0x3E80010⟩,
  -- AD_CTRL
  ⟨0x010028, 16, 0x40, 1, 0x4, 0x0, 0x1, 0x0, 0x0, 0x0, 0x0, 0x0⟩,
  -- AD_ANGLE
  ⟨0x01002C, 16, 0x40, 1, 0x4, 0x0, 0x0, 0x0, 0x0, 0x0, 0x0, 0x0⟩,
  -- AD_RATE_HI
  ⟨0x010030, 16, 0x40, 1, 0x4, 0x0, 0x0, 0x0, 0x0, 0x0, 0x0, 0x0⟩,
  -- AD_RATE_LO
  ⟨0x010034, 16, 0x40, 1, 0x4, 0x0, 0x0, 0x0, 0x0, 0x0, 0x0, 0x0⟩,
  -- AD_ERR
  ⟨0x010038, 16, 0x40, 1, 0x4, 0x0, 0x0, 0x0, 0x0, 0x0, 0x0, 0x0⟩,
  -- AD_STAT
  ⟨0x01003C, 16, 0x40, 1, 0x4, 0x0, 0x0, 0x0, 0x300, 0x0, 0x0, 0x0⟩,
  -- AD_MPORT_ANG
  ⟨0x010400, 16, 0x8, 1, 0x4, 0x0, 0x0, 0x0, 0x0, 0x0, 0x0, 0x0⟩,
  -- AD_MPORT_AGE
  ⟨0x010404, 16, 0x8, 1, 0x4, 0x0, 0x0, 0x0, 0x0, 0x0, 0x0, 0x0⟩,
  -- DL_CTRL
  ⟨0x010800, 1, 0x4, 1, 0x4, 0x0, 0x0, 0x0, 0x0, 0x0, 0x0, 0x0⟩,
  -- DL_CNT
  ⟨0x010804, 1, 0x4, 1, 0x4, 0x0, 0x0, 0x0, 0x0, 0xFFFFFFFF, 0x0, 0x0⟩,
  -- DL_RDERR
  ⟨0x010808, 1, 0x4, 1, 0x4, 0x0, 0x0, 0x0, 0x80000000, 0x0, 0x0, 0x0⟩,
  -- DL_TRK_CFG
  ⟨0x011000, 32, 0x20, 1, 0x4, 0x0, 0xF1F8700, 0x0, 0x0, 0x0, 0xF1F8700, 0x0⟩,
  -- DL_TRK_BASE
  ⟨0x011004, 32, 0x20, 1, 0x4, 0x0, 0xFFFFFFFF, 0x0, 0x0, 0x0, 0xFFFFFFFF, 0x0⟩,
  -- DL_TRK_SCHED
  ⟨0x011008, 32, 0x20, 1, 0x4, 0x0, 0x0, 0x0, 0x0, 0x0, 0xFF, 0x0⟩,
  -- DL_TRK_PCOUNT
  ⟨0x01100C, 32, 0x20, 1, 0x4, 0x0, 0x0, 0x0, 0x0, 0x0, 0x0, 0x0⟩,
  -- DL_TRK_PHASE
  ⟨0x011010, 32, 0x20, 1, 0x4, 0x0, 0x0, 0x0, 0x0, 0x0, 0x0, 0x0⟩,
  -- DL_TRK_FLAG
  ⟨0x011014, 32, 0x20, 1, 0x4, 0x0, 0x0, 0x0, 0x1F, 0x0, 0x0, 0x0⟩,
  -- ADC_CTRL
  ⟨0x020000, 6, 0x1000, 1, 0x4, 0x0, 0x80BFFFFF, 0x0, 0x0, 0x0, 0x80BFFFFF, 0x3E80⟩,
  -- ADC_STAT
  ⟨0x020004, 6, 0x1000, 1, 0x4, 0x0, 0x0, 0x0, 0x7F, 0x0, 0x0, 0x0⟩,
  -- ADC_CNT
  ⟨0x020008, 6, 0x1000, 1, 0x4, 0x0, 0x0, 0x0, 0x0, 0xFFFFFFFF, 0x0, 0x0⟩,
  -- ADC_TQCNT
  ⟨0x02000C, 6, 0x1000, 1, 0x4, 0x0, 0x0, 0x0, 0x0, 0xFFFF, 0x0, 0x0⟩,
  -- ADC_CORR
  ⟨0x020100, 6, 0x1000, 1, 0x4, 0x0, 0x1, 0x0, 0x0, 0x0, 0x1, 0x0⟩,
  -- ADC_CORR_LIM
  ⟨0x020104, 6, 0x1000, 1, 0x4, 0x0, 0xFFFFFFFF, 0x0, 0x0, 0x0, 0xFFFFFFFF, 0x8028F400⟩,
  -- ADC_SL_OFS
  ⟨0x020110, 6, 0x1000, 4, 0x10, 0x0, 0x0, 0x0, 0x0, 0x0, 0x0, 0x0⟩,
  -- ADC_SL_GERR
  ⟨0x020114, 6, 0x1000, 4, 0x10, 0x0, 0x0, 0x0, 0x0, 0x0, 0x0, 0x0⟩]

def regRows1 : List RegRow := [
  -- ADC_SL_SKEW
  ⟨0x020118, 6, 0x1000, 4, 0x10, 0x0, 0x0, 0x0, 0x0, 0x0, 0x0, 0x0⟩,
  -- ADC_SL_STAT
  ⟨0x02011C, 6, 0x1000, 4, 0x10, 0x0, 0x0, 0x0, 0x0, 0x0, 0x0, 0x0⟩,
  -- ADC_SEQ
  ⟨0x020200, 6, 0x1000, 32, 0x4, 0x0, 0x0, 0x0, 0x0, 0x0, 0x77F3F, 0x0⟩,
  -- ADC_ENT
  ⟨0x020400, 6, 0x1000, 64, 0x4, 0x0, 0x0, 0x0, 0x0, 0x0, 0xF7707F, 0x0⟩,
  -- ADC_RESV
  ⟨0x020800, 6, 0x1000, 128, 0x8, 0x0, 0x0, 0x0, 0x0, 0x0, 0x0, 0x0⟩,
  -- ADC_RESC
  ⟨0x020804, 6, 0x1000, 128, 0x8, 0x0, 0x0, 0x0, 0x0, 0x0, 0x0, 0x0⟩,
  -- AIN_CFG
  ⟨0x026000, 96, 0x10, 1, 0x4, 0x0, 0xFC1, 0x0, 0x0, 0x0, 0xFC1, 0x0⟩,
  -- AIN_OFS
  ⟨0x026004, 96, 0x10, 1, 0x4, 0x0, 0x1FFFF, 0x0, 0x0, 0x0, 0x1FFFF, 0x0⟩,
  -- AIN_GM
  ⟨0x026008, 96, 0x10, 1, 0x4, 0x0, 0xFFFFFFFF, 0x0, 0x0, 0x0, 0xFFFFFFFF, 0x0⟩,
  -- AIN_GS
  ⟨0x02600C, 96, 0x10, 1, 0x4, 0x0, 0x3F, 0x0, 0x0, 0x0, 0x3F, 0x0⟩,
  -- XC_CFG
  ⟨0x027000, 3, 0x10, 1, 0x4, 0x0, 0xF0FFFF, 0x0, 0x0, 0x0, 0xF0FFFF, 0x300040⟩,
  -- XC_STAT
  ⟨0x027004, 3, 0x10, 1, 0x4, 0x0, 0x0, 0x0, 0x80, 0xFFFF0000, 0x0, 0x0⟩,
  -- ADC_OW
  ⟨0x027100, 1, 0x4, 1, 0x4, 0x0, 0xFFFFFFFF, 0x0, 0x0, 0x0, 0xFFFFFFFF, 0xF0001000⟩,
  -- ADC_OWCNT
  ⟨0x027104, 1, 0x4, 1, 0x4, 0x0, 0xF, 0x0, 0x0, 0x0, 0xF, 0x2⟩,
  -- FIT_CFG
  ⟨0x028000, 6, 0x100, 1, 0x4, 0x0, 0x8FF0FFFF, 0x0, 0x0, 0x0, 0x8FF0FFFF, 0x0⟩,
  -- FIT_PG
  ⟨0x028004, 6, 0x100, 1, 0x4, 0x0, 0xFFFFC7, 0x0, 0x0, 0x0, 0xFFFFC7, 0x0⟩,
  -- FIT_TIME
  ⟨0x028008, 6, 0x100, 1, 0x4, 0x0, 0xFF0FFF, 0x0, 0x0, 0x0, 0xFF0FFF, 0x60078⟩,
  -- FIT_OP
  ⟨0x02800C, 6, 0x100, 1, 0x4, 0x0, 0xFFFFFFFF, 0x0, 0x0, 0x0, 0xFFFFFFFF, 0xCCD0148⟩,
  -- FIT_TH
  ⟨0x028010, 6, 0x100, 1, 0x4, 0x0, 0xFFFFFFFF, 0x0, 0x0, 0x0, 0xFFFFFFFF, 0xCCD051F⟩,
  -- FIT_SM
  ⟨0x028014, 6, 0x100, 1, 0x4, 0x0, 0xF00FFFF, 0x0, 0x0, 0x0, 0xF00FFFF, 0x3008000⟩,
  -- FIT_YM
  ⟨0x028018, 6, 0x100, 1, 0x4, 0x0, 0xFFFFFFFF, 0x0, 0x0, 0x0, 0xFFFFFFFF, 0x0⟩,
  -- FIT_YS
  ⟨0x02801C, 6, 0x100, 1, 0x4, 0x0, 0x3F, 0x0, 0x0, 0x0, 0x3F, 0x0⟩,
  -- FIT_LDV
  ⟨0x028020, 6, 0x100, 1, 0x4, 0x0, 0xFFFF, 0x0, 0x0, 0x0, 0xFFFF, 0x199A⟩,
  -- FIT_MEMF
  ⟨0x028030, 6, 0x100, 3, 0x4, 0x0, 0x0, 0x0, 0x0, 0x0, 0x0, 0x0⟩,
  -- FIT_MVDC
  ⟨0x02803C, 6, 0x100, 1, 0x4, 0x0, 0x0, 0x0, 0x0, 0x0, 0x0, 0x0⟩,
  -- FIT_STAT
  ⟨0x028040, 6, 0x100, 1, 0x4, 0x0, 0x0, 0x0, 0x3E, 0x0, 0x0, 0x0⟩,
  -- FIT_CNT
  ⟨0x028044, 6, 0x100, 1, 0x4, 0x0, 0x0, 0x0, 0x0, 0xFFFFFFFF, 0x0, 0x0⟩,
  -- FIT_PCNT
  ⟨0x028048, 6, 0x100, 1, 0x4, 0x0, 0x0, 0x0, 0x0, 0x0, 0x0, 0x0⟩,
  -- FE_CFG
  ⟨0x030000, 4, 0x40, 1, 0x4, 0x0, 0x0, 0x0, 0x0, 0x0, 0xC0000000, 0x0⟩,
  -- FE_STAT
  ⟨0x030004, 4, 0x40, 1, 0x4, 0x0, 0x0, 0x0, 0x0, 0x0, 0x0, 0x0⟩,
  -- FE_RUNS
  ⟨0x030008, 4, 0x40, 1, 0x4, 0x0, 0x0, 0x0, 0x0, 0x0, 0x0, 0x0⟩,
  -- FE_MAXLAT
  ⟨0x03000C, 4, 0x40, 1, 0x4, 0x0, 0x0, 0x0, 0x0, 0xFFFF, 0x0, 0x0⟩,
  -- FE_FLAG
  ⟨0x030010, 4, 0x40, 1, 0x4, 0x0, 0x0, 0x0, 0x7F, 0x0, 0x0, 0x0⟩,
  -- FE_CNT
  ⟨0x030014, 4, 0x40, 1, 0x4, 0x0, 0x0, 0x0, 0x0, 0xFFFFFFFF, 0x0, 0x0⟩,
  -- FE_LASTCTX
  ⟨0x030018, 4, 0x40, 1, 0x4, 0x0, 0x0, 0x0, 0x0, 0x0, 0x0, 0x0⟩,
  -- EC_STAT
  ⟨0x030200, 4, 0x20, 1, 0x4, 0x0, 0x0, 0x0, 0xE, 0x0, 0x0, 0x0⟩,
  -- EC_CNT
  ⟨0x030204, 4, 0x20, 1, 0x4, 0x0, 0x0, 0x0, 0x0, 0xFFFF, 0x0, 0x0⟩,
  -- EC_LAST
  ⟨0x030208, 4, 0x20, 1, 0x4, 0x0, 0x0, 0x0, 0x0, 0x0, 0x0, 0x0⟩,
  -- EC_LVAL
  ⟨0x03020C, 4, 0x20, 1, 0x4, 0x0, 0x0, 0x0, 0x0, 0x0, 0x0, 0x0⟩,
  -- EC_EVAL
  ⟨0x030210, 4, 0x20, 1, 0x4, 0x0, 0x0, 0x0, 0x0, 0x0, 0x0, 0x0⟩,
  -- EC_INJ
  ⟨0x030214, 4, 0x20, 1, 0x4, 0x0, 0xFF0001FF, 0x0, 0x0, 0x0, 0x0, 0x0⟩,
  -- EC_INJM
  ⟨0x030218, 4, 0x20, 1, 0x4, 0x0, 0xFFFFFFFF, 0x0, 0x0, 0x0, 0x0, 0x0⟩,
  -- EC_SC_STAT
  ⟨0x030300, 1, 0x4, 1, 0x4, 0x0, 0x0, 0x0, 0x10000, 0xFFFF, 0x0, 0x0⟩,
  -- FF_CFG
  ⟨0x030400, 48, 0x4, 1, 0x4, 0x0, 0x0, 0x0, 0x0, 0x0, 0xC0F001FF, 0x0⟩,
  -- EC_HIST
  ⟨0x031000, 384, 0x4, 1, 0x4, 0x0, 0x0, 0x0, 0x0, 0x0, 0x0, 0x0⟩,
  -- PG_CFG
  ⟨0x040000, 40, 0x80, 1, 0x4, 0x0, 0x0, 0x0, 0x0, 0x0, 0xEFF70003, 0x0⟩,
  -- PG_DTFLOOR
  ⟨0x040004, 40, 0x80, 1, 0x4, 0x0, 0x0, 0x0, 0x0, 0x0, 0x1FFFF, 0x0⟩,
  -- PG_DTR
  ⟨0x040008, 40, 0x80, 1, 0x4, 0x0, 0x1FFFF, 0x0, 0x0, 0x0, 0x1FFFF, 0x0⟩,
  -- PG_DTF
  ⟨0x04000C, 40, 0x80, 1, 0x4, 0x0, 0x1FFFF, 0x0, 0x0, 0x0, 0x1FFFF, 0x0⟩,
  -- PG_HS
  ⟨0x040010, 40, 0x80, 1, 0x4, 0x0, 0x0, 0x0, 0x0, 0x0, 0xFFFF0FFF, 0x41900320⟩,
  -- PG_LOAD
  ⟨0x040014, 40, 0x80, 1, 0x4, 0x0, 0x0, 0x0, 0x0, 0x0, 0xFFFF0003, 0x0⟩,
  -- PG_SCMPA
  ⟨0x040018, 40, 0x80, 1, 0x4, 0x0, 0x0, 0x0, 0x0, 0x0, 0xFFFFFFFF, 0x0⟩,
  -- PG_SCMPB
  ⟨0x04001C, 40, 0x80, 1, 0x4, 0x0, 0x0, 0x0, 0x0, 0x0, 0xFFFFFFFF, 0x0⟩,
  -- PG_SCMPC
  ⟨0x040020, 40, 0x80, 1, 0x4, 0x0, 0x0, 0x0, 0x0, 0x0, 0xFFFFFFFF, 0x0⟩,
  -- PG_SCMPD
  ⟨0x040024, 40, 0x80, 1, 0x4, 0x0, 0x0, 0x0, 0x0, 0x0, 0xFFFFFFFF, 0x0⟩,
  -- PG_SPHOFS
  ⟨0x040028, 40, 0x80, 1, 0x4, 0x0, 0x0, 0x0, 0x0, 0x0, 0xFFFFFFFF, 0x0⟩,
  -- PG_SCTL
  ⟨0x04002C, 40, 0x80, 1, 0x4, 0x0, 0x0, 0x0, 0x0, 0x0, 0x331, 0x0⟩,
  -- PG_ACMPA
  ⟨0x040030, 40, 0x80, 1, 0x4, 0x0, 0x0, 0x0, 0x0, 0x0, 0x0, 0x0⟩,
  -- PG_ACMPB
  ⟨0x040034, 40, 0x80, 1, 0x4, 0x0, 0x0, 0x0, 0x0, 0x0, 0x0, 0x0⟩,
  -- PG_ACMPC
  ⟨0x040038, 40, 0x80, 1, 0x4, 0x0, 0x0, 0x0, 0x0, 0x0, 0x0, 0x0⟩]

def regRows2 : List RegRow := [
  -- PG_ACMPD
  ⟨0x04003C, 40, 0x80, 1, 0x4, 0x0, 0x0, 0x0, 0x0, 0x0, 0x0, 0x0⟩,
  -- PG_APHOFS
  ⟨0x040040, 40, 0x80, 1, 0x4, 0x0, 0x0, 0x0, 0x0, 0x0, 0x0, 0x0⟩,
  -- PG_ACTL
  ⟨0x040044, 40, 0x80, 1, 0x4, 0x0, 0x0, 0x0, 0x0, 0x0, 0x0, 0x0⟩,
  -- PG_EQA
  ⟨0x040048, 40, 0x80, 1, 0x4, 0x0, 0x0, 0xFFFFFFFF, 0x0, 0x0, 0x0, 0x0⟩,
  -- PG_EQS
  ⟨0x04004C, 40, 0x80, 1, 0x4, 0x0, 0x0, 0x3, 0x0, 0x0, 0x0, 0x0⟩,
  -- PG_STAT
  ⟨0x040050, 40, 0x80, 1, 0x4, 0x0, 0x0, 0x0, 0x0, 0x0, 0x0, 0x0⟩,
  -- PG_FLAG
  ⟨0x040054, 40, 0x80, 1, 0x4, 0x0, 0x0, 0x0, 0x7E, 0x0, 0x0, 0x0⟩,
  -- PG_CNT
  ⟨0x040058, 40, 0x80, 1, 0x4, 0x0, 0x0, 0x0, 0x0, 0xFFFF, 0x0, 0x0⟩,
  -- PG_SAFE
  ⟨0x041400, 1, 0x4, 1, 0x4, 0x0, 0x0, 0x0, 0x0, 0x0, 0x0, 0x0⟩,
  -- PG_STOMASK0
  ⟨0x041404, 1, 0x4, 1, 0x4, 0x0, 0x0, 0x0, 0x0, 0x0, 0xFFFFFFFF, 0x0⟩,
  -- PG_STOMASK1
  ⟨0x041408, 1, 0x4, 1, 0x4, 0x0, 0x0, 0x0, 0x0, 0x0, 0xFF, 0x0⟩,
  -- PG_ISO0
  ⟨0x04140C, 1, 0x4, 1, 0x4, 0x0, 0x0, 0x0, 0x0, 0x0, 0x0, 0x0⟩,
  -- PG_ISO1
  ⟨0x041410, 1, 0x4, 1, 0x4, 0x0, 0x0, 0x0, 0x0, 0x0, 0x0, 0x0⟩,
  -- PG_STOSTAT
  ⟨0x041414, 1, 0x4, 1, 0x4, 0x0, 0x0, 0x0, 0x0, 0x0, 0x0, 0x0⟩,
  -- GL_CFG
  ⟨0x042000, 4, 0x100, 1, 0x4, 0x0, 0x0, 0x0, 0x0, 0x0, 0x830F03FF, 0x200021E⟩,
  -- GL_POLL
  ⟨0x042004, 4, 0x100, 1, 0x4, 0x0, 0x0, 0x0, 0x0, 0x0, 0xFFFF, 0x3E8⟩,
  -- GL_STAT
  ⟨0x042008, 4, 0x100, 1, 0x4, 0x0, 0x0, 0x0, 0xF0, 0x0, 0x0, 0x0⟩,
  -- GL_CNT
  ⟨0x04200C, 4, 0x100, 1, 0x4, 0x0, 0x0, 0x0, 0x0, 0xFFFFFFFF, 0x0, 0x0⟩,
  -- GL_DMAP
  ⟨0x042040, 4, 0x100, 8, 0x10, 0x0, 0x0, 0x0, 0x0, 0x0, 0x803F0307, 0x0⟩,
  -- GL_DID
  ⟨0x042044, 4, 0x100, 8, 0x10, 0x0, 0x0, 0x0, 0x0, 0x0, 0x0, 0x0⟩,
  -- GL_DVER
  ⟨0x042048, 4, 0x100, 8, 0x10, 0x0, 0x0, 0x0, 0x0, 0x0, 0x0, 0x0⟩,
  -- GL_DSTAT
  ⟨0x04204C, 4, 0x100, 8, 0x10, 0x0, 0x0, 0x0, 0x0, 0x0, 0x0, 0x0⟩,
  -- RS_CFG
  ⟨0x050000, 2, 0x80, 1, 0x4, 0x0, 0x0, 0x0, 0x0, 0x0, 0xC7FF7FFF, 0x0⟩,
  -- RS_EXC
  ⟨0x050004, 2, 0x80, 1, 0x4, 0x0, 0xFFFFFFFF, 0x0, 0x0, 0x0, 0xFFFFFFFF, 0x80000000⟩,
  -- RS_WIN
  ⟨0x050008, 2, 0x80, 1, 0x4, 0x0, 0xFFFFFFFF, 0x0, 0x0, 0x0, 0xFFFFFFFF, 0x70002000⟩,
  -- RS_QCTL
  ⟨0x05000C, 2, 0x80, 1, 0x4, 0x0, 0xFF0F01, 0x0, 0x0, 0x0, 0xFF0F00, 0x100400⟩,
  -- RS_OFS
  ⟨0x050010, 2, 0x80, 1, 0x4, 0x0, 0x0, 0x0, 0x0, 0x0, 0x1F01FFFF, 0x8000000⟩,
  -- RS_KSH
  ⟨0x050014, 2, 0x80, 1, 0x4, 0x0, 0x0, 0x0, 0x0, 0x0, 0xFFFF, 0x0⟩,
  -- RS_KSL
  ⟨0x050018, 2, 0x80, 1, 0x4, 0x0, 0x0, 0x0, 0x0, 0x0, 0xFFFFFFFF, 0x0⟩,
  -- RS_NMOD
  ⟨0x05001C, 2, 0x80, 1, 0x4, 0x0, 0x0, 0x0, 0x0, 0x0, 0x800FFFFF, 0x0⟩,
  -- RS_STAT
  ⟨0x050020, 2, 0x80, 1, 0x4, 0x0, 0x0, 0x0, 0xF, 0x0, 0x0, 0x0⟩,
  -- RS_PHI
  ⟨0x050024, 2, 0x80, 1, 0x4, 0x0, 0x0, 0x0, 0x0, 0x0, 0x0, 0x0⟩,
  -- RS_N
  ⟨0x050028, 2, 0x80, 1, 0x4, 0x0, 0x0, 0x0, 0x0, 0x0, 0x0, 0x0⟩,
  -- RS_AMP
  ⟨0x05002C, 2, 0x80, 1, 0x4, 0x0, 0x0, 0x0, 0x0, 0x0, 0x0, 0x0⟩,
  -- RS_OSS
  ⟨0x050030, 2, 0x80, 1, 0x4, 0x0, 0x0, 0x0, 0x0, 0x0, 0x0, 0x0⟩,
  -- RS_OSC
  ⟨0x050034, 2, 0x80, 1, 0x4, 0x0, 0x0, 0x0, 0x0, 0x0, 0x0, 0x0⟩,
  -- RS_IDX
  ⟨0x050038, 2, 0x80, 1, 0x4, 0x0, 0x0, 0x0, 0x0, 0x0, 0x0, 0x0⟩,
  -- RS_ICNT
  ⟨0x05003C, 2, 0x80, 1, 0x4, 0x0, 0x0, 0x0, 0x0, 0xFFFFFFFF, 0x0, 0x0⟩,
  -- RS_CNT
  ⟨0x050040, 2, 0x80, 1, 0x4, 0x0, 0x0, 0x0, 0x0, 0xFFFFFFFF, 0x0, 0x0⟩,
  -- QD_CFG
  ⟨0x051000, 8, 0x80, 1, 0x4, 0x0, 0x0, 0x0, 0x0, 0x0, 0xFCECF0F0, 0x2000⟩,
  -- QD_NMOD
  ⟨0x051004, 8, 0x80, 1, 0x4, 0x0, 0x0, 0x0, 0x0, 0x0, 0xFFFFFFFF, 0x0⟩,
  -- QD_KSH
  ⟨0x051008, 8, 0x80, 1, 0x4, 0x0, 0x0, 0x0, 0x0, 0x0, 0xFFFF, 0x0⟩,
  -- QD_KSL
  ⟨0x05100C, 8, 0x80, 1, 0x4, 0x0, 0x0, 0x0, 0x0, 0x0, 0xFFFFFFFF, 0x0⟩,
  -- QD_IDXCFG
  ⟨0x051010, 8, 0x80, 1, 0x4, 0x0, 0x0, 0x0, 0x0, 0x0, 0xFF00FF, 0x20002⟩,
  -- QD_TIME
  ⟨0x051014, 8, 0x80, 1, 0x4, 0x0, 0x0, 0x0, 0x0, 0x0, 0xFFFFFFFF, 0x640190⟩,
  -- QD_QCTL
  ⟨0x051018, 8, 0x80, 1, 0x4, 0x0, 0xFF0F01, 0x0, 0x0, 0x0, 0xFF0F00, 0x400400⟩,
  -- QD_CMPV
  ⟨0x05101C, 8, 0x80, 1, 0x4, 0x0, 0xFF00FFFF, 0x0, 0x0, 0x0, 0xFF00FFFF, 0x0⟩,
  -- QD_CMPC
  ⟨0x051020, 8, 0x80, 1, 0x4, 0x0, 0xE000FFFF, 0x0, 0x0, 0x0, 0xE000FFFF, 0x0⟩,
  -- QD_CNT
  ⟨0x051024, 8, 0x80, 1, 0x4, 0x0, 0x0, 0x0, 0x0, 0x0, 0x0, 0x0⟩,
  -- QD_STAT
  ⟨0x051028, 8, 0x80, 1, 0x4, 0x0, 0x0, 0x0, 0x3E, 0x0, 0x0, 0x0⟩,
  -- QD_IDX
  ⟨0x05102C, 8, 0x80, 1, 0x4, 0x0, 0x0, 0x0, 0x0, 0x0, 0x0, 0x0⟩,
  -- QD_ICNT
  ⟨0x051030, 8, 0x80, 1, 0x4, 0x0, 0x0, 0x0, 0x0, 0xFFFFFFFF, 0x0, 0x0⟩,
  -- QD_PER
  ⟨0x051034, 8, 0x80, 1, 0x4, 0x0, 0x0, 0x0, 0x0, 0x0, 0x0, 0x0⟩,
  -- QD_TEDGE
  ⟨0x051038, 8, 0x80, 1, 0x4, 0x0, 0x0, 0x0, 0x0, 0x0, 0x0, 0x0⟩,
  -- QD_AOFS
  ⟨0x05103C, 8, 0x80, 1, 0x4, 0x0, 0x0, 0x0, 0x0, 0x0, 0x0, 0x0⟩,
  -- QD_ECNT
  ⟨0x051040, 8, 0x80, 1, 0x4, 0x0, 0x0, 0x0, 0x0, 0xFFFFFFFF, 0x0, 0x0⟩,
  -- HL_CFG
  ⟨0x052000, 4, 0x40, 1, 0x4, 0x0, 0x0, 0x0, 0x0, 0x0, 0xFFFFFFFF, 0x0⟩,
  -- HL_TIME
  ⟨0x052004, 4, 0x40, 1, 0x4, 0x0, 0x0, 0x0, 0x0, 0x0, 0xF000FFFF, 0x40000064⟩,
  -- HL_EDGE
  ⟨0x052008, 4, 0x40, 6, 0x4, 0x0, 0x0, 0x0, 0x0, 0x0, 0xFFFFFFFF, 0x0⟩,
  -- HL_QCTL
  ⟨0x052020, 4, 0x40, 1, 0x4, 0x0, 0xF01, 0x0, 0x0, 0x0, 0xF00, 0x300⟩]

def regRows3 : List RegRow := [
  -- HL_STAT
  ⟨0x052024, 4, 0x40, 1, 0x4, 0x7000000, 0x0, 0x0, 0x6, 0x0, 0x0, 0x0⟩,
  -- HL_PER
  ⟨0x052028, 4, 0x40, 1, 0x4, 0x0, 0x0, 0x0, 0x0, 0x0, 0x0, 0x0⟩,
  -- HL_CNT
  ⟨0x05202C, 4, 0x40, 1, 0x4, 0x0, 0x0, 0x0, 0x0, 0xFFFFFFFF, 0x0, 0x0⟩,
  -- PF_CFG
  ⟨0x058000, 16, 0x40, 1, 0x4, 0x0, 0x8F1F1F00, 0x0, 0x0, 0x0, 0x8F1F1F00, 0x0⟩,
  -- PF_TGT
  ⟨0x058004, 16, 0x40, 1, 0x4, 0x0, 0xFFFFFFFF, 0x0, 0x0, 0x0, 0xFFFFFFFF, 0x0⟩,
  -- PF_VM
  ⟨0x058008, 16, 0x40, 1, 0x4, 0x0, 0xFFFFFFFF, 0x0, 0x0, 0x0, 0xFFFFFFFF, 0x0⟩,
  -- PF_AM
  ⟨0x05800C, 16, 0x40, 1, 0x4, 0x0, 0xFFFFFFFF, 0x0, 0x0, 0x0, 0xFFFFFFFF, 0x0⟩,
  -- PF_JM
  ⟨0x058010, 16, 0x40, 1, 0x4, 0x0, 0xFFFFFFFF, 0x0, 0x0, 0x0, 0xFFFFFFFF, 0x0⟩,
  -- PF_SH
  ⟨0x058014, 16, 0x40, 1, 0x4, 0x0, 0x3F3F3F01, 0x0, 0x0, 0x0, 0x3F3F3F00, 0x0⟩,
  -- PF_TOL
  ⟨0x058018, 16, 0x40, 1, 0x4, 0x0, 0xFFFFFFFF, 0x0, 0x0, 0x0, 0xFFFFFFFF, 0x0⟩,
  -- PF_MEAS
  ⟨0x05801C, 16, 0x40, 1, 0x4, 0x0, 0x0, 0x0, 0x0, 0x0, 0x0, 0x0⟩,
  -- PF_POS
  ⟨0x058020, 16, 0x40, 1, 0x4, 0x0, 0x0, 0x0, 0x0, 0x0, 0x0, 0x0⟩,
  -- PF_VEL
  ⟨0x058024, 16, 0x40, 1, 0x4, 0x0, 0x0, 0x0, 0x0, 0x0, 0x0, 0x0⟩,
  -- PF_ACC
  ⟨0x058028, 16, 0x40, 1, 0x4, 0x0, 0x0, 0x0, 0x0, 0x0, 0x0, 0x0⟩,
  -- PF_STAT
  ⟨0x05802C, 16, 0x40, 1, 0x4, 0x0, 0x0, 0x0, 0x4, 0x0, 0x0, 0x0⟩,
  -- CMP_CFG
  ⟨0x060000, 48, 0x20, 1, 0x4, 0x0, 0x0, 0x0, 0x0, 0x0, 0xFF7FFF7F, 0x200000⟩,
  -- CMP_TH
  ⟨0x060004, 48, 0x20, 1, 0x4, 0x0, 0x0, 0x0, 0x0, 0x0, 0xFFFFFFFF, 0x0⟩,
  -- CMP_HB
  ⟨0x060008, 48, 0x20, 1, 0x4, 0x0, 0x0, 0x0, 0x0, 0x0, 0xFFFFFFFF, 0x190⟩,
  -- CMP_STAT
  ⟨0x06000C, 48, 0x20, 1, 0x4, 0xE0000000, 0x0, 0x0, 0x3, 0x0, 0x0, 0x0⟩,
  -- CMP_CNT
  ⟨0x060010, 48, 0x20, 1, 0x4, 0x0, 0x0, 0x0, 0x0, 0xFFFFFFFF, 0x0, 0x0⟩,
  -- CMP_TEST
  ⟨0x060014, 48, 0x20, 1, 0x4, 0x0, 0x0, 0x80000000, 0x0, 0x0, 0x0, 0x0⟩,
  -- PR_CFG
  ⟨0x060800, 1, 0x4, 1, 0x4, 0x0, 0x0, 0x0, 0x0, 0x0, 0xBF001F1F, 0xB03⟩,
  -- PR_SUMPT
  ⟨0x060804, 1, 0x4, 1, 0x4, 0x0, 0x0, 0x0, 0x0, 0x0, 0xFFFFFFFF, 0xC803E8⟩,
  -- PR_SUMPST
  ⟨0x060808, 1, 0x4, 1, 0x4, 0x0, 0x0, 0x0, 0x20000000, 0xFFFF, 0x0, 0x0⟩,
  -- PR_SH
  ⟨0x060810, 5, 0x4, 1, 0x4, 0x0, 0x0, 0x0, 0x0, 0x0, 0x0, 0x0⟩,
  -- PR_CONVST
  ⟨0x060824, 1, 0x4, 1, 0x4, 0x0, 0x0, 0x0, 0x0, 0x0, 0x0, 0x0⟩,
  -- PR_CNT
  ⟨0x060828, 1, 0x4, 1, 0x4, 0x0, 0x0, 0x0, 0x0, 0xFFFFFFFF, 0x0, 0x0⟩,
  -- PR_REARM
  ⟨0x06082C, 1, 0x4, 1, 0x4, 0x0, 0x0, 0x0, 0x0, 0x0, 0xF, 0x3⟩,
  -- FR_CVAR
  ⟨0x060C00, 5, 0x4, 1, 0x4, 0x0, 0x0, 0x0, 0x0, 0x0, 0x0, 0x0⟩,
  -- FR_LAST
  ⟨0x060C14, 1, 0x4, 1, 0x4, 0x0, 0x0, 0x0, 0x0, 0x0, 0x0, 0x0⟩,
  -- FR_CNT
  ⟨0x060C18, 1, 0x4, 1, 0x4, 0x0, 0x0, 0x0, 0x0, 0xFFFFFFFF, 0x0, 0x0⟩,
  -- TM_CFG
  ⟨0x070000, 2, 0x800, 1, 0x4, 0x0, 0x0, 0x0, 0x0, 0x0, 0xCFFF073F, 0x0⟩,
  -- TM_RATIO
  ⟨0x070004, 2, 0x800, 1, 0x4, 0x0, 0xFFFFFFFF, 0x0, 0x0, 0x0, 0xFFFFFFFF, 0xF000080⟩,
  -- TM_MINP
  ⟨0x070008, 2, 0x800, 1, 0x4, 0x0, 0xFFFF0FFF, 0x0, 0x0, 0x0, 0xFFFF0FFF, 0x5550320⟩,
  -- TM_DBASE
  ⟨0x07000C, 2, 0x800, 1, 0x4, 0x0, 0x0, 0x0, 0x0, 0x0, 0x1FFFFF, 0x0⟩,
  -- TM_VMIN
  ⟨0x070010, 2, 0x800, 1, 0x4, 0x0, 0x0, 0x0, 0x0, 0x0, 0xFFFFFFFF, 0x400000⟩,
  -- TM_XCTL
  ⟨0x070014, 2, 0x800, 1, 0x4, 0x0, 0x0, 0x0, 0x0, 0x0, 0xF, 0x3⟩,
  -- TM_STAT
  ⟨0x070018, 2, 0x800, 1, 0x4, 0x0, 0x0, 0x0, 0x0, 0x0, 0x0, 0x0⟩,
  -- TM_FLAG
  ⟨0x07001C, 2, 0x800, 1, 0x4, 0x0, 0x0, 0x0, 0x3F, 0x0, 0x0, 0x0⟩,
  -- TM_CNT
  ⟨0x070020, 2, 0x800, 1, 0x4, 0x0, 0x0, 0x0, 0x0, 0xFFFFFFFF, 0x0, 0x0⟩,
  -- TM_RHO
  ⟨0x070024, 2, 0x800, 1, 0x4, 0x0, 0x0, 0x0, 0x0, 0x0, 0x0, 0x0⟩,
  -- TM_VDCU
  ⟨0x070028, 2, 0x800, 1, 0x4, 0x0, 0x0, 0x0, 0x0, 0x0, 0x0, 0x0⟩,
  -- TM_SCFG
  ⟨0x070100, 2, 0x800, 2, 0x40, 0x0, 0x0, 0x0, 0x0, 0x0, 0x80FFFFC0, 0x0⟩,
  -- TM_FOFS
  ⟨0x070104, 2, 0x800, 2, 0x40, 0x0, 0x0, 0x0, 0x0, 0x0, 0xFFFFFFFF, 0x0⟩,
  -- TM_KPRED
  ⟨0x070108, 2, 0x800, 2, 0x40, 0x0, 0x0, 0x0, 0x0, 0x0, 0xFFFF, 0x0⟩,
  -- TM_SPH
  ⟨0x07010C, 2, 0x800, 2, 0x40, 0x0, 0x0, 0x0, 0x0, 0x0, 0xFFFFFFFF, 0x0⟩,
  -- TM_UA
  ⟨0x070110, 2, 0x800, 2, 0x40, 0x0, 0x0, 0x0, 0x0, 0x0, 0x0, 0x0⟩,
  -- TM_UB
  ⟨0x070114, 2, 0x800, 2, 0x40, 0x0, 0x0, 0x0, 0x0, 0x0, 0x0, 0x0⟩,
  -- TM_SM
  ⟨0x070118, 2, 0x800, 2, 0x40, 0x0, 0x0, 0x0, 0x0, 0x0, 0x0, 0x0⟩,
  -- TM_SDELTA
  ⟨0x07011C, 2, 0x800, 2, 0x40, 0x0, 0x0, 0x0, 0x0, 0x0, 0x0, 0x0⟩,
  -- TM_SSTAT
  ⟨0x070120, 2, 0x800, 2, 0x40, 0x0, 0x0, 0x0, 0x0, 0x0, 0x0, 0x0⟩,
  -- TM_SX
  ⟨0x070124, 2, 0x800, 2, 0x40, 0x0, 0x0, 0x0, 0x0, 0x0, 0x0, 0x0⟩,
  -- TC_CFG
  ⟨0x071000, 2, 0x200, 1, 0x4, 0x0, 0x0, 0x0, 0x0, 0x0, 0x8FF001FF, 0x0⟩,
  -- TC_CMD
  ⟨0x071004, 2, 0x200, 1, 0x4, 0x0, 0x3, 0x0, 0x0, 0x0, 0x3, 0x0⟩,
  -- TC_TSET
  ⟨0x071008, 2, 0x200, 1, 0x4, 0x0, 0xFFFFFFFF, 0x0, 0x0, 0x0, 0xFFFFFFFF, 0x0⟩,
  -- TC_SSET
  ⟨0x07100C, 2, 0x200, 1, 0x4, 0x0, 0xFFFFFFFF, 0x0, 0x0, 0x0, 0xFFFFFFFF, 0x0⟩,
  -- TC_TRAMP
  ⟨0x071010, 2, 0x200, 1, 0x4, 0x0, 0xFFFFFFFF, 0x0, 0x0, 0x0, 0xFFFFFFFF, 0xA3D7⟩,
  -- TC_SRAMP
  ⟨0x071014, 2, 0x200, 1, 0x4, 0x0, 0xFFFFFFFF, 0x0, 0x0, 0x0, 0xFFFFFFFF, 0x0⟩,
  -- TC_TMOT
  ⟨0x071018, 2, 0x200, 1, 0x4, 0x0, 0xFFFFFFFF, 0x0, 0x0, 0x0, 0xFFFFFFFF, 0x0⟩,
  -- TC_TGEN
  ⟨0x07101C, 2, 0x200, 1, 0x4, 0x0, 0xFFFFFFFF, 0x0, 0x0, 0x0, 0xFFFFFFFF, 0x0⟩]

def regRows4 : List RegRow := [
  -- TC_VREG
  ⟨0x071020, 2, 0x200, 1, 0x4, 0x0, 0x0, 0x0, 0x0, 0x0, 0xFFFFFFFF, 0xE148D99A⟩,
  -- TC_VMOT
  ⟨0x071024, 2, 0x200, 1, 0x4, 0x0, 0x0, 0x0, 0x0, 0x0, 0xFFFFFFFF, 0x78526E14⟩,
  -- TC_KV
  ⟨0x071028, 2, 0x200, 1, 0x4, 0x0, 0x0, 0x0, 0x0, 0x0, 0xFFFFFFFF, 0xF333F333⟩,
  -- TC_KE
  ⟨0x07102C, 2, 0x200, 1, 0x4, 0x0, 0x0, 0x0, 0x0, 0x0, 0xFFFFFFFF, 0x0⟩,
  -- TC_MARG
  ⟨0x071030, 2, 0x200, 1, 0x4, 0x0, 0x0, 0x0, 0x0, 0x0, 0xFFFFFFFF, 0xCCD0666⟩,
  -- TC_ULIM
  ⟨0x071034, 2, 0x200, 1, 0x4, 0x0, 0x0, 0x0, 0x0, 0x0, 0xFFFFFFFF, 0x666666⟩,
  -- TC_CONF
  ⟨0x071038, 2, 0x200, 1, 0x4, 0x0, 0x0, 0x0, 0x0, 0x0, 0xFFFFFFFF, 0xCCCD8000⟩,
  -- TC_STEPS
  ⟨0x07103C, 2, 0x200, 1, 0x4, 0x0, 0x0, 0x0, 0x0, 0x0, 0xFFFFFFFF, 0x8100050⟩,
  -- TC_TMO0
  ⟨0x071040, 2, 0x200, 1, 0x4, 0x0, 0x0, 0x0, 0x0, 0x0, 0xFFFFFFFF, 0x7D000C8⟩,
  -- TC_TMO1
  ⟨0x071044, 2, 0x200, 1, 0x4, 0x0, 0x0, 0x0, 0x0, 0x0, 0xFFFFFFFF, 0x1F400C8⟩,
  -- TC_DER
  ⟨0x071048, 2, 0x200, 1, 0x4, 0x0, 0x0, 0x0, 0x0, 0x0, 0xFFFF, 0x3E80⟩,
  -- TC_QMAX
  ⟨0x07104C, 2, 0x200, 1, 0x4, 0x0, 0x0, 0x0, 0x0, 0x0, 0xFFFFFFFF, 0x0⟩,
  -- TC_ICON
  ⟨0x071050, 2, 0x200, 1, 0x4, 0x0, 0x0, 0x0, 0x0, 0x0, 0xFFFFFFFF, 0x0⟩,
  -- TC_TH
  ⟨0x071054, 2, 0x200, 1, 0x4, 0x0, 0x0, 0x0, 0x0, 0x0, 0xF00FFFF, 0x910⟩,
  -- TC_TH2
  ⟨0x071058, 2, 0x200, 1, 0x4, 0x0, 0x0, 0x0, 0x0, 0x0, 0xFFFFFFFF, 0xA00000⟩,
  -- TC_STAT
  ⟨0x071080, 2, 0x200, 1, 0x4, 0x4000000, 0x0, 0x0, 0x0, 0x0, 0x0, 0x0⟩,
  -- TC_TR
  ⟨0x071084, 2, 0x200, 1, 0x4, 0x0, 0x0, 0x0, 0x0, 0x0, 0x0, 0x0⟩,
  -- TC_LT
  ⟨0x071088, 2, 0x200, 1, 0x4, 0x0, 0x0, 0x0, 0x0, 0x0, 0x0, 0x0⟩,
  -- TC_F
  ⟨0x07108C, 2, 0x200, 1, 0x4, 0x0, 0x0, 0x0, 0x0, 0x0, 0x0, 0x0⟩,
  -- TC_E
  ⟨0x071090, 2, 0x200, 1, 0x4, 0x0, 0x0, 0x0, 0x0, 0x0, 0x0, 0x0⟩,
  -- TC_BUD
  ⟨0x071094, 2, 0x200, 1, 0x4, 0x1000000, 0x0, 0x0, 0x0, 0x0, 0x0, 0x0⟩,
  -- TC_TJ
  ⟨0x071098, 2, 0x200, 1, 0x4, 0x0, 0x0, 0x0, 0x0, 0x0, 0x0, 0x0⟩,
  -- TC_QACC
  ⟨0x07109C, 2, 0x200, 1, 0x4, 0x0, 0x0, 0x0, 0x0, 0x0, 0x0, 0x0⟩,
  -- TC_FLAG
  ⟨0x0710A0, 2, 0x200, 1, 0x4, 0x0, 0x0, 0x0, 0x7F, 0x0, 0x0, 0x0⟩,
  -- TC_CNT
  ⟨0x0710A4, 2, 0x200, 1, 0x4, 0x0, 0x0, 0x0, 0x0, 0xFFFFFFFF, 0x0, 0x0⟩,
  -- TC_TREQ
  ⟨0x0710C0, 2, 0x200, 1, 0x4, 0x0, 0x0, 0x0, 0x0, 0x0, 0x0, 0x0⟩,
  -- TC_OBS0A
  ⟨0x0710C4, 2, 0x200, 1, 0x4, 0x0, 0x0, 0x0, 0x0, 0x0, 0x0, 0x0⟩,
  -- TC_OBS0G
  ⟨0x0710C8, 2, 0x200, 1, 0x4, 0x0, 0x0, 0x0, 0x0, 0x0, 0x0, 0x0⟩,
  -- TC_OBS1A
  ⟨0x0710CC, 2, 0x200, 1, 0x4, 0x0, 0x0, 0x0, 0x0, 0x0, 0x0, 0x0⟩,
  -- TC_OBS1G
  ⟨0x0710D0, 2, 0x200, 1, 0x4, 0x0, 0x0, 0x0, 0x0, 0x0, 0x0, 0x0⟩,
  -- TC_OBSCONF
  ⟨0x0710D4, 2, 0x200, 1, 0x4, 0x0, 0x0, 0x0, 0x0, 0x0, 0x0, 0x0⟩,
  -- TC_CTL
  ⟨0x0710E0, 2, 0x200, 1, 0x4, 0x0, 0x0, 0x0, 0x0, 0x0, 0x0, 0x0⟩,
  -- TC_SLIM
  ⟨0x0710E4, 2, 0x200, 1, 0x4, 0x7FFFFFFF, 0x0, 0x0, 0x0, 0x0, 0x0, 0x0⟩,
  -- TC_VBS
  ⟨0x071100, 2, 0x200, 4, 0x8, 0x0, 0x0, 0x0, 0x0, 0x0, 0x80000003, 0x0⟩,
  -- TC_VBT
  ⟨0x071104, 2, 0x200, 4, 0x8, 0x0, 0x0, 0x0, 0x0, 0x0, 0x1FFFFF, 0x0⟩,
  -- DC_CFG
  ⟨0x080000, 1, 0x4, 1, 0x4, 0x0, 0x0, 0x0, 0x0, 0x0, 0xCF3F0000, 0x0⟩,
  -- DC_MEAS
  ⟨0x080004, 1, 0x4, 1, 0x4, 0x0, 0x0, 0x0, 0x0, 0x0, 0x703F703F, 0x0⟩,
  -- DC_CMD
  ⟨0x080008, 1, 0x4, 1, 0x4, 0x0, 0x8000FFFF, 0x0, 0x0, 0x0, 0x8000FFFF, 0x80000000⟩,
  -- DC_VRAMP
  ⟨0x08000C, 1, 0x4, 1, 0x4, 0x0, 0xFFFFFFFF, 0x0, 0x0, 0x0, 0xFFFFFFFF, 0x1480714⟩,
  -- DC_ILIM
  ⟨0x080010, 1, 0x4, 1, 0x4, 0x0, 0xFFFFFFFF, 0x0, 0x0, 0x0, 0xFFFFFFFF, 0x80000CCD⟩,
  -- DC_PHLIM
  ⟨0x080014, 1, 0x4, 1, 0x4, 0x0, 0x0, 0x0, 0x0, 0x0, 0xFFFFFFFF, 0x20000000⟩,
  -- DC_TH12
  ⟨0x080018, 1, 0x4, 1, 0x4, 0x0, 0x0, 0x0, 0x0, 0x0, 0xFFFFFFFF, 0x0⟩,
  -- DC_TH34
  ⟨0x08001C, 1, 0x4, 1, 0x4, 0x0, 0x0, 0x0, 0x0, 0x0, 0xFFFFFFFF, 0x0⟩,
  -- DC_TH5
  ⟨0x080020, 1, 0x4, 1, 0x4, 0x0, 0x0, 0x0, 0x0, 0x0, 0xFFFFFFFF, 0x0⟩,
  -- DC_TIME
  ⟨0x080024, 1, 0x4, 1, 0x4, 0x0, 0x0, 0x0, 0x0, 0x0, 0xFFFFFF, 0x400014⟩,
  -- DC_TIME2
  ⟨0x080028, 1, 0x4, 1, 0x4, 0x0, 0x0, 0x0, 0x0, 0x0, 0xFFFFFFFF, 0x640A3D⟩,
  -- DC_VMIN
  ⟨0x08002C, 1, 0x4, 1, 0x4, 0x0, 0x0, 0x0, 0x0, 0x0, 0xFFFFFFFF, 0x0⟩,
  -- DC_FMIN
  ⟨0x080030, 1, 0x4, 1, 0x4, 0x0, 0x0, 0x0, 0x0, 0x0, 0xFFFFFF, 0x10624E⟩,
  -- DC_VAR
  ⟨0x080034, 4, 0x4, 1, 0x4, 0x0, 0x0, 0x0, 0x0, 0x0, 0x8000003F, 0x0⟩,
  -- DC_CTL
  ⟨0x080044, 1, 0x4, 1, 0x4, 0x0, 0x0, 0x0, 0x0, 0x0, 0x0, 0x0⟩,
  -- DC_STAT
  ⟨0x080050, 1, 0x4, 1, 0x4, 0x1400000, 0x0, 0x0, 0x0, 0x0, 0x0, 0x0⟩,
  -- DC_FLAG
  ⟨0x080054, 1, 0x4, 1, 0x4, 0x0, 0x0, 0x0, 0x3F, 0x0, 0x0, 0x0⟩,
  -- DC_CNT
  ⟨0x080058, 1, 0x4, 1, 0x4, 0x0, 0x0, 0x0, 0x0, 0xFFFFFFFF, 0x0, 0x0⟩,
  -- DC_VREF
  ⟨0x080060, 1, 0x4, 1, 0x4, 0x0, 0x0, 0x0, 0x0, 0x0, 0x0, 0x0⟩,
  -- DC_IHI
  ⟨0x080064, 1, 0x4, 1, 0x4, 0x0, 0x0, 0x0, 0x0, 0x0, 0x0, 0x0⟩,
  -- DC_ILO
  ⟨0x080068, 1, 0x4, 1, 0x4, 0x0, 0x0, 0x0, 0x0, 0x0, 0x0, 0x0⟩,
  -- DC_ITOT
  ⟨0x08006C, 1, 0x4, 1, 0x4, 0x0, 0x0, 0x0, 0x0, 0x0, 0x0, 0x0⟩,
  -- DC_VERR
  ⟨0x080070, 1, 0x4, 1, 0x4, 0x0, 0x0, 0x0, 0x0, 0x0, 0x0, 0x0⟩,
  -- DC_CCFG
  ⟨0x080200, 6, 0x20, 1, 0x4, 0x0, 0x0, 0x0, 0x0, 0x0, 0xBF3F3FC0, 0x40⟩,
  -- DC_CDE
  ⟨0x080204, 6, 0x20, 1, 0x4, 0x0, 0x0, 0x0, 0x0, 0x0, 0xFFFF0FFF, 0x28⟩]

def regRows5 : List RegRow := [
  -- DC_CSTAT
  ⟨0x080208, 6, 0x20, 1, 0x4, 0x0, 0x0, 0x0, 0x0, 0x0, 0x0, 0x0⟩,
  -- DC_IREF
  ⟨0x08020C, 6, 0x20, 1, 0x4, 0x0, 0x0, 0x0, 0x0, 0x0, 0x0, 0x0⟩,
  -- DC_PHI
  ⟨0x080210, 6, 0x20, 1, 0x4, 0x0, 0x0, 0x0, 0x0, 0x0, 0x0, 0x0⟩,
  -- DC_PLO
  ⟨0x080214, 6, 0x20, 1, 0x4, 0x0, 0x0, 0x0, 0x0, 0x0, 0x0, 0x0⟩,
  -- DC_ILV
  ⟨0x080218, 6, 0x20, 1, 0x4, 0x0, 0x0, 0x0, 0x0, 0x0, 0x0, 0x0⟩,
  -- DC_DECNT
  ⟨0x08021C, 6, 0x20, 1, 0x4, 0x0, 0x0, 0x0, 0x0, 0xFFFF, 0x0, 0x0⟩,
  -- CH_CFG
  ⟨0x080800, 1, 0x4, 1, 0x4, 0x0, 0x0, 0x0, 0x0, 0x0, 0xCFF7003F, 0x0⟩,
  -- CH_CMD
  ⟨0x080804, 1, 0x4, 1, 0x4, 0x0, 0xC000FFFF, 0x0, 0x0, 0x0, 0xC000FFFF, 0x0⟩,
  -- CH_IBAT
  ⟨0x080808, 1, 0x4, 1, 0x4, 0x0, 0xFFFFFFFF, 0x0, 0x0, 0x0, 0xFFFFFFFF, 0x0⟩,
  -- CH_RAMP
  ⟨0x08080C, 1, 0x4, 1, 0x4, 0x0, 0x0, 0x0, 0x0, 0x0, 0xFFFFFFFF, 0xED80ED8⟩,
  -- CH_RAMP2
  ⟨0x080810, 1, 0x4, 1, 0x4, 0x0, 0x0, 0x0, 0x0, 0x0, 0xFFFFFFFF, 0x40004189⟩,
  -- CH_KAC
  ⟨0x080814, 1, 0x4, 1, 0x4, 0x0, 0x0, 0x0, 0x0, 0x0, 0xFFFFFF, 0x0⟩,
  -- CH_ILIM
  ⟨0x080818, 1, 0x4, 1, 0x4, 0x0, 0x0, 0x0, 0x0, 0x0, 0xFFFFFFFF, 0x3C⟩,
  -- CH_VBUS
  ⟨0x08081C, 1, 0x4, 1, 0x4, 0x0, 0x0, 0x0, 0x0, 0x0, 0xFFFFFFFF, 0x148⟩,
  -- CH_VBLIM
  ⟨0x080820, 1, 0x4, 1, 0x4, 0x0, 0x0, 0x0, 0x0, 0x0, 0xFFFFFFFF, 0x0⟩,
  -- CH_VBMAX
  ⟨0x080824, 1, 0x4, 1, 0x4, 0x0, 0x0, 0x0, 0x0, 0x0, 0xFFFFFFFF, 0x0⟩,
  -- CH_BPH
  ⟨0x080828, 1, 0x4, 1, 0x4, 0x0, 0x0, 0x0, 0x0, 0x0, 0xFFFFFFFF, 0x0⟩,
  -- CH_MAINS
  ⟨0x08082C, 1, 0x4, 1, 0x4, 0x0, 0x0, 0x0, 0x0, 0x0, 0xFFFFFFFF, 0x2BA01E3⟩,
  -- CH_VAWIN
  ⟨0x080830, 1, 0x4, 1, 0x4, 0x0, 0x0, 0x0, 0x0, 0x0, 0xFFFFFFFF, 0x5FBF428F⟩,
  -- CH_TMO
  ⟨0x080834, 1, 0x4, 1, 0x4, 0x0, 0x0, 0x0, 0x0, 0x0, 0xFFFFFFFF, 0x138801F4⟩,
  -- CH_TMO2
  ⟨0x080838, 1, 0x4, 1, 0x4, 0x0, 0x0, 0x0, 0x0, 0x0, 0xFFFFFFFF, 0x64000A⟩,
  -- CH_CP
  ⟨0x08083C, 1, 0x4, 1, 0x4, 0x0, 0x0, 0x0, 0x0, 0x0, 0xF00FFFF, 0x3001402⟩,
  -- CH_BTS
  ⟨0x080840, 1, 0x4, 1, 0x4, 0x0, 0x0, 0x0, 0x0, 0x0, 0xFFFFF, 0x0⟩,
  -- CH_BTW
  ⟨0x080844, 1, 0x4, 1, 0x4, 0x0, 0x0, 0x0, 0x0, 0x0, 0xFFFFFFFF, 0x2D00000⟩,
  -- CH_BTH
  ⟨0x080848, 1, 0x4, 1, 0x4, 0x0, 0x0, 0x0, 0x0, 0x0, 0xFFFF, 0x30⟩,
  -- CH_PFC
  ⟨0x08084C, 1, 0x4, 1, 0x4, 0x0, 0x0, 0x0, 0x0, 0x0, 0xFFFFFFC0, 0x0⟩,
  -- CH_DAB
  ⟨0x080850, 1, 0x4, 1, 0x4, 0x0, 0x0, 0x0, 0x0, 0x0, 0xFFFFFFC0, 0x0⟩,
  -- CH_VAR
  ⟨0x080854, 4, 0x4, 1, 0x4, 0x0, 0x0, 0x0, 0x0, 0x0, 0x800003FF, 0x0⟩,
  -- CH_CTL
  ⟨0x080864, 1, 0x4, 1, 0x4, 0x0, 0x0, 0x0, 0x0, 0x0, 0x0, 0x0⟩,
  -- CH_STAT
  ⟨0x080870, 1, 0x4, 1, 0x4, 0x0, 0x0, 0x0, 0x0, 0x0, 0x0, 0x0⟩,
  -- CH_FLAG
  ⟨0x080874, 1, 0x4, 1, 0x4, 0x0, 0x0, 0x0, 0x3D, 0x0, 0x0, 0x0⟩,
  -- CH_CPSTAT
  ⟨0x080880, 1, 0x4, 1, 0x4, 0x0, 0x0, 0x0, 0x0, 0x0, 0x0, 0x0⟩,
  -- CH_CPV
  ⟨0x080884, 1, 0x4, 1, 0x4, 0x0, 0x0, 0x0, 0x0, 0x0, 0x0, 0x0⟩,
  -- CH_PP
  ⟨0x080888, 1, 0x4, 1, 0x4, 0x0, 0x0, 0x0, 0x0, 0x0, 0x0, 0x0⟩,
  -- CH_IAV
  ⟨0x08088C, 1, 0x4, 1, 0x4, 0x0, 0x0, 0x0, 0x0, 0x0, 0x0, 0x0⟩,
  -- CH_VREF
  ⟨0x0808A0, 1, 0x4, 1, 0x4, 0x0, 0x0, 0x0, 0x0, 0x0, 0x0, 0x0⟩,
  -- CH_PIHI
  ⟨0x0808A4, 1, 0x4, 1, 0x4, 0x0, 0x0, 0x0, 0x0, 0x0, 0x0, 0x0⟩,
  -- CH_PILO
  ⟨0x0808A8, 1, 0x4, 1, 0x4, 0x0, 0x0, 0x0, 0x0, 0x0, 0x0, 0x0⟩,
  -- CH_IBREF
  ⟨0x0808AC, 1, 0x4, 1, 0x4, 0x0, 0x0, 0x0, 0x0, 0x0, 0x0, 0x0⟩,
  -- CH_BPHI
  ⟨0x0808B0, 1, 0x4, 1, 0x4, 0x0, 0x0, 0x0, 0x0, 0x0, 0x0, 0x0⟩,
  -- CH_BPLO
  ⟨0x0808B4, 1, 0x4, 1, 0x4, 0x0, 0x0, 0x0, 0x0, 0x0, 0x0, 0x0⟩,
  -- CH_UA
  ⟨0x0808C0, 1, 0x4, 1, 0x4, 0x0, 0x0, 0x0, 0x0, 0x0, 0x0, 0x0⟩,
  -- CH_UB
  ⟨0x0808C4, 1, 0x4, 1, 0x4, 0x0, 0x0, 0x0, 0x0, 0x0, 0x0, 0x0⟩,
  -- CH_VAMP
  ⟨0x0808C8, 1, 0x4, 1, 0x4, 0x0, 0x0, 0x0, 0x0, 0x0, 0x0, 0x0⟩,
  -- AC_SUMP
  ⟨0x090000, 1, 0x4, 1, 0x4, 0x0, 0x0, 0x0, 0x0, 0x0, 0x8FFF0FFF, 0x140012C⟩,
  -- AC_SUMPT
  ⟨0x090004, 1, 0x4, 1, 0x4, 0x0, 0x0, 0x0, 0x0, 0x0, 0xFFFFFFFF, 0x1F407D0⟩,
  -- AC_VMLIM
  ⟨0x090008, 1, 0x4, 1, 0x4, 0x0, 0x0, 0x0, 0x0, 0x0, 0xFFF, 0x168⟩,
  -- AC_VM
  ⟨0x09000C, 1, 0x4, 1, 0x4, 0x0, 0x0, 0x0, 0x20000000, 0x0, 0x0, 0x0⟩,
  -- AC_SCNT
  ⟨0x090010, 1, 0x4, 1, 0x4, 0x0, 0x0, 0x0, 0x0, 0xFFFFFFFF, 0x0, 0x0⟩,
  -- AC_CFG
  ⟨0x090100, 4, 0x100, 1, 0x4, 0x0, 0x0, 0x0, 0x0, 0x0, 0xFFFF8000, 0x0⟩,
  -- AC_DT
  ⟨0x090104, 4, 0x100, 1, 0x4, 0x0, 0x0, 0x0, 0x0, 0x0, 0xFFFFFCFF, 0xF6414064⟩,
  -- AC_HS
  ⟨0x090108, 4, 0x100, 1, 0x4, 0x0, 0x0, 0x0, 0x0, 0x0, 0xFFFF0FFF, 0x41900320⟩,
  -- AC_MON
  ⟨0x09010C, 4, 0x100, 1, 0x4, 0x0, 0x0, 0x0, 0x0, 0x0, 0xFFFF3FFF, 0xAF1414A0⟩,
  -- AC_VAR
  ⟨0x090110, 4, 0x100, 2, 0x4, 0x0, 0x0, 0x0, 0x0, 0x0, 0xE0000037, 0x0⟩,
  -- AC_DUTY
  ⟨0x090120, 4, 0x100, 1, 0x4, 0x0, 0x0, 0x0, 0x0, 0x0, 0x0, 0x0⟩,
  -- AC_UA
  ⟨0x090124, 4, 0x100, 1, 0x4, 0x0, 0x0, 0x0, 0x0, 0x0, 0x0, 0x0⟩,
  -- AC_UB
  ⟨0x090128, 4, 0x100, 1, 0x4, 0x0, 0x0, 0x0, 0x0, 0x0, 0x0, 0x0⟩,
  -- AC_CTL
  ⟨0x090130, 4, 0x100, 1, 0x4, 0x0, 0x0, 0x0, 0x0, 0x0, 0x0, 0x0⟩,
  -- AC_STAT
  ⟨0x090134, 4, 0x100, 1, 0x4, 0x0, 0x0, 0x0, 0x0, 0x0, 0x0, 0x0⟩,
  -- AC_LSTAT
  ⟨0x090138, 4, 0x100, 1, 0x4, 0x0, 0x0, 0x0, 0x0, 0x0, 0x0, 0x0⟩]

def regRows6 : List RegRow := [
  -- AC_FLAG
  ⟨0x09013C, 4, 0x100, 1, 0x4, 0x0, 0x0, 0x0, 0x7F, 0x0, 0x0, 0x0⟩,
  -- AC_CNT
  ⟨0x090140, 4, 0x100, 1, 0x4, 0x0, 0x0, 0x0, 0x0, 0xFFFFFFFF, 0x0, 0x0⟩,
  -- AC_LH
  ⟨0x090150, 4, 0x100, 3, 0x4, 0x0, 0x0, 0x0, 0x0, 0x0, 0x0, 0x0⟩,
  -- SI_CFG
  ⟨0x0A0000, 8, 0x10, 1, 0x4, 0x0, 0x0, 0x0, 0x0, 0x0, 0xFCFF01FF, 0x1E0064⟩,
  -- SI_STAT
  ⟨0x0A0004, 8, 0x10, 1, 0x4, 0x0, 0x0, 0x0, 0x3, 0x0, 0x0, 0x0⟩,
  -- SI_CNT
  ⟨0x0A0008, 8, 0x10, 1, 0x4, 0x0, 0x0, 0x0, 0x0, 0xFFFFFFFF, 0x0, 0x0⟩,
  -- SO_CFG
  ⟨0x0A0100, 8, 0x10, 1, 0x4, 0x0, 0x0, 0x0, 0x0, 0x0, 0xE0000FFF, 0xC8⟩,
  -- SO_TIME
  ⟨0x0A0104, 8, 0x10, 1, 0x4, 0x0, 0x0, 0x0, 0x0, 0x0, 0xFFFFFFFF, 0x190C80C8⟩,
  -- SO_STAT
  ⟨0x0A0108, 8, 0x10, 1, 0x4, 0x0, 0x0, 0x0, 0x3, 0x0, 0x0, 0x0⟩,
  -- SO_CNT
  ⟨0x0A010C, 8, 0x10, 1, 0x4, 0x0, 0x0, 0x0, 0x0, 0xFFFFFFFF, 0x0, 0x0⟩,
  -- SF_STO
  ⟨0x0A0200, 1, 0x4, 1, 0x4, 0x7800000, 0x0, 0x0, 0x6, 0x0, 0x0, 0x0⟩,
  -- SF_STOCFG
  ⟨0x0A0204, 1, 0x4, 1, 0x4, 0x0, 0x0, 0x0, 0x0, 0x0, 0xFFFF, 0x2⟩,
  -- SF_CTL
  ⟨0x0A0208, 1, 0x4, 1, 0x4, 0x0, 0x0, 0x0, 0x0, 0x0, 0x0, 0x0⟩,
  -- SF_SS1
  ⟨0x0A020C, 1, 0x4, 1, 0x4, 0x0, 0x0, 0x0, 0x0, 0x0, 0xFFFFFFFF, 0x7D005DC⟩,
  -- SF_SLS
  ⟨0x0A0210, 1, 0x4, 1, 0x4, 0x0, 0x0, 0x0, 0x0, 0x0, 0xFFFFFFFF, 0x14000000⟩,
  -- SF_SLSTQ
  ⟨0x0A0214, 1, 0x4, 1, 0x4, 0x0, 0x0, 0x0, 0x0, 0x0, 0xFFFFFFFF, 0x0⟩,
  -- SF_STAT
  ⟨0x0A0218, 1, 0x4, 1, 0x4, 0x0, 0x0, 0x0, 0x0, 0x0, 0x0, 0x0⟩,
  -- TS_CFG
  ⟨0x0A0400, 24, 0x20, 1, 0x4, 0x0, 0x0, 0x0, 0x0, 0x0, 0xFFFFFFFF, 0x20147B⟩,
  -- TS_THA
  ⟨0x0A0404, 24, 0x20, 1, 0x4, 0x0, 0x0, 0x0, 0x0, 0x0, 0xFFFFFFFF, 0x0⟩,
  -- TS_THB
  ⟨0x0A0408, 24, 0x20, 1, 0x4, 0x0, 0x0, 0x0, 0x0, 0x0, 0xFFFFFFFF, 0x50⟩,
  -- TS_VAL
  ⟨0x0A040C, 24, 0x20, 1, 0x4, 0x2000, 0x0, 0x0, 0x1, 0x0, 0x0, 0x0⟩,
  -- TS_THL
  ⟨0x0A0410, 24, 0x20, 1, 0x4, 0x7FFFFFFF, 0x0, 0x0, 0x0, 0x0, 0xFFFFFFFF, 0x7FFFFFFF⟩,
  -- TS_NVM
  ⟨0x0A0800, 1, 0x4, 1, 0x4, 0x0, 0x0, 0x0, 0x0, 0x0, 0xFFFFFFFF, 0x690FE70⟩,
  -- TS_LINB
  ⟨0x0A0804, 1, 0x4, 1, 0x4, 0x0, 0x0, 0x0, 0x0, 0x0, 0x1FFFFF, 0x0⟩,
  -- TS_STAT
  ⟨0x0A0808, 1, 0x4, 1, 0x4, 0x0, 0x0, 0x0, 0x0, 0x0, 0x0, 0x0⟩,
  -- SUP_L12
  ⟨0x0A0900, 1, 0x4, 1, 0x4, 0x0, 0x0, 0x0, 0x0, 0x0, 0xFFFFFFFF, 0x70806A4⟩,
  -- SUP_L34
  ⟨0x0A0904, 1, 0x4, 1, 0x4, 0x0, 0x0, 0x0, 0x0, 0x0, 0xFFFFFFFF, 0x64005AA⟩,
  -- SUP_L5
  ⟨0x0A0908, 1, 0x4, 1, 0x4, 0x0, 0x0, 0x0, 0x0, 0x0, 0xFFFFFFFF, 0x4B00064⟩,
  -- SUP_SAGT
  ⟨0x0A090C, 1, 0x4, 1, 0x4, 0x0, 0x0, 0x0, 0x0, 0x0, 0xFFFFFFFF, 0xA064064⟩,
  -- SUP_STAT
  ⟨0x0A0910, 1, 0x4, 1, 0x4, 0x8000, 0x0, 0x0, 0xF, 0x0, 0x0, 0x0⟩,
  -- CAN_CFG
  ⟨0x0B0000, 4, 0x100, 1, 0x4, 0x0, 0x0, 0x0, 0x0, 0x0, 0xF000FF00, 0x10000A00⟩,
  -- CAN_NBT
  ⟨0x0B0004, 4, 0x100, 1, 0x4, 0x0, 0x0, 0x0, 0x0, 0x0, 0xFFFFFC3F, 0x0⟩,
  -- CAN_DBT
  ⟨0x0B0008, 4, 0x100, 1, 0x4, 0x0, 0x0, 0x0, 0x0, 0x0, 0x1F1F1F0F, 0x0⟩,
  -- CAN_TDC
  ⟨0x0B000C, 4, 0x100, 1, 0x4, 0x0, 0x0, 0x0, 0x0, 0x0, 0x807F007F, 0x0⟩,
  -- CAN_STAT
  ⟨0x0B0010, 4, 0x100, 1, 0x4, 0x0, 0x0, 0x0, 0x0, 0x0, 0x0, 0x0⟩,
  -- CAN_LEC
  ⟨0x0B0014, 4, 0x100, 1, 0x4, 0x0, 0x0, 0x0, 0x0, 0x0, 0x0, 0x0⟩,
  -- CAN_FLAG
  ⟨0x0B0018, 4, 0x100, 1, 0x4, 0x0, 0x0, 0x0, 0x1F, 0x0, 0x0, 0x0⟩,
  -- CAN_CNT
  ⟨0x0B001C, 4, 0x100, 1, 0x4, 0x0, 0x0, 0x0, 0x0, 0xFFFFFFFF, 0x0, 0x0⟩,
  -- CAN_CNT2
  ⟨0x0B0020, 4, 0x100, 1, 0x4, 0x0, 0x0, 0x0, 0x0, 0xFFFFFFFF, 0x0, 0x0⟩,
  -- CAN_TXS
  ⟨0x0B0024, 4, 0x100, 1, 0x4, 0x0, 0x0, 0x0, 0xFFFF, 0x0, 0x0, 0x0⟩,
  -- CAN_RXS
  ⟨0x0B0028, 4, 0x100, 1, 0x4, 0x0, 0x0, 0x0, 0x0, 0x0, 0x0, 0x0⟩,
  -- CAN_FID
  ⟨0x0B0040, 4, 0x100, 16, 0x8, 0x0, 0x0, 0x0, 0x0, 0x0, 0xFFFFFFFF, 0x0⟩,
  -- CAN_FMSK
  ⟨0x0B0044, 4, 0x100, 16, 0x8, 0x0, 0x0, 0x0, 0x0, 0x0, 0x1FFFFFFF, 0x0⟩,
  -- AL_CFG
  ⟨0x0B0800, 1, 0x4, 1, 0x4, 0x400000, 0x0, 0x0, 0x0, 0x0, 0xC37F07FF, 0x400010⟩,
  -- AL_TIME
  ⟨0x0B0804, 1, 0x4, 1, 0x4, 0x0, 0x0, 0x0, 0x0, 0x0, 0xFFFFFFFF, 0x32000A⟩,
  -- AL_TIME2
  ⟨0x0B0808, 1, 0x4, 1, 0x4, 0x0, 0x0, 0x0, 0x0, 0x0, 0xFFFFFFFF, 0x640064⟩,
  -- AL_MAP
  ⟨0x0B080C, 1, 0x4, 1, 0x4, 0x0, 0x0, 0x0, 0x0, 0x0, 0xFFF001FF, 0x40000000⟩,
  -- AL_SOLOSS
  ⟨0x0B0810, 1, 0x4, 1, 0x4, 0x0, 0x0, 0x0, 0x0, 0x0, 0xFF, 0x0⟩,
  -- AL_STAT
  ⟨0x0B0820, 1, 0x4, 1, 0x4, 0x0, 0x0, 0x0, 0x0, 0x0, 0x0, 0x0⟩,
  -- AL_FLAG
  ⟨0x0B0824, 1, 0x4, 1, 0x4, 0x0, 0x0, 0x0, 0x1F, 0x0, 0x0, 0x0⟩,
  -- AL_CNT
  ⟨0x0B0828, 1, 0x4, 1, 0x4, 0x0, 0x0, 0x0, 0x0, 0xFFFFFFFF, 0x0, 0x0⟩,
  -- AL_CNT2
  ⟨0x0B082C, 1, 0x4, 1, 0x4, 0x0, 0x0, 0x0, 0x0, 0xFFFFFFFF, 0x0, 0x0⟩,
  -- MP_CTRL
  ⟨0x0C0000, 1, 0x4, 1, 0x4, 0x0, 0x0, 0x0, 0x0, 0x0, 0xFFFF, 0x100⟩,
  -- MP_STAT
  ⟨0x0C0004, 1, 0x4, 1, 0x4, 0x0, 0x0, 0x0, 0x1F, 0x0, 0x0, 0x0⟩,
  -- MP_CNT
  ⟨0x0C0008, 1, 0x4, 1, 0x4, 0x0, 0x0, 0x0, 0x0, 0xFFFFFFFF, 0x0, 0x0⟩,
  -- MP_CNT2
  ⟨0x0C000C, 1, 0x4, 1, 0x4, 0x0, 0x0, 0x0, 0x0, 0xFFFFFFFF, 0x0, 0x0⟩,
  -- MP_CERR
  ⟨0x0C0010, 1, 0x4, 1, 0x4, 0x0, 0x0, 0x0, 0x0, 0x0, 0x0, 0x0⟩,
  -- MP_UERR
  ⟨0x0C0014, 1, 0x4, 1, 0x4, 0x0, 0x0, 0x0, 0x0, 0x0, 0x0, 0x0⟩,
  -- MP_LERR
  ⟨0x0C0018, 1, 0x4, 1, 0x4, 0x0, 0x0, 0x0, 0x0, 0x0, 0x0, 0x0⟩,
  -- MP_HERR
  ⟨0x0C001C, 1, 0x4, 1, 0x4, 0x0, 0x0, 0x0, 0x0, 0x0, 0x0, 0x0⟩]

def regRows7 : List RegRow := [
  -- MP_FLIP
  ⟨0x0C0020, 1, 0x4, 1, 0x4, 0x0, 0x8030000F, 0x0, 0x40000000, 0x0, 0x0, 0x0⟩,
  -- MP_FLIPA
  ⟨0x0C0024, 1, 0x4, 1, 0x4, 0x0, 0xFFFFFC, 0x0, 0x0, 0x0, 0x0, 0x0⟩,
  -- MP_STADR
  ⟨0x0C0028, 1, 0x4, 1, 0x4, 0x0, 0x0, 0x0, 0x0, 0x0, 0x0, 0x0⟩,
  -- GQ_CFG
  ⟨0x0C1000, 64, 0x40, 1, 0x4, 0x0, 0x0, 0x0, 0x0, 0x0, 0xC7C0FFFF, 0x0⟩,
  -- GQ_BASE
  ⟨0x0C1004, 64, 0x40, 1, 0x4, 0x0, 0x0, 0x0, 0x0, 0x0, 0x7FFFF, 0x0⟩,
  -- GQ_STAT
  ⟨0x0C1008, 64, 0x40, 1, 0x4, 0x0, 0x0, 0x0, 0x7000, 0x0, 0x0, 0x0⟩,
  -- GQ_POPTAG
  ⟨0x0C100C, 64, 0x40, 1, 0x4, 0x0, 0x0, 0x0, 0x0, 0xC0FF, 0x0, 0x0⟩,
  -- GQ_LD0
  ⟨0x0C1010, 64, 0x40, 1, 0x4, 0x0, 0x0, 0x0, 0x0, 0x0, 0x0, 0x0⟩,
  -- GQ_LD1
  ⟨0x0C1014, 64, 0x40, 1, 0x4, 0x0, 0x0, 0x0, 0x0, 0x0, 0x0, 0x0⟩,
  -- GQ_PKT
  ⟨0x0C1018, 64, 0x40, 1, 0x4, 0x0, 0x0, 0x0, 0x0, 0x0, 0x0, 0x0⟩,
  -- GQ_CNT
  ⟨0x0C101C, 64, 0x40, 1, 0x4, 0x0, 0x0, 0x0, 0x0, 0xFFFFFFFF, 0x0, 0x0⟩,
  -- GQ_CNT2
  ⟨0x0C1020, 64, 0x40, 1, 0x4, 0x0, 0x0, 0x0, 0x0, 0xFFFF, 0x0, 0x0⟩,
  -- GQ_PUSH
  ⟨0x0C1024, 64, 0x40, 1, 0x4, 0x0, 0x0, 0x0, 0x0, 0x0, 0x0, 0x0⟩,
  -- GQ_PUSHE
  ⟨0x0C1028, 64, 0x40, 1, 0x4, 0x0, 0x0, 0x0, 0x0, 0x0, 0x0, 0x0⟩,
  -- GQ_END
  ⟨0x0C102C, 64, 0x40, 1, 0x4, 0x0, 0x0, 0x0, 0x0, 0x0, 0x0, 0x0⟩,
  -- EV_PEND
  ⟨0x0D0000, 32, 0x4, 1, 0x4, 0x0, 0x0, 0x0, 0xFFFFFFFF, 0x0, 0x0, 0x0⟩,
  -- EV_EN
  ⟨0x0D0080, 32, 0x4, 1, 0x4, 0x0, 0xFFFF, 0x0, 0x0, 0x0, 0xFFFFFFFF, 0xFFFFFFFF⟩,
  -- EV_SUM
  ⟨0x0D0100, 1, 0x4, 1, 0x4, 0x0, 0x0, 0x0, 0x0, 0x0, 0x0, 0x0⟩,
  -- EV_SEQ
  ⟨0x0D0104, 1, 0x4, 1, 0x4, 0x0, 0x0, 0x0, 0x0, 0x0, 0x0, 0x0⟩,
  -- EV_CNT
  ⟨0x0D0108, 1, 0x4, 1, 0x4, 0x0, 0x0, 0x0, 0x0, 0xFFFF, 0x0, 0x0⟩,
  -- TR_CFG
  ⟨0x0D0800, 1, 0x4, 1, 0x4, 0x0, 0x8F00000F, 0x0, 0x0, 0x0, 0x8F00000F, 0x0⟩,
  -- TR_TRIG
  ⟨0x0D0804, 1, 0x4, 1, 0x4, 0x7000, 0x71FF, 0x0, 0x0, 0x0, 0x71FF, 0x7000⟩,
  -- TR_CNT
  ⟨0x0D0808, 1, 0x4, 1, 0x4, 0x0, 0x7FF07FF, 0x0, 0x0, 0x0, 0x7FF07FF, 0x2000200⟩,
  -- TR_CTL
  ⟨0x0D080C, 1, 0x4, 1, 0x4, 0x0, 0x0, 0x3, 0x0, 0x0, 0x0, 0x0⟩,
  -- TR_STAT
  ⟨0x0D0810, 1, 0x4, 1, 0x4, 0x0, 0x0, 0x0, 0x0, 0x0, 0x0, 0x0⟩,
  -- TR_ADDR
  ⟨0x0D0820, 8, 0x4, 1, 0x4, 0x0, 0xFFFFFF, 0x0, 0x0, 0x0, 0xFFFFFF, 0x0⟩]

/-- Every register of the register map, in ascending base address within each chunk. -/
def regRows : List RegRow := regRows0 ++ regRows1 ++ regRows2 ++ regRows3 ++ regRows4 ++ regRows5 ++ regRows6 ++ regRows7

/-- The row of the register at address `a`, if `a` is the address of a register. -/
def regRow (a : Nat) : Option RegRow := regRows.find? (·.holds a)

/-- The registers whose reset word is not 0, with that word: `IO_STAT`, `DEV_ID` and the OTP bits hold what the part and its
board give them (a log entry names the values chosen). -/
def resetRows : List RegRow := [
  -- DEV_ID
  ⟨0x000000, 1, 0x4, 1, 0x4, 0x4B196010, 0x0, 0x0, 0x0, 0x0, 0x0, 0x0⟩,
  -- HL_STAT
  ⟨0x052024, 4, 0x40, 1, 0x4, 0x7000000, 0x0, 0x0, 0x6, 0x0, 0x0, 0x0⟩,
  -- CMP_STAT
  ⟨0x06000C, 48, 0x20, 1, 0x4, 0xE0000000, 0x0, 0x0, 0x3, 0x0, 0x0, 0x0⟩,
  -- TC_STAT
  ⟨0x071080, 2, 0x200, 1, 0x4, 0x4000000, 0x0, 0x0, 0x0, 0x0, 0x0, 0x0⟩,
  -- TC_BUD
  ⟨0x071094, 2, 0x200, 1, 0x4, 0x1000000, 0x0, 0x0, 0x0, 0x0, 0x0, 0x0⟩,
  -- TC_SLIM
  ⟨0x0710E4, 2, 0x200, 1, 0x4, 0x7FFFFFFF, 0x0, 0x0, 0x0, 0x0, 0x0, 0x0⟩,
  -- DC_STAT
  ⟨0x080050, 1, 0x4, 1, 0x4, 0x1400000, 0x0, 0x0, 0x0, 0x0, 0x0, 0x0⟩,
  -- SF_STO
  ⟨0x0A0200, 1, 0x4, 1, 0x4, 0x7800000, 0x0, 0x0, 0x6, 0x0, 0x0, 0x0⟩,
  -- TS_VAL
  ⟨0x0A040C, 24, 0x20, 1, 0x4, 0x2000, 0x0, 0x0, 0x1, 0x0, 0x0, 0x0⟩,
  -- TS_THL
  ⟨0x0A0410, 24, 0x20, 1, 0x4, 0x7FFFFFFF, 0x0, 0x0, 0x0, 0x0, 0xFFFFFFFF, 0x7FFFFFFF⟩,
  -- SUP_STAT
  ⟨0x0A0910, 1, 0x4, 1, 0x4, 0x8000, 0x0, 0x0, 0xF, 0x0, 0x0, 0x0⟩,
  -- AL_CFG
  ⟨0x0B0800, 1, 0x4, 1, 0x4, 0x400000, 0x0, 0x0, 0x0, 0x0, 0xC37F07FF, 0x400010⟩,
  -- TR_TRIG
  ⟨0x0D0804, 1, 0x4, 1, 0x4, 0x7000, 0x71FF, 0x0, 0x0, 0x0, 0x71FF, 0x7000⟩]

/-- The word that the register at `a` holds when reset is released (R13). DESIGN CHOICE, unsafe (log entry 7). -/
def resetWord (a : Nat) : Word :=
  match resetRows.find? (·.holds a) with
  | some r => BitVec.ofNat 32 r.reset
  | none => 0

end Sys2Proof.Machine
end

