-- ==== Sys2Proof/Machine/State.lean ====
section
/-! DEFINITION. The state of the BX960 as plain data: the registers of the manual's register map with their commit-group shadows,
the on-chip SRAM with its parity, and the state that each block holds besides its registers; and the queue of the commands that
wait. `State.reset` is the part when reset is released (R13, R764). -/

namespace Sys2Proof.Machine

/-- No command of the table ends in a fault: where the manual names a fault the BX960 goes on in a state that it describes.
`outOfWindow` is raised by nobody; it stands here because the interface asks for a type of faults. Safe. -/
inductive Fault where
  | outOfWindow
  deriving DecidableEq, Repr

/-- Why a command has no meaning. -/
inductive Refusal where
  /-- Raised by an arm of `exec` whose command has no meaning yet. Safe: the machine stops. -/
  | notModelled (mnemonic : String)
  /-- Raised by `guarded` for a command that no BX960 can meet, because an operand lies outside the range that the manual gives
  it (`Instr.wf`). Safe: the machine stops. -/
  | illFormed
  deriving DecidableEq, Repr

/-- A raise of the event matrix (R829): source, severity, level, converter (7 = the axle) and instance. -/
structure Raise where
  src  : Nat
  sev  : Nat
  lvl  : Nat
  conv : Nat
  inst : Nat
  deriving DecidableEq, Repr

/-- A numbered raise with what its event-log entry holds (R832), in the FIFO of the matrix (R830, R881). `inLog` and `inFault` say
which of the two destinations have taken it. -/
structure FifoEntry where
  tus     : Nat
  seq     : Nat
  r       : Raise
  state   : Nat
  sag     : Nat
  inLog   : Bool
  inFault : Bool
  deriving DecidableEq, Repr

/-- A captured commit that waits for its boundary (R38, R39): the group, the captured words by their active address, whether
the service port asked for it, and the cycle of the capture (R826). -/
structure Commit where
  group : Nat
  words : List (Nat × Word)
  sp    : Bool
  cyc   : Nat
  deriving DecidableEq, Repr

/-- What hardware has set of a field in the present cycle: the field, its value before the cycle, and what it holds after a read or a
write of this cycle has cleared it (R15, R16). -/
structure HwSet where
  fld    : Fld
  before : Nat
  val    : Nat
  deriving DecidableEq, Repr

/-- What an angle domain holds besides its registers (R52 to R73). -/
structure Dom where
  /-- 48-bit accumulator and rate (R52). -/
  acc  : W48
  rate : W48
  /-- The accumulator of the previous cycle (R69, R307). -/
  prev : W48
  /-- Measurements taken since ACQUIRE was entered; 2 stands for two or more. -/
  acqN : Nat
  /-- The first measurement of ACQUIRE: its angle, and its sampling instant c − d. -/
  acqTheta : Word
  acqT : Int
  /-- Consecutive measurements within the lock window (R62, step 4). -/
  lockRun : Nat
  /-- A source switch awaits the first measurement of the new source (R65). -/
  switched : Bool
  /-- The cycle of the last switch under R64; the secondary source is taken from the next cycle on. -/
  selAt : Option Nat
  /-- The cycle of the last accepted `SYNC_IN` edge (R70). -/
  lastEdge : Option Nat
  /-- Domain boundaries since the last delivered `SYNC_IN` edge (R71). -/
  noEdge : Nat
  /-- Domain boundaries since reset release, the cycle of the last entry into LOCKED, and the boundaries at that entry (R435). -/
  bnds : Nat
  lockAt : Nat
  lockBnd : Nat
  /-- What the last read of `AD_ANGLE` captured for `AD_RATE_HI` and `AD_RATE_LO`. -/
  capRate : W48
  deriving DecidableEq, Repr

/-- A schedule entry that waits to fire: its index in the entry store, the cycle in which it is due, and the period count that
it carries (R82, R84). -/
structure Armed where
  entry  : Nat
  /-- The index after the last entry of the schedule that it belongs to. -/
  hi     : Nat
  /-- The cycle in which it fires, and the period in which it was armed (R81). -/
  due    : Nat
  pcount : Nat
  /-- Of a late entry of an ended period, or armed by one (R84). -/
  late   : Bool
  deriving DecidableEq, Repr

/-- What a Dripline track holds besides its registers (R74 to R91). -/
structure Trk where
  phi     : Nat
  backlog : Nat
  /-- φ, L and the angle word as the previous cycle left them, from which R74 forms those of this cycle. -/
  phi0     : Nat
  backlog0 : Nat
  ang0     : Word
  /-- Whether it runs (R74). -/
  running : Bool
  /-- Made idle by a descriptor read error (R98). -/
  dead    : Bool
  /-- Armed delay entries (R81 to R83), oldest first. -/
  armed   : List Armed
  /-- Late angle entries that wait for capacity (R84, R86). -/
  late    : List Armed
  /-- The cycle in which the pending schedule was set (R88). -/
  pendAt  : Nat
  /-- The index of the next angle entry, which `PTR` shows in 11 bits. -/
  next    : Nat
  deriving DecidableEq, Repr

/-- A run of a converter sequence (R127, R128): sequence, period count and track of its start, and the position of the next entry to be
sampled. -/
structure SeqRun where
  seq    : Nat
  pcount : Nat
  trk    : Nat
  pos    : Nat
  /-- The cycle of the firing entry, which names the firing for R148. -/
  fired  : Nat
  /-- The cycle from which the instants of entry `pos` are taken (R130, R131). -/
  at_    : Nat
  deriving DecidableEq, Repr

/-- An entry of a run whose samples have all been taken, and whose result is still to be written (R130, R133): its run and position, the cycle
of its last sample, the slices of its samples, and whether the run ends with it (1 complete, 2 abandoned, R141). -/
structure OnceDue where
  run    : SeqRun
  pos    : Nat
  last   : Nat
  slices : List Nat
  fin    : Nat
  deriving DecidableEq, Repr

/-- A fit window of a converter (R106, R107): its run, c0, and c1 once it has closed. -/
structure AdcWin where
  run : SeqRun
  c0  : Nat
  c1  : Nat
  deriving DecidableEq, Repr

/-- The code of a cross-checked entry that waits for its partner's (R148, R149). -/
structure XcCode where
  entry : Nat
  seq   : Nat
  trk   : Nat
  fired : Nat
  input : Nat
  code  : Int
  bank  : Nat
  deriving DecidableEq, Repr

/-- A comparison of two codes that is made in the cycle after the later of the two results (R149): that cycle, the converter of the first code,
and the codes. -/
structure XcDue where
  at_  : Nat
  n    : Nat
  x    : XcCode
  y    : XcCode
  deriving DecidableEq, Repr

/-- What a converter holds besides its registers. -/
structure Adc where
  run    : Option SeqRun
  queued : Option SeqRun
  susp   : Option SeqRun
  /-- Entries whose results are still to be written, oldest first (R105, R133). -/
  dues   : List OnceDue
  /-- Tagged-queue items written by the runs that have not ended: sequence, cycle of the firing, count (R152). -/
  items  : List (Nat × Nat × Nat)
  /-- End items that wait for the cycle after the last result of their run (R153): cycle and run. -/
  tqEnds : List (Nat × SeqRun)
  /-- The open window, and the last window that closed. -/
  win    : Option AdcWin
  lastWin : Option AdcWin
  /-- The last window instant whose results have been written. -/
  winAt  : Option Nat
  /-- It has failed (R123). -/
  failed : Bool
  /-- Consecutive open findings by input (R147). -/
  openCnt : List (Nat × Nat)
  /-- The coefficients after earlier updates of the estimator with the instants counted at them, newest first (R118). -/
  hist   : List (Nat × List Int)
  /-- Instants counted up to a cycle, in the modes that held until then, and that cycle (R102, R116). -/
  insts  : Nat
  instAt : Nat
  /-- The instants counted at the last update of the estimator, and its cycle (R116, R117). -/
  updInst : Nat
  updAt  : Nat
  /-- The cycle since which the converter has sampled its internal references, and the cycle of their last sample before that (R115). -/
  idleAt : Option Nat
  refAt  : Option Nat
  /-- The input of the latest consecutive interleaved samples of one external input, the last instant and their number, and the instant that
  last completed four (R117). -/
  lastIn : Option (Nat × Nat × Nat)
  ran4   : Option Nat
  /-- Codes that wait for their cross-check partner's, and comparisons to be made (R149). -/
  xc     : List XcCode
  xcDues : List XcDue
  /-- The entries whose most recently written result bank is bank 1. -/
  bank1  : List Nat
  deriving DecidableEq, Repr

/-- A window sample at the fitter (R134): instant, input, corrected code and whether it clipped. -/
structure Sample where
  t    : Nat
  e    : Nat
  code : Int
  clip : Bool
  deriving DecidableEq, Repr

/-- The state of the phase channels from a cycle on (R161, R165): for inputs 0 to 2, 1 high, 0 low, 2 floating. -/
structure EdgeRec where
  t  : Nat
  st : List Nat
  deriving DecidableEq, Repr

/-- A window of a fitter: c0, c1 once closed, its period count, the snapshot of the model ports (value and freshness, R177), its
samples and its edges, oldest first. -/
structure FitWin where
  c0     : Nat
  c1     : Option Nat
  wtmo   : Bool
  pcount : Nat
  seq    : Nat
  ports  : List (Int × Bool)
  samples : List Sample
  edges  : List EdgeRec
  deriving DecidableEq, Repr

/-- A held fit buffer (R93): the track and the period of its window, the loops of that period that are still out, and whether a loop of the
period has started. -/
structure Hold where
  trk    : Nat
  pcount : Nat
  loops  : List Nat
  begun  : Bool
  deriving DecidableEq, Repr

/-- What a fitter holds besides its registers. -/
structure Fit where
  wins   : List FitWin
  hold0  : Option Hold
  hold1  : Option Hold
  fresh  : List Bool
  /-- Last `AVG` and `SLOPE` written with a reference segment, by input (R172). -/
  last   : List (Int × Int)
  deriving DecidableEq, Repr

/-- A dispatched run of a loop context (R207 to R211): context, period and track of its start, the domain values latched at the
dispatch (R56), the cycle of the dispatch, the later starts of the context since (R242, R284), and whether an `OUT_LOAD` has found the
run not complete (R96). -/
structure RunReq where
  ctx    : Nat
  pcount : Nat
  trk    : Nat
  at_    : Nat
  latch  : List (W48 × W48)
  shift  : Nat
  discard : Bool
  deriving DecidableEq, Repr

/-- What a run does to the gain schedule when it is released (R248, R249): the mantissas that it writes, by address; the new target
region and `GSJ`; whether the target region changed, with the mantissas from which the transfer starts. -/
structure GsRec where
  words : List (Nat × Word)
  reg   : Nat
  j     : Nat
  chg   : Bool
  old   : List Int
  deriving DecidableEq, Repr

/-- An `OUT` value of a run that waits for its release (R237, R277): its cycle, released output, target, whether it is immediate, value
and age. -/
structure OutRel where
  due : Nat
  j   : Nat
  target : Nat
  imm : Bool
  val : Word
  age : Nat
  deriving DecidableEq, Repr

/-- A compared write in the compare buffer (R275 to R277): the cycle of its compare; its kind, stage and index as `EC_LAST` codes them;
its width, whether the Echo value is the negation, and the two values; and whether the armed injection has flipped it (R299). -/
structure CmpW where
  at_   : Nat
  wkind : Nat
  stg   : Nat
  widx  : Nat
  width : Nat
  neg   : Bool
  lv    : Nat
  ev    : Nat
  inj   : Bool
  deriving DecidableEq, Repr

/-- A run in progress on a lane, which completes in cycle `done` (R210). -/
structure RunRec where
  req     : RunReq
  done    : Nat
  /-- Its stages; the gain schedule follows the last one (R251). -/
  nstg    : Nat
  /-- The stage that the lead pass starts next, and its cycle (R229). -/
  next    : Nat
  nextAt  : Nat
  /-- The signal slots of the two passes. -/
  lead    : List Word
  echo    : List Word
  /-- The operand buffer: the values of the operands read so far, by code, latest first (R266). -/
  reads   : List (Nat × Word)
  /-- The active copy of the commit group as it stood before a commit took effect during the run; `none` for a word with a parity error
  (R220). -/
  old     : List (Nat × Option Word)
  stale   : Bool
  busErr  : Bool
  mis     : Bool
  refinv  : Bool
  satf    : Nat
  /-- The pending store: state words to write, by address, lead and Echo (R278). -/
  stateW  : List (Nat × Word)
  /-- The `OUT` stages so far. -/
  nout    : Nat
  /-- The `OUT` values that are not released yet, oldest first. -/
  rel     : List OutRel
  /-- The compare buffer (R277), and the compared writes made so far. -/
  cmps    : List CmpW
  ncmp    : Nat
  /-- Whether the supervision condition was met (R244, R245). -/
  sup     : Bool
  /-- The gain schedule, unless its reads failed (R260). -/
  gs      : Option GsRec
  gsErr   : Bool
  /-- The run has the armed fault injection (R299, R300), and the flip has been made. -/
  armed   : Bool
  flipped : Bool
  /-- The faults of the hardware in its Echo copies: compared write by its place in the run, and flipped bits. -/
  faults  : List (Nat × Word)
  deriving DecidableEq, Repr

/-- Where the latest start of a context stands: none, waiting or running, complete, or skipped at a full queue (R208). -/
inductive CtxPhase where
  | none | out | complete | skipped
  deriving DecidableEq, Repr

/-- What the BX960 holds of the latest started run of a context (R95, R96, R241, R242, R282): its phase, whether it was released, whether a
compare of it failed, whether its period is held, the later starts since, the track and period of its start, whether its `OUT_LOAD` has
fired, and whether the latest start after it was skipped under R95; the mantissas from which a gain transfer of the context blends (R249);
and the ages that its released outputs deliver to measurement ports (R240). -/
structure CtxRun where
  ctx      : Nat
  phase    : CtxPhase
  released : Bool
  mis      : Bool
  held     : Bool
  shift    : Nat
  trk      : Nat
  pcount   : Nat
  loaded   : Bool
  skip     : Bool
  gsOld    : List Int
  ages     : List (Nat × Nat)
  deriving DecidableEq, Repr

/-- A lane of an engine (R205 to R209): the waiting runs, the run in progress, and the run that has completed in this cycle, which checks
of completion do not see before the next (R210). -/
structure Lane where
  queue : List RunReq
  run   : Option RunRec
  ended : Option RunRec
  deriving DecidableEq, Repr

/-- What a profile generator holds besides its registers (R254): position, velocity and acceleration in 2⁻⁴⁸ pu. -/
structure Prof where
  p : Int
  v : Int
  a : Int
  deriving DecidableEq, Repr

/-- The entries of a Gallery's input buffer (R745). -/
inductive GqEntry where
  | item (v : List Byte)
  | itemEnd (v : List Byte)
  | end_
  | mark (arg trk pcount : Nat)
  /-- A tagged-queue item of a converter, against its converter of the axle, of a run (sequence, cycle of the firing), or its end item
  (R152 to R154). -/
  | tq (n conv seq fired : Nat) (fin : Bool) (v : List Byte)
  deriving DecidableEq, Repr

/-- An entry of an input buffer: the cycle in which it arrived, and the place of its writer in the order of R746. -/
structure GqIn where
  came : Nat
  rank : Nat
  e    : GqEntry
  deriving DecidableEq, Repr

/-- What a Gallery holds besides its registers (R746 to R759): the input buffer, the write and read slot numbers, whether
a `LOSS` waits for the next slot to close, the cycle of the last entry that was packed, and the cycle in which it resets. -/
structure Gq where
  buf     : List GqIn
  wr      : Nat
  rd      : Nat
  loss    : Bool
  packAt  : Option Nat
  rstAt   : Option Nat
  deriving DecidableEq, Repr

/-- What a comparator holds besides its registers: whether it is connected to its input, the cycle in which its self-test began, whether it
is blanked, and its input (R595, R596). -/
structure Cmp where
  connected : Bool
  testAt    : Nat
  blanked   : Bool
  /-- The cycle of the pin change that began the present blanking (R597). -/
  blankAt   : Nat
  /-- The recognised state: 0 inside, 1 outside-high, 2 outside-low; 3 while the comparator is unresolved. -/
  seen      : Nat
  /-- The code of the input, in the input's code scale. -/
  v         : Int
  /-- The state that the input gives under the hysteresis (R596). -/
  st        : Nat
  /-- The cycle from which the blocks see `RAWO` again after a self-test (R604). -/
  rawAt     : Option Nat
  deriving DecidableEq, Repr

/-- A held short report (R608): the φ₁ of the lead track, when the report carries it. -/
structure ShortRep where
  leg  : Nat
  phi  : Option Nat
  pc   : Nat
  deriving DecidableEq, Repr
/-- What a PG channel holds of one output and its off-confirm (R308, R321 to R327, R879). Pin times are counted in steps of 1/64
cycle. -/
structure PgOut where
  /-- The edge time of the reference edge that requests a waiting turn-on. -/
  req     : Nat
  /-- The edge time of a turn-off that is on its way to the pin (R308). -/
  offDue  : Option Nat
  /-- The time of the last deassertion and of the last assertion at the pin. -/
  offAt   : Nat
  onAt    : Nat
  /-- The cycles in which the off-confirm of this output was last recognised as asserted, and as deasserted. -/
  ocAt    : Nat
  ocEnd   : Nat
  /-- The off-confirm has been recognised as deasserted since the last turn-on (R326). -/
  seenOff : Bool
  deriving DecidableEq, Repr

/-- An item of an edge queue (R309): its angle, and the new values of r (or rH) and rL. -/
structure EqItem where
  x  : Word
  sh : Bool
  sl : Bool
  deriving DecidableEq, Repr

/-- What a PG channel holds besides its registers: its two outputs, its edge queue, its reference states before the forces of
the comparators (R598), and the gates of the block that commands it (R501, R545). -/
structure Pg where
  hi    : PgOut
  lo    : PgOut
  queue : List EqItem
  baseH : Bool
  baseL : Bool
  gateH : Bool
  gateL : Bool
  /-- An off-confirm has been recognised as asserted since the channel was enabled (R328). -/
  confirmed : Bool
  deriving DecidableEq, Repr

/-- A Gate Link request (R350). `kind` of a status: 0 a poll, 1 the first at a new rate, 2 the verification of R360, 3 the final
check of R370. -/
inductive GlReq where
  | enum
  | hello (pos : Nat)
  | setver (pos ver : Nat)
  | setrate (rate : Nat)
  | read (pos adr n : Nat)
  | write (pos adr : Nat) (data : List Byte)
  | status (pos kind : Nat)
  | clear (pos : Nat)
  | snap
  deriving DecidableEq, Repr

/-- The open transaction of a port: its request, its `SEQ`, the frame sent, the cycle in which it began to leave, the attempts made so
far besides the first, and whether an exact echo has come in any attempt (R354, R355). -/
structure GlTxn where
  req    : GlReq
  seq    : Nat
  frame  : List Byte
  at_    : Nat
  tries  : Nat
  echoed : Bool
  deriving DecidableEq, Repr

/-- A gate driver as Gate Link defines it: the BX960's image bytes of it and the last status block, and the driver's own side
(R345, R352, R353, R358, R359): its position, its negotiated version, its rate, the rate that a SETRATE gives it with its cycle, the end of
the last valid frame at its input, its bytes 0x10 to 0x3F, its latched flags, `RSTF`, and whether a SNAP holds its measurements; whether the
last block disagreed with the STO wires; and whether it has been negotiated again since it was lost (R369). -/
structure Drv where
  image   : List Byte
  last    : List Byte
  crcBad  : Bool
  stoBad  : Nat
  pos     : Nat
  ver     : Nat
  rate    : Nat
  newRate : Option (Nat × Nat)
  frameAt : Nat
  regs    : List Byte
  latched : Nat
  rstf    : Bool
  snapped : Bool
  stoMis  : Bool
  renewed : Bool
  deriving DecidableEq, Repr

/-- What a Gate Link port holds besides its registers: the open transaction, the failed one that is to be sent again (R355), the polls of an
alert round, which go before the other requests that wait (R365), the cycle before which it sends nothing (R353), the last `SEQ`, the next position to poll, the positions that have had no transaction yet at a new rate (R357), the stage (0 none, 1 start-up under R370,
2 recovery of a broken ring under R369), whether a rate fallback waits, and whether the port stays at 5 Mbit/s. -/
structure GlPort where
  txn   : Option GlTxn
  again : Option GlTxn
  first : List GlReq
  todo  : List GlReq
  hold  : Nat
  seq   : Nat
  poll  : Nat
  fresh : List Nat
  stage : Nat
  fbWait : Bool
  stay5 : Bool
  drvs  : Vector Drv 8
  deriving DecidableEq, Repr

/-- What a modulator holds of one phase of a set while it fills the phase's queue (R389 to R391, R393, R406): the rotor angle up to which
edges have been taken, whether an edge at that angle is still to come, the distance from the last item to that angle, the last item pushed, the
item of a restart that waits, and the merged edges of a transition that wait. -/
structure TmPh where
  mark  : Word
  incl  : Bool
  since : Int
  last  : Option (Word × Bool)
  start : Option (Word × Bool)
  merge : List (Word × Bool)
  deriving DecidableEq, Repr

/-- What a modulator holds of one set besides its registers: whether it computes the set (R414), whether a reference has been written in this
cycle (R377), the carrier results and the
Drapery values of computations in flight with the cycles of their writes (R377: M, δ, and whether the computation has a δ), the compare angles of a hand-over
(R402), the load angle of the last known placement, and the state of a transition (R404 to R409): the slot that filling uses, the slot that
the transition leads to, its merge half-width, whether its merged edges have been pushed and whether the slot has changed. `angs` holds
the last angles read of each slot (R415). -/
structure TmSet where
  on      : Bool
  want    : Bool
  carrier : List (Nat × List (Word × Word))
  drapery : List (Nat × Nat × Word × Bool)
  hand    : List (Word × Word)
  /-- The mode that a hand-over leads to: `some true` for DRAPERY. -/
  handTo  : Option Bool
  phs     : List TmPh
  fill    : Nat
  dest    : Nat
  xw      : Nat
  merged  : Bool
  changed : Bool
  /-- The next commitment is frozen (R409). -/
  freeze  : Bool
  angs    : List (Nat × List Word)
  deriving DecidableEq, Repr

/-- What a modulator holds besides its registers: its two sets, and the last good DC-link value (R378). -/
structure Tm where
  set0  : TmSet
  set1  : TmSet
  vGood : Option Int
  /-- Load points to be made, with their cycles (R414). -/
  loads : List (Nat × Nat)
  /-- The hand-over mode that waits with its pending schedules: 0 none (R399). -/
  hand  : Nat
  deriving DecidableEq, Repr

/-- The results of a step of a field controller (R421): the eight exchange words, `T_r`, `S_r`, the state, the requested safe command,
the budget values g, Q and ΔT, and what the next step needs: the `MODE` and the `SETEN` of this step, the cycle and the boundaries of
`RDOM` at the entry into the state, the steps taken in ZERO, ref₀ of R438, the allowance of R441, the confident steps of R437, LT, F, E
and V, and the flags of R432, R434 (step 9), R441 and R446. -/
structure TcData where
  words : List Word
  tr    : Int
  sr    : Int
  state : Nat
  sreq  : Nat
  g     : Nat
  q     : Nat
  dt    : Nat
  mode  : Nat
  seten : Nat
  enter : Nat
  enterBnd : Nat
  zk    : Nat
  ref0  : List Int
  a0    : Int
  ak    : Nat
  conf  : Nat
  lt    : Int
  f     : Int
  e     : Int
  tj    : Int
  lowM  : Bool
  vlimM : Bool
  vlimG : Bool
  setalw : Bool
  derate : Bool
  deriving DecidableEq, Repr

/-- A computed step that waits for its write in cycle c + 48 (R421, R422): the results, the step of R434 that was taken (0 none), V, and
the cause of a hold: 1 the forms disagree, 2 a bus error. -/
structure TcPend where
  data : TcData
  why  : Nat
  v    : Int
  hold : Nat
  deriving DecidableEq, Repr

/-- What a field controller holds besides its registers: its last written step, the step that waits, the observer whose angle register was
written last and not delivered yet (R436), and the V of the last written step (R611). -/
structure Tc where
  last : TcData
  pend : Option TcPend
  obs  : Option Nat
  vLast : Int
  deriving DecidableEq, Repr

/-- A result that a resolver interface has taken of a run (R457): its cycle, its code and whether it was flagged. -/
structure RsRes where
  at_  : Nat
  code : Int
  flagged : Bool
  deriving DecidableEq, Repr

/-- A judged sample that waits for its cycle w + 24 (R464, R465): whether it is good, its position Ps and its age. -/
structure RsSample where
  good : Bool
  ps   : Nat
  age  : Nat
  deriving DecidableEq, Repr

/-- What a resolver or sin/cos interface holds besides its registers: the results of the present run, the judged sample, Ps of the last
good sample, whether there is one, the index state of R467 (seen, out-of-window count, pending offset), and the excitation output as
AMP × sin(ε), 0 standing for 0.9 V. -/
structure Rs where
  sin    : Option RsRes
  cos    : Option RsRes
  sample : Option RsSample
  ps     : Nat
  hasPs  : Bool
  seenIx : Bool
  oowc   : Nat
  pendO  : Int
  exc    : Int
  deriving DecidableEq, Repr

/-- What a quadrature decoder holds besides its registers: the recognised levels, the edge instant of the last count, the counts since
the last illegal transition, the index state (seen, gate held in the last cycle, pending offset, counts since the last index,
missing), the position to deliver in the next cycle, the cycle of the last delivery, the compare output, and the cycle in which a match
asserts it. -/
structure Qd where
  a      : Bool
  b      : Bool
  i      : Bool
  edgeAt : Option Nat
  legal  : Nat
  seenIx : Bool
  gate   : Bool
  pendO  : Int
  since  : Int
  missed : Bool
  dlv    : Option Nat
  lastDlv : Option Nat
  cmpOut : Bool
  cmpOn  : Option Nat
  deriving DecidableEq, Repr

/-- What a Hall triplet holds besides its registers: whether a valid code has been recognised, the edge instant of the last normal
transition, the consecutive normal transitions, and the angle to deliver in the next cycle. -/
structure Hl where
  seen   : Bool
  edgeAt : Option Nat
  normal : Nat
  dlv    : Option Word
  deriving DecidableEq, Repr

/-- What the DC/DC block holds of a cell (R498 to R517): its state, its cell gate, its ramp count and share weight, the DDOM boundaries
since it joined, whether the ramp of an added cell has begun, the emulation gates with the cycles in which their reference states last
rose, and the signed interleave angle with its start and target. -/
structure DcCell where
  cst   : Nat
  gate  : Bool
  j     : Nat
  f     : Nat
  bnds  : Nat
  since : Nat
  openAt : Option Nat
  deact : Bool
  eh    : Bool
  el    : Bool
  riseH : Nat
  riseL : Nat
  ilv   : Int
  ilvS  : Int
  ilvT  : Int
  deriving DecidableEq, Repr

/-- The results of a DDOM boundary that R523 compares, besides the gates: the cells, the converter state, w, V_r, the failed attempts,
the entry cycle of START, whether a retry wait runs, the step m of a re-spacing and the interleave set that it was formed for. -/
structure DcData where
  cells : List DcCell
  state : Nat
  w     : Nat
  vr    : Int
  att   : Nat
  startAt : Nat
  retry : Bool
  resp  : Option Nat
  spSet : List Nat
  deriving DecidableEq, Repr

/-- What the DC/DC block holds besides its registers: its data, the last good Vout and Vin, the cycle in which the condition of R499 began
while it holds, the cycle in which every cell gate closes (R498, R499), the cycle of the last load step (R513), and the
register writes of a boundary that wait for cycle c + 16 (`none` for a held boundary). -/
structure Dc where
  data  : DcData
  vout  : Option Int
  vin   : Option Int
  frq   : Option Nat
  closeAt : Option Nat
  stepAt : Option Nat
  pend  : Option (Option (List (Nat × Word)))
  deriving DecidableEq, Repr

/-- The results of a charger step that R528 compares: the state, V_r, L_p and L_b of R547, the cycle of the entry into the state, whether
a retry wait runs, the halted sessions, the last cause, `TEMPOK`, whether gB was 2¹⁶, and the legs of the variant in force at the
step (R550). -/
structure ChData where
  state : Nat
  vr    : Int
  lp    : Int
  lb    : Int
  enter : Nat
  retry : Bool
  att   : Nat
  cause : Nat
  tempOk : Bool
  full  : Bool
  legs  : List Nat
  deriving DecidableEq, Repr

/-- The pilot front end (R529 to R532): the voltage at `CP_IN` in units of 10 mV, the comparator's output, the cycle in which that output is
recognised when it differs from the recognised level, the recognised level, the codes of the sampler with the cycle from which each stands
(the latest first), and the edge instants of the last rising edge and of the falling edge after it. -/
structure Cp where
  v    : Int
  out  : Bool
  due  : Option Nat
  high : Bool
  wave : List (Nat × Int)
  rise : Option Nat
  fall : Option Nat
  deriving DecidableEq, Repr

/-- What the charger block holds besides its registers: its data, the last good Vbus, the register writes of a step that wait for cycle
c + 16 (`none` for a held step), the plateaus (R531), the candidate states of the pilot (`CPST`, `PWM`) and of the proximity input with
their agreeing evaluations, the PFC compare angles in flight by channel, with the cycle of their
write (R549), the pilot front end, whether a voltage reference has been written in this cycle (R549), and the cycle in which a
step into HALT closes the gates (R546). -/
structure Ch where
  data  : ChData
  vbus  : Option Int
  pend  : Option (Option (List (Nat × Word)))
  vh    : Option Int
  vl    : Option Int
  cpCand : Nat × Bool
  cpRun : Nat
  ppCand : Nat
  ppRun : Nat
  pfc   : List (Nat × List (Nat × Word × Word))
  cp    : Cp
  want  : Bool
  closeAt : Option Nat
  deriving DecidableEq, Repr

/-- What an actuator leg holds of one output (R559, R570 to R575, R880), in cycles: the edge time that requests a waiting turn-on, that of a
turn-off on its way to the pin, the last deassertion and assertion at the pin, the cycles in which the gate monitor was last recognised as
off and as on, and the cycle since which the drain–source monitor reads above `VDSTH`. -/
structure AcOut where
  req   : Nat
  offDue : Option Nat
  offAt : Nat
  onAt  : Nat
  gmAt  : Nat
  gmOn  : Nat
  vdsAt : Option Nat
  deriving DecidableEq, Repr

/-- What an actuator leg holds besides its registers: its command (0 OFF, 1 LOW, 2 ARC), its reference state, whether it has entered PRECH
(R880), the cycle since which its bootstrap monitor reads low (R576), and its outputs. -/
structure AcLeg where
  cmd : Nat
  r   : Bool
  pre : Bool
  bsAt : Option Nat
  hi  : AcOut
  lo  : AcOut
  deriving DecidableEq, Repr

/-- What an actuator channel holds besides its registers: its legs, the values that its `OUT` targets held before their latest writes
(cycle of the write, address, value before; R561), the cycle of the entry into PRECH, the active half-width and sign of d in BLOCK
mode (R567), whether the last load point found a valid sector (R591), and the cycle in which a change of sector reaches the legs
(R567). -/
structure Ac where
  legs  : List AcLeg
  hist  : List (Nat × Nat × Word)
  enter : Nat
  hAct  : Nat
  neg   : Bool
  sectOk : Bool
  hallAt : Option Nat
  deriving DecidableEq, Repr

/-- A fault-reaction entry (R616, R790). -/
structure FrEntry where
  src    : Nat
  conv   : Nat
  react  : Nat
  arg    : Nat
  sec    : Nat
  sarg   : Nat
  pleng  : Bool
  relt   : Nat
  relmax : Nat
  deriving DecidableEq, Repr

/-- A converter variant (R620, R791): its converter and number, its units, flags and block variant, and its pairs of track and descriptor. -/
structure CVar where
  conv  : Nat
  num   : Nat
  units : Nat
  flags : Nat
  bvar  : Nat
  trks  : List (Nat × Nat)
  deriving DecidableEq, Repr

/-- A record of the unit map (R792). -/
structure UnitRow where
  kind  : Nat
  index : Nat
  unit  : Nat
  conv  : Nat
  deriving DecidableEq, Repr

/-- A hand-over or supply entry (R793). -/
structure HandRow where
  conv : Nat
  kind : Nat
  cvn  : Nat
  trks : List (Nat × Nat)
  deriving DecidableEq, Repr

/-- A pending change of a converter that a round has withdrawn or replaced (R876): the cycle from which the withdrawal acts, the cycle in which
the change was set, its converter variant and block variant, its modulator mode, its schedules by track, and whether a boundary before then
takes it up, which the manual leaves open. -/
structure OldChange where
  until_ : Nat
  setAt  : Nat
  var    : Option Nat
  bvar   : Nat
  mode   : Option Nat
  trks   : List (Nat × Nat)
  keep   : Bool
  deriving DecidableEq, Repr

/-- What the safety controller holds of a converter: the cycle in which its pending change was set and the tracks that the change names
(R629, R876), the change that it replaced, the pending safe command with its source code and its rank and the cycle in which it was set (R337, R624), the rank of the command in force, the
channels or legs to re-arm at the next angle boundary (R631), and those isolated by the trip that led to R609. -/
structure ScConv where
  varAt   : Nat
  tracks  : List Nat
  old     : Option OldChange
  cmdP    : Option (Nat × Nat × Nat)
  cmdAt   : Nat
  cmdRank : Nat
  rearm   : List Nat
  shortLegs : List Nat
  deriving DecidableEq, Repr

/-- What the safety controller holds: the image's fault-reaction entries, converter variants, unit map and hand-over entries, the
converters, the re-arms made since reset by item (R631), whether a fault or a demand has caused AXLE_SAFE (R43), whether the table
asks for suspension and, by traction converter, for the last choice (R617), whether a park-lock engage is requested and may run
(R625), and the cycle of the last failed step (R294). -/
structure Sc where
  frt   : List FrEntry
  cvars : List CVar
  units : List UnitRow
  hand  : List HandRow
  convs : Vector ScConv 5
  rearms : List (Nat × Nat)
  axFault : Bool
  axDemand : Bool
  suspTab : Bool
  lastTab : List Bool
  pleng : Bool
  engOk : Bool
  misAt : Option Nat
  deriving DecidableEq, Repr


/-- What a safe output holds besides its registers: the cycle of its last change (energised, de-energised, or end of an off-pulse),
whether an off-pulse runs, and whether its readback has been recognised as energised since that change (R656 to R658). -/
structure SoOut where
  since : Nat
  pulse : Bool
  up    : Bool
  deriving DecidableEq, Repr

/-- A monitored rail: its voltage in 10 mV, the cycle in which it left its limits while it is outside them, and whether its event has been
raised for that (R671). -/
structure Rail where
  v    : Nat
  out  : Option Nat
  done : Bool
  deriving DecidableEq, Repr

/-- The rails at their nominal voltages: `VDD_CORE`, `VDD_ANA`, `VDD_IO_A`, `VDD_IO_B`, `VDD_IO_C` and `VDRV` (R846). DESIGN CHOICE, unsafe
(log entry 61). -/
def Rail.nominal : List Rail := [85, 180, 330, 330, 330, 1200].map fun v => ⟨v, none, false⟩

/-- An input that is sampled every µs through a 2-cycle synchroniser (R636, R655): the level at the pin, the cycle of its last change, the
value of the samples before the first one that sees that change, and the instant of the first of them. -/
structure Smp where
  pin   : Nat
  chg   : Nat
  val   : Nat
  since : Nat
  deriving DecidableEq, Repr

/-- What the safety I/O, temperature and supply blocks hold besides their registers: the start of each pair's discrepancy timer
(R639); the start of the last SS1, s₀ of each controller, whether a pair has entered RELEASE since the SS1 source became active and
whether a pair with `AXLE` asked for it (R648, R649, R643); the start of each controller's unbroken SLS failures and whether they have been
reported (R653); the samples of the safety input channels (2n + channel) and of the readbacks (R636, R655); the outputs that failed the
start-up test, as a mask, and whether that test has ended (R659); the cycle in
which the STO request became active (R651); the last change of the STO wires and the latched wire fault (R646, R647); the safe outputs and
the latched `SOUT_EN` (R657); the previous reading in range of each temperature channel (R662); the consecutive readings below each sag
threshold, the readings since `VSYS` has been good with the cycle of the first, whether level 0 has been reached (R667, R670), and s₀ and
the milliseconds of the sag ramp (R668). -/
structure Sf where
  disc    : List (Option Nat)
  ss1At   : Option Nat
  ss1S0   : List Nat
  ss1Rel  : Bool
  ss1Axle : Bool
  slsFail : List (Option Nat)
  slsDone : List Bool
  sin     : List Smp
  srb     : List Smp
  ioBad   : Nat
  ioDone  : Bool
  stoAt   : Nat
  wireAt  : Nat
  wireBad : Bool
  outs    : List SoOut
  soStuck : Bool
  tPrev   : List (Option Int)
  sagBelow : List Nat
  sagOkN  : Nat
  sagOkAt : Nat
  sagZero : Bool
  sagS0   : List Nat
  sagMs   : Nat
  deriving DecidableEq, Repr

/-- What a CAN FD controller holds besides its registers: the cycle in which it deasserted its standby pin (R682), the cycles in which the
transmit requests were set, the requests withdrawn while their frames are on the wire (R688), and the cycle of the entry into
bus-off (R693). -/
structure Can where
  startAt : Option Nat
  reqAt   : List Nat
  gone    : List Nat
  boAt    : Nat
  /-- The cycle in which the present bus integration began. -/
  integAt : Nat
  deriving DecidableEq, Repr

/-- A valid Axle Link message that the safety controller has read and not carried out yet: its controller, its code and its bytes. -/
structure AlMsg where
  ctl  : Nat
  msg  : Nat
  data : List Byte
  deriving DecidableEq, Repr

/-- An entry of the Axle Link event queue (R711): its `SEQ`, its raise, and the µs from reset release of the raise. -/
structure AlEv where
  seq : Nat
  r   : Raise
  tus : Nat
  deriving DecidableEq, Repr

/-- What the Axle Link session holds besides its registers: the messages that wait, the last accepted `ALV` of CMD_TRAC and CMD_AUX
(R706), the `ALV` of the next STAT_TRAC, STAT_AUX and EVT, the last arrivals of CMD_TRAC and CMD_AUX on the primary and on the secondary
path (R718), the cycle of the entry into HOLD, the groups whose commits wait for an earlier one (R707), the `REJ` of the next
STAT_TRAC, the event queue with its next `SEQ`, the drops since the last EVT, the entries held by the EVT that is pending and the cycle of
the last EVT (R712), the token and the answer of the previous request (R714), and whether an invalid message has come in this
session (R697). -/
structure Al where
  inbox : List AlMsg
  alvT  : Option Nat
  alvA  : Option Nat
  alvOut : List Nat
  lastAt : List Nat
  holdAt : Nat
  deferred : List Nat
  rej   : Bool
  evq   : List AlEv
  evSeq : Nat
  evLost : Nat
  evOut : Nat
  evAt  : Option Nat
  tok   : Option Nat
  rsp   : List Byte
  fmtSeen : Bool
  /-- The negotiated version, 256 × major + minor (R702). -/
  ver   : Nat
  deriving DecidableEq, Repr

/-- A section of the image in force (R775, R780): its type, its instance and its bytes. -/
structure Sec where
  typ  : Nat
  inst : Nat
  data : List Byte
  deriving DecidableEq, Repr

/-- An image that has passed its checks (R774 to R777): the header fields that stay in use, its check word, and the sections that it
holds, in directory order. -/
structure Img where
  fmt    : Nat
  build  : Nat
  flsize : Nat
  icrc   : Nat
  secs   : List Sec
  deriving DecidableEq, Repr

/-- A queued fault-log record (R803, R805), `SEQ` and `BOOT` apart. -/
structure FlRec where
  tms   : Nat
  r     : Raise
  state : Nat
  sag   : Nat
  vars  : List Nat
  deriving DecidableEq, Repr

/-- A flash operation of the fault log that runs (R806): a record being programmed at a position, or an erase of a unit. -/
inductive FlOp where
  | program (pos : Nat) (rec : FlRec)
  | erase (unit : Nat)
  deriving DecidableEq, Repr

/-- What Lantern and the reset sequencer hold besides the registers. Reset: whether `RST_N` or the power-on monitor holds the device,
whether that hold is a power-on one, whether `TMODE` keeps the device in RESET (R843), and `FL_RST_N` (asserted is true). Flash: whether it
has been discovered, its density and its erase unit in bytes, and the records of the fault-log region by position, a position that is not
listed being erased (these stay across a reset). The image in force. The fault log: its queue, the write position, the next `SEQ`, the
failed records in a row, the operation that runs, and the erase unit that was erased last. The OTP: its key, `FRELDIS` and `FMT2DIS`
(these stay across a reset), and the program operation that runs. -/
structure Lt where
  held    : Bool
  por     : Bool
  factory : Bool
  flRst   : Bool
  /-- The cycle in which flash discovery began and what the flash answers, until discovery ends (R769). -/
  disc    : Option (Nat × Sfdp)
  found   : Bool
  dsize   : Nat
  es      : Nat
  region  : List (Nat × List Byte)
  img     : Option Img
  queue   : List FlRec
  wpos    : Nat
  seq     : Nat
  fails   : Nat
  op      : Option FlOp
  erased  : List Nat
  key     : Option (List Byte)
  frelDis : Bool
  fmt2Dis : Bool
  otpOp   : Option Nat
  deriving DecidableEq, Repr

/-- The inputs that pass a synchroniser and a filter. -/
inductive PinKind where
  /-- Off-confirm of a PG output: instance 2c for the high side, 2c + 1 for the low side (R323). -/
  | oc
  /-- `GL_n_ALERT_N`, 1 while asserted: instance n (R365). -/
  | alert
  /-- Gate monitor of an actuator output: instance 6n + 2k for the high side, 6n + 2k + 1 for the low side (R571). -/
  | gm
  /-- Bootstrap monitor of an actuator leg, 1 while it reads low: instance 3n + k (R576). -/
  | bs
  /-- State of a protection comparator: 0 inside, 1 outside-high, 2 outside-low (R596); 3 between the ranges of R601. -/
  | cmp
  /-- Inputs A, B and I of a quadrature decoder: instance 3q, 3q + 1 and 3q + 2 (R468). -/
  | qd
  /-- The inputs of a Hall triplet: instance 3h + i. -/
  | hall
  deriving DecidableEq, Repr

/-- A new level at an input that its filter has not recognised yet: it is recognised in cycle `due` if it holds until then (R323). -/
structure PinIn where
  kind  : PinKind
  inst  : Nat
  level : Nat
  due   : Nat
  deriving DecidableEq, Repr

/-- What the instant of a mark is the start of, or the instant of. -/
inductive MarkKind where
  /-- A measurement of a domain (R62, step 5). -/
  | measured
  /-- The entry of a domain into COAST (R62, step 7). -/
  | coast
  /-- A boundary of a domain, natural or forced (R69). -/
  | boundary
  /-- A boundary of a track, natural or forced (R77, R78). -/
  | track
  /-- The cycle in which a track became idle (R75). -/
  | idle
  /-- The entry into TEST (R125). -/
  | test
  /-- A comparator is connected to its input in TEST (R602). -/
  | connect
  /-- Step 4 of R767 starts (R370, R659). -/
  | step4
  /-- The traction chopper came on through its comparator, and was forced off (R614). -/
  | chopOn
  /-- The traction chopper was forced off (R614). -/
  | chopOff
  /-- `SUMP_ACT` was asserted (R588). -/
  | sumpOn
  /-- `SUMP_ACT` was forced off (R588). -/
  | sumpOff
  /-- The last conversion of `ACT_VM` (R587). -/
  | actVm
  /-- A Gate Link port has polled a driver (R364). -/
  | glPoll
  /-- A Gate Link port has tried to recover (R369). -/
  | glRecover
  /-- A rate change of a Gate Link port has failed (R357). -/
  | glFail
  /-- The later write of a sample of a resolver or sin/cos interface (R464). -/
  | rsSample
  /-- A count of a quadrature decoder (R473). -/
  | qdCount
  /-- A count or a hold delivery of a quadrature decoder (R474). -/
  | qdHold
  /-- The count of the last match of a quadrature decoder (R485). -/
  | qdMatch
  /-- A normal transition of a Hall triplet (R488). -/
  | hlEdge
  /-- A transition or a hold delivery of a Hall triplet (R490). -/
  | hlHold
  /-- A write of the selected observer's angle register (R436). -/
  | obsWrite
  /-- A step of a field controller (R420, R421). -/
  | tcStep
  /-- A DDOM boundary of the DC/DC block (R504). -/
  | dcStep
  /-- The start of the hold-off of shedding (R514). -/
  | dcHold
  /-- The start of the retry wait of the DC/DC converter (R520). -/
  | dcRetry
  /-- A step of the charger block (R528). -/
  | chStep
  /-- The last recognised edge of the control pilot, or the start of its measurement (R532). -/
  | pilot
  /-- The last evaluation of the pilot in DC (R532). -/
  | pilotDc
  /-- The last evaluation of the proximity input (R536). -/
  | prox
  /-- A change of a modulator's mode (R401, R402). -/
  | hand
  /-- The last pattern edge that a modulator has pushed (R389). -/
  | tmPush
  /-- A load point at a channel's load angle (R315). -/
  | pgLoad
  /-- An item of a channel's edge queue has fired (R310). -/
  | eqFire
  /-- A load point at an actuator channel's angle (R560). -/
  | acLoad
  /-- The last SLS check (R652). -/
  | slsCheck
  /-- The last periodic write of the torque limits (R650). -/
  | slim
  /-- The last start of an off-pulse of a safe output, or its energising (R656). -/
  | soTest
  /-- The last conversion of a temperature channel. -/
  | temp
  /-- The last conversion of `VSYS`. -/
  | vsys
  /-- The start of the sag ramp (R668). -/
  | sagRamp
  /-- The start of the last decision round (R623). -/
  | round
  /-- The last status frames (R710). -/
  | status
  /-- The last ANNOUNCE (R701, R722). -/
  | announce
  /-- The last step of the scrubber (R736). -/
  | scrub
  /-- The 20 ms wait for `CONV` has ended (R125). -/
  | convWait
  /-- The last trace record (R836). -/
  | trace
  deriving DecidableEq, Repr

/-- An instant that the BX960 times something from: what it is, of which instance, and its cycle. -/
structure Mark where
  kind : MarkKind
  inst : Nat
  cyc  : Nat
  deriving DecidableEq, Repr

/-- The state of the BX960. -/
structure State where
  /-- The number of the present cycle, counted from reset release (R102). -/
  now      : Nat
  /-- The model's own counter for fresh free values (no register of the manual). -/
  freeCtr  : Nat
  /-- Registers that differ from their reset word, by byte address, strictly rising. -/
  regs     : List (Nat × Word)
  /-- Shadow copies of commit-group words (R17), in the same form. -/
  shadow   : List (Nat × Word)
  /-- The PLL runs on the internal oscillator (R33). -/
  pllInt   : Bool
  /-- On-chip SRAM, by service-port byte address; an unlisted byte reads as 0. -/
  mem      : List Host.Cell
  /-- The addresses of the bytes whose parity bit is wrong (R725). -/
  parBad   : List Nat
  /-- Corrected bytes of table memory whose write-back waits (R727, R728). -/
  wbacks   : List Nat
  /-- For each of them, the cycle by which it is made. -/
  wbBy     : List (Nat × Nat)
  /-- The last write-back made in each bank (R731). -/
  lastWb   : List Nat
  /-- Captured commits that wait for their boundary (R39). -/
  commits  : List Commit
  /-- Raises of the present cycle that the matrix has not numbered yet (R829). -/
  raised   : List Raise
  /-- The FIFO of the event matrix (R830, R881). -/
  fifo     : List FifoEntry
  /-- The next entry that enters the log carries `LOSS` (R830). -/
  fifoLoss : Bool
  /-- The second half of the entry that moves into the log, with its source; and the first cycle of the next entry (R832). -/
  logHalf  : Option (List Byte × Nat)
  logNext  : Nat
  /-- Raises that no decision round has taken (R623). -/
  undecided : List Raise
  /-- What hardware has set in the present cycle, for the clearing accesses of the same cycle (R15, R16). -/
  hwSets   : List HwSet
  /-- The tracks that a jump of the present step makes re-seek (R77). -/
  reseeks  : List Nat
  /-- Domains that made a jump in the present step (R67), for the blocks that follow them. -/
  jumped   : List Nat
  /-- Domains whose direction changed in the present step (R68, R394). -/
  turned   : List Nat
  /-- The angle domains (R53). -/
  doms     : Vector Dom 16
  /-- The tracks of Dripline (R74). -/
  trks     : Vector Trk 32
  /-- The cycle in which an entry fired last, and the tracks of the entries that fired in it (R86). -/
  fireAt   : Nat
  fired    : List Nat
  /-- The latest instant of each kind and instance that the BX960 times something from (R62, R69, R77 and others). -/
  marks    : List Mark
  /-- The converters (R105). -/
  adcs     : Vector Adc 6
  /-- Consecutive mismatches of the converter pairs (R151). -/
  xcRun    : Vector Nat 3
  /-- The fitters (R160). -/
  fits     : Vector Fit 6
  /-- The lanes of the engines: engine n has lanes 2n and 2n + 1 (R205). -/
  lanes    : Vector Lane 8
  /-- Runs that are complete or under way, by context (R241). -/
  ctxRuns  : List CtxRun
  /-- The profile generators (R254). -/
  profs    : Vector Prof 16
  /-- The Galleries with their input buffers (R746). -/
  gqs      : Vector Gq 64
  /-- The protection comparators (R596). -/
  cmps     : Vector Cmp 48
  /-- The short report that each converter holds (R608). -/
  shorts   : Vector (Option ShortRep) 5
  /-- Over-voltage releases since reset (R612). -/
  ovRel    : Nat
  /-- The PG channels (R304). -/
  pgs      : Vector Pg 40
  /-- Registers written or transferred in the present cycle, with the word before (R315, R317). -/
  before   : List (Nat × Word)
  /-- Input levels that their filters have not recognised yet (R323). -/
  inputs   : List PinIn
  /-- The Gate Link ports and the drivers behind them (R343). -/
  gls      : Vector GlPort 4
  /-- The modulators (R377). -/
  tms      : Vector Tm 2
  /-- The field controllers (R421). -/
  tcs      : Vector Tc 2
  /-- The resolver channels (R457). -/
  rss      : Vector Rs 2
  /-- The quadrature decoders (R469). -/
  qds      : Vector Qd 8
  /-- The Hall inputs (R488). -/
  hls      : Vector Hl 4
  /-- The DC/DC block (R504). -/
  dc       : Dc
  /-- The charger block (R528). -/
  ch       : Ch
  /-- The actuator channels (R560). -/
  acs      : Vector Ac 4
  /-- `SUMP_ACT` is held off (R588). -/
  sumpActOff : Bool
  /-- The last cycle in which an over-voltage comparator was asserted (R612). -/
  ovSince  : Nat
  /-- The safety controller and its tables (R616). -/
  sc       : Sc
  /-- The safety functions, wires and safe outputs (R639). -/
  sf       : Sf
  /-- The monitored rails (R671). -/
  rails    : List Rail
  /-- The CAN controllers (R682). -/
  cans     : Vector Can 4
  /-- The Axle Link session (R700). -/
  al       : Al
  /-- Trace records written since the trigger (R837). -/
  trPost   : Nat
  /-- The cycle in which the unlock in force ends (R822). -/
  unlockEnd : Nat
  /-- Start-up, the image, the fault log and OTP (R764). -/
  lt       : Lt
  /-- The address of the next word that the scrubber reads (R736). -/
  scrubAt  : Nat
  /-- The next scrub finding enters `MP_LERR`: none has since `LATENT` or `MIRDIF` was last cleared. -/
  lerrOpen : Bool
  /-- What the service port sent in its last frame (R811 to R819): the status byte, and the bytes after the wait byte of a READ or after
  `DCRC` of a WRITE; the zeros between are left out. -/
  spOut    : List Byte
  /-- The words of a WRITE that are still to be written, one a cycle (R818). -/
  spQueue  : List (Nat × Word)
  /-- The commands that wait, first in, first out (the model's own queue). -/
  pending  : List Instr
  deriving DecidableEq, Repr

/-- DESIGN CHOICE, unsafe (log entry 6). -/
def Dom.reset : Dom := ⟨0, 0, 0, 0, 0, 0, 0, false, none, none, 0, 0, 0, 0, 0⟩
def Trk.reset : Trk := ⟨0, 0, 0, 0, 0, false, false, [], [], 0, 0⟩
def Adc.reset : Adc :=
  { run := none, queued := none, susp := none, dues := [], items := [], tqEnds := [], win := none, lastWin := none, winAt := none,
    failed := false, openCnt := [], hist := [], insts := 0, instAt := 0, updInst := 0, updAt := 0, idleAt := some 0, refAt := none,
    lastIn := none, ran4 := none, xc := [], xcDues := [], bank1 := [] }
def Fit.reset : Fit := ⟨[], none, none, [false, false, false, false], [(0, 0), (0, 0), (0, 0), (0, 0)]⟩
def Gq.reset : Gq := ⟨[], 0, 0, false, none, none⟩
def Cmp.reset : Cmp := ⟨false, 0, false, 0, 3, 0, 0, none⟩

def PgOut.reset : PgOut := ⟨0, none, 0, 0, 0, 0, false⟩
def Pg.reset : Pg := ⟨PgOut.reset, PgOut.reset, [], false, false, true, true, false⟩

def Drv.reset : Drv :=
  ⟨List.replicate 48 0#8, [], false, 0, 0, 0x10, 0, none, 0, List.replicate 48 0#8, 0, false, false, false, false⟩
def GlPort.reset : GlPort := ⟨none, none, [], [], 0, 0, 0, [], 0, false, false, Vector.replicate 8 Drv.reset⟩

def TmPh.reset : TmPh := ⟨0, false, 0, none, none, []⟩
def TmSet.reset : TmSet := ⟨false, false, [], [], [], none, [TmPh.reset, TmPh.reset, TmPh.reset], 0, 0, 0, false, false, false, []⟩
def Tm.reset : Tm := ⟨TmSet.reset, TmSet.reset, none, [], 0⟩

def TcData.reset : TcData := ⟨List.replicate 8 0, 0, 0, 0, 1, 2 ^ 24, 0, 0, 0, 0, 0, 0, 0, [0, 0, 0, 0], 0, 0, 0, 0, 0, 0, 0, false, false, false, false, false⟩
def Tc.reset : Tc := ⟨TcData.reset, none, none, 0⟩

def Rs.reset : Rs := ⟨none, none, none, 0, false, false, 0, 0, 0⟩
def Qd.reset : Qd := ⟨false, false, false, none, 0, false, false, 0, 0, false, none, none, false, none⟩
def Hl.reset : Hl := ⟨false, none, 0, none⟩

def DcCell.reset : DcCell := ⟨0, false, 0, 0, 0, 0, none, false, true, true, 0, 0, 0, 0, 0⟩
def Dc.reset : Dc := ⟨⟨List.replicate 6 DcCell.reset, 0, 5, 0, 0, 0, false, none, []⟩, none, none, none, none, none, none⟩

def Cp.reset : Cp := ⟨0, false, none, false, [(0, 0)], none, none⟩
def Ch.reset : Ch := ⟨⟨0, 0, 0, 0, 0, false, 0, 0, false, false, []⟩, none, none, none, none, (0, false), 0, 0, 0, [], Cp.reset, false, none⟩

def AcOut.reset : AcOut := ⟨0, none, 0, 0, 0, 0, none⟩
def AcLeg.reset : AcLeg := ⟨0, false, false, none, AcOut.reset, AcOut.reset⟩
def Ac.reset : Ac := ⟨[AcLeg.reset, AcLeg.reset, AcLeg.reset], [], 0, 0, false, false, none⟩

def ScConv.reset : ScConv := ⟨0, [], none, none, 0, 0, [], []⟩
def Sc.reset : Sc := ⟨[], [], [], [], Vector.replicate 5 ScConv.reset, [], false, false, false, [false, false], false, false, none⟩

def Sf.reset : Sf :=
  { disc := List.replicate 8 none, ss1At := none, ss1S0 := [0, 0], ss1Rel := false, ss1Axle := false, slsFail := [none, none],
    slsDone := [false, false], sin := List.replicate 16 ⟨2, 0, 2, 0⟩, srb := List.replicate 8 ⟨0, 0, 0, 0⟩, ioBad := 0, ioDone := false,
    stoAt := 0, wireAt := 0, wireBad := false, outs := List.replicate 8 ⟨0, false, false⟩, soStuck := false, tPrev := List.replicate 24 none,
    sagBelow := [0, 0, 0, 0, 0], sagOkN := 0, sagOkAt := 0, sagZero := false, sagS0 := [0, 0], sagMs := 0 }

def Can.reset : Can := ⟨none, List.replicate 8 0, [], 0, 0⟩
def Al.reset : Al :=
  { inbox := [], alvT := none, alvA := none, alvOut := [0, 0, 0], lastAt := [0, 0, 0, 0], holdAt := 0, deferred := [], rej := false,
    evq := [], evSeq := 0, evLost := 0, evOut := 0, evAt := none, tok := none, rsp := [], fmtSeen := false, ver := 0 }

def Lt.reset : Lt :=
  { held := false, por := false, factory := false, flRst := true, disc := none, found := false, dsize := 0, es := 0, region := [], img := none, queue := [],
    wpos := 0, seq := 0, fails := 0, op := none, erased := [], key := none, frelDis := false, fmt2Dis := false, otpOp := none }

/-- The BX960 when reset is released. DESIGN CHOICE, unsafe (log entry 6). -/
def State.reset : State where
  now := 0
  freeCtr := 0
  regs := []
  shadow := []
  pllInt := false
  mem := []
  parBad := []
  wbacks := []
  wbBy := []
  lastWb := []
  commits := []
  raised := []
  fifo := []
  fifoLoss := false
  logHalf := none
  logNext := 0
  undecided := []
  hwSets := []
  reseeks := []
  jumped := []
  turned := []
  doms := Vector.replicate 16 Dom.reset
  trks := Vector.replicate 32 Trk.reset
  fireAt := 0
  fired := []
  marks := []
  adcs := Vector.replicate 6 Adc.reset
  xcRun := Vector.replicate 3 0
  fits := Vector.replicate 6 Fit.reset
  lanes := Vector.replicate 8 ⟨[], none, none⟩
  ctxRuns := []
  profs := Vector.replicate 16 ⟨0, 0, 0⟩
  gqs := Vector.replicate 64 Gq.reset
  cmps := Vector.replicate 48 Cmp.reset
  shorts := Vector.replicate 5 none
  ovRel := 0
  pgs := Vector.replicate 40 Pg.reset
  before := []
  inputs := []
  gls := Vector.replicate 4 GlPort.reset
  tms := Vector.replicate 2 Tm.reset
  tcs := Vector.replicate 2 Tc.reset
  rss := Vector.replicate 2 Rs.reset
  qds := Vector.replicate 8 Qd.reset
  hls := Vector.replicate 4 Hl.reset
  dc := Dc.reset
  ch := Ch.reset
  acs := Vector.replicate 4 Ac.reset
  sumpActOff := false
  ovSince := 0
  sc := Sc.reset
  sf := Sf.reset
  rails := Rail.nominal
  cans := Vector.replicate 4 Can.reset
  al := Al.reset
  trPost := 0
  unlockEnd := 0
  lt := Lt.reset
  scrubAt := 0x100000
  lerrOpen := true
  spOut := []
  spQueue := []
  pending := []

end Sys2Proof.Machine
end

