-- ==== Sys2Proof/Machine/Ops.lean ====
section
/-! DEFINITION. The named operations over registers, memory and the event matrix that every command is written with. -/

namespace Sys2Proof.Machine

abbrev Result := Host.Outcome State Fault Refusal

/-- Element `i` of an instance array. -/
def vget {α : Type} {n : Nat} (v : Vector α n) (i : Nat) (d : α) : α := v[i]?.getD d

/-- The instance array with element `i` changed. -/
def vmod {α : Type} {n : Nat} (v : Vector α n) (i : Nat) (f : α → α) : Vector α n :=
  match v[i]? with
  | some x => v.setIfInBounds i (f x)
  | none => v

/-! ### Canonical sparse maps -/

/-- The entry of address `a`, if the map lists it. -/
def mapGet {α : Type} : List (Nat × α) → Nat → Option α
  | [], _ => none
  | (k, v) :: m, a => if k = a then some v else mapGet m a

/-- The map with the entry of address `a` set, or removed for `none`: the entries below it, its own, and those above it. -/
def mapSet {α : Type} (m : List (Nat × α)) (a : Nat) (v : Option α) : List (Nat × α) :=
  (m.filter fun p => p.1 < a) ++ (v.map fun x => (a, x)).toList ++ m.filter fun p => a < p.1

/-- Whether the addresses of a map rise strictly. -/
def rising {α : Type} : List (Nat × α) → Bool
  | [] => true
  | [_] => true
  | (k, _) :: (k', w) :: m => k < k' && rising ((k', w) :: m)

/-- The register map holds `a` as `w`; the reset word is not listed. -/
def regSet (m : List (Nat × Word)) (a : Nat) (w : Word) : List (Nat × Word) :=
  mapSet m a (if w = resetWord a then none else some w)

/-- The word of register `a` in a register map. -/
def regGet (m : List (Nat × Word)) (a : Nat) : Word := (mapGet m a).getD (resetWord a)

/-- The canonical form of a register map: rising addresses, and no entry that equals its reset word. -/
def regWf (m : List (Nat × Word)) : Bool := rising m && m.all fun p => p.2 != resetWord p.1

/-- What an unlisted byte of SRAM reads as: the memory self-test leaves every word 0 (R740, step 4). DESIGN CHOICE, unsafe (log entry 8). -/
def unlistedByte : Byte := 0

/-- The canonical form of memory. -/
def Memory.wf (m : List Host.Cell) : Bool := rising m && m.all fun p => p.2 != unlistedByte

def cellGet (m : List Host.Cell) (a : Nat) : Byte := (mapGet m a).getD unlistedByte
def cellSet (m : List Host.Cell) (a : Nat) (b : Byte) : List Host.Cell :=
  mapSet m a (if b = unlistedByte then none else some b)

/-! ### Registers -/

/-- The stored word of a register. -/
def State.reg (s : State) (a : Nat) : Word := regGet s.regs a
def State.setReg (s : State) (a : Nat) (w : Word) : State := { s with regs := regSet s.regs a w }
/-- The shadow copy of a commit-group word (R17). -/
def State.shad (s : State) (a : Nat) : Word := regGet s.shadow a
def State.setShad (s : State) (a : Nat) (w : Word) : State := { s with shadow := regSet s.shadow a w }

def State.fld (s : State) (f : Fld) : Nat := Word.get (s.reg f.addr) f.lsb f.width
def State.flag (s : State) (f : Fld) : Bool := s.fld f != 0
def State.sfld (s : State) (f : Fld) : Int := signed f.width (s.fld f)
/-- The register as a signed 32-bit number. -/
def State.sreg (s : State) (a : Nat) : Int := (s.reg a).toInt
def State.setFld (s : State) (f : Fld) (v : Nat) : State :=
  s.setReg f.addr (Word.put (s.reg f.addr) f.lsb f.width v)
/-- Hardware sets a field in this cycle: `upd` gives what the field would hold had it been cleared (R15, R16). -/
def State.noteHw (s : State) (f : Fld) (upd : Nat → Nat) : State :=
  { s with hwSets := if s.hwSets.any (·.fld == f) then s.hwSets.map fun h => if h.fld == f then { h with val := upd h.val } else h
    else ⟨f, s.fld f, upd 0⟩ :: s.hwSets }
/-- Sets a flag, noting it for the clearing accesses of the same cycle (R15), or clears it. -/
def State.setFlag (s : State) (f : Fld) (b : Bool) : State := if b then (s.noteHw f fun _ => 1).setFld f 1 else s.setFld f 0
/-- Sets or clears bit `i` of a field; a bit that is set is noted (R15). -/
def State.setBit (s : State) (f : Fld) (i : Nat) (b : Bool) : State :=
  (if b then s.noteHw ⟨f.addr, f.lsb + i, 1⟩ fun _ => 1 else s).setFld f (putBits (s.fld f) i 1 (b2n b))
/-- Adds `n` to a counter that stops at its largest value; the increments are noted (R16). -/
def State.addSat (s : State) (f : Fld) (n : Nat) : State :=
  (s.noteHw f fun v => min (v + n) (2 ^ f.width - 1)).setFld f (min (s.fld f + n) (2 ^ f.width - 1))
/-- Raises a field that holds the largest value since it was last read; the value is noted (R16). -/
def State.setMax (s : State) (f : Fld) (v : Nat) : State := (s.noteHw f fun x => max x v).setFld f (max (s.fld f) v)
def State.incSat (s : State) (f : Fld) : State := s.addSat f 1
/-- Increments a counter modulo its width; the increments are noted (R16). -/
def State.incMod (s : State) (f : Fld) : State := (s.noteHw f (· + 1)).setFld f (s.fld f + 1)

/-- The fields of a register that hardware has set in this cycle, each with what `g` takes of its note. -/
def State.hwWord (s : State) (a : Nat) (g : HwSet → Nat) : Word :=
  (s.hwSets.filter (·.fld.addr == a)).foldl (fun w h => w ||| Word.put 0 h.fld.lsb h.fld.width (g h)) 0
/-- The bits that a write which clears W1C bits leaves set, because hardware has set them in this cycle (R15). -/
def State.hwBits (s : State) (a : Nat) : Word := s.hwWord a HwSet.val
/-- The bits of a register whose fields hardware has set in this cycle. -/
def State.hwMask (s : State) (a : Nat) : Word := s.hwWord a fun _ => 2 ^ 32 - 1
/-- A word of a register as a clearing read of this cycle returns it: the fields of `rc` that hardware has set hold what they held before
the cycle (R16). -/
def State.beforeWord (s : State) (a rc : Nat) (w : Word) : Word :=
  let m := s.hwMask a &&& BitVec.ofNat 32 rc
  (w &&& ~~~ m) ||| (s.hwWord a HwSet.before &&& m)
/-- A read clears the fields `rc` of a register: each keeps only what hardware has set in this cycle, and a second read of the cycle returns
nothing again (R16). -/
def State.clearRead (s : State) (a rc : Nat) : State :=
  let m := BitVec.ofNat 32 rc
  let s' := s.setReg a ((s.reg a &&& ~~~ m) ||| (s.hwBits a &&& m))
  { s' with hwSets := s'.hwSets.map fun h => if h.fld.addr == a then { h with before := 0 } else h }

/-- The operating state of the BX960 (`SYS_STATE`). -/
def State.sys (s : State) : Nat := s.fld F.SYS_STAT_SYS_STATE
def sysReset : Nat := 0
def sysLoad : Nat := 1
def sysTest : Nat := 2
def sysReady : Nat := 3
def sysDefaults : Nat := 4
def sysAxleSafe : Nat := 5
/-- READY or AXLE_SAFE, the states in which an image runs. -/
def State.inForce (s : State) : Bool := s.sys == sysReady || s.sys == sysAxleSafe
/-- TEST, READY or AXLE_SAFE: the image is loaded. -/
def State.loaded (s : State) : Bool := s.sys == sysTest || s.inForce

/-- Applies an operation for each element of a list, in order. -/
def State.each {α : Type} (s : State) (l : List α) (f : State → α → State) : State := l.foldl f s
/-- Applies an operation when a condition holds. -/
def State.when (s : State) (c : Bool) (f : State → State) : State := if c then f s else s

/-! ### Times -/

/-- Cycle `c` becomes the instant of a kind and instance. -/
def State.markAt (s : State) (k : MarkKind) (i c : Nat) : State :=
  { s with marks := ⟨k, i, c⟩ :: s.marks.filter fun m => !(m.kind == k && m.inst == i) }
/-- The present cycle becomes the instant of a kind and instance. -/
def State.mark (s : State) (k : MarkKind) (i : Nat) : State := s.markAt k i s.now

/-- A kind and instance has no instant any more. -/
def State.unmark (s : State) (k : MarkKind) (i : Nat) : State :=
  { s with marks := s.marks.filter fun m => !(m.kind == k && m.inst == i) }

/-- The latest instant of a kind and instance. -/
def State.marked (s : State) (k : MarkKind) (i : Nat) : Option Nat :=
  (s.marks.find? fun m => m.kind == k && m.inst == i).map Mark.cyc

/-- At least `n` cycles have passed since an instant; where there was none, nothing holds the time back.
DESIGN CHOICE, unsafe (log entry 3). -/
def State.past (s : State) (k : MarkKind) (i n : Nat) : Bool :=
  match s.marked k i with
  | some c => decide (c + n ≤ s.now)
  | none => true

/-- The instant is the present cycle. -/
def State.justNow (s : State) (k : MarkKind) (i : Nat) : Bool := s.marked k i == some s.now

/-! ### Input pins -/

/-- The level at an input pin becomes `l`, with `r` the recognised one: after the 2-cycle synchroniser, it is recognised when it has held for the
`f` cycles of the filter. A level that returns before then is not recognised (R323, R853). -/
def State.pinFeed (s : State) (k : PinKind) (i r f l : Nat) : State :=
  let rest := s.inputs.filter fun x => !(x.kind == k && x.inst == i)
  if s.inputs.any fun x => x.kind == k && x.inst == i && x.level == l then s
  else if l = r then { s with inputs := rest }
  else { s with inputs := rest ++ [⟨k, i, l, s.now + 1 + f⟩] }

/-! ### Rails -/

/-- The voltage of a monitored rail, in 10 mV. -/
def State.railV (s : State) (i : Nat) : Nat := ((s.rails[i]?).map Rail.v).getD 0

/-- `VDRV` among the rails, and its under limit (R671). -/
def railVdrv : Nat := 5
def vdrvUnder : Nat := 950

/-! ### Events -/

/-- The code of the axle as a converter (R618). -/
def axle : Nat := 7

/-- Raises an event with a given level; the matrix numbers it when the cycle ends (R829). -/
def State.raiseL (s : State) (e : Ev.Src) (sev lvl conv inst : Nat) : State :=
  { s with raised := s.raised ++ [⟨e.num, sev, lvl, conv, inst⟩] }

/-- Raises an event at the severity and level of its table. -/
def State.raise (s : State) (e : Ev.Src) (conv inst : Nat) : State := s.raiseL e e.sev e.lvl conv inst

/-- Raises an event against each converter of a list. -/
def State.raiseAll (s : State) (e : Ev.Src) (convs : List Nat) (inst : Nat) : State :=
  s.each convs fun s c => s.raise e c inst

/-- Sets a flag, and raises its event when the flag changes from 0 to 1. -/
def State.flagRaise (s : State) (f : Fld) (e : Ev.Src) (conv inst : Nat) : State :=
  (s.when (!s.flag f) (·.raise e conv inst)).setFlag f true

/-- The order of R829: ascending source, then converter, then instance. -/
def Raise.le (a b : Raise) : Bool :=
  a.src < b.src || (a.src == b.src && (a.conv < b.conv || (a.conv == b.conv && a.inst ≤ b.inst)))

def insertRaise (r : Raise) : List Raise → List Raise
  | [] => [r]
  | x :: xs => if r.le x && !(x.le r) then r :: x :: xs else x :: insertRaise r xs

def sortRaises : List Raise → List Raise → List Raise
  | [], acc => acc
  | r :: rs, acc => sortRaises rs (insertRaise r acc)

/-- The capacity of the FIFO of the matrix (R830). -/
def fifoSize : Nat := 64

/-- The trace recorder triggers (R837). DEDUCED, unsafe (log entry 40). -/
def State.trTrigger (s : State) : State :=
  let s := (s.setFld F.TR_STAT_TSTATE 2).setFld F.TR_STAT_TIDX (s.fld F.TR_STAT_WIDX)
  s.when (s.fld F.TR_CNT_POST == 0) fun s => (s.setFld F.TR_STAT_TSTATE 3).raise Ev.TR_DONE axle 0

/-- A trace recorder that waits for a source triggers at its first raise (R837). -/
def State.trWatch (s : State) : State :=
  let hit := s.fld F.TR_STAT_TSTATE == 1 && s.raised.any fun r =>
    r.src == s.fld F.TR_TRIG_TSRC && (s.fld F.TR_TRIG_TCONV == 7 || s.fld F.TR_TRIG_TCONV == r.conv)
  s.when hit State.trTrigger

/-- The matrix takes one raise: it numbers it, sets the pending bits, hands it to the safety controller and to the FIFO (R829, R830). -/
def State.takeRaise (s : State) (r : Raise) : State :=
  let g := r.src / 16 % 32
  let p := r.src % 16
  let seq := s.fld F.EV_SEQ_SEQV
  let s := s.setFld F.EV_SEQ_SEQV (seq + 1)
  let s := s.setBit (F.EV_PEND_PEND g) p true
  let s := s.when (r.sev == 3 && bitOf (s.fld (F.EV_EN_FLTEN g)) p) (·.setBit (F.EV_PEND_FPEND g) p true)
  let s := { s with undecided := s.undecided ++ [r] }
  let e : FifoEntry := ⟨s.now / cyclesPerUs, seq, r, s.sys, s.fld F.SUP_STAT_SAGLVL, false, false⟩
  if s.fifo.length < fifoSize then { s with fifo := s.fifo ++ [e] }
    else { (s.incSat F.EV_CNT_LOST_CNT) with fifoLoss := true }

/-- The matrix takes the raises that wait, in the order of R829. -/
def State.takeRaises (s : State) : State :=
  ({ s with raised := [] } : State).each (sortRaises s.raised []) State.takeRaise

/-- At the end of a cycle the matrix takes the raises of the cycle, with the `TR_DONE` that a trigger among them makes (R829).
DEDUCED, unsafe (log entry 40). -/
def State.flush (s : State) : State := s.trWatch.takeRaises

/-- `IRQ_N` is asserted (R831). -/
def State.irqAsserted (s : State) : Bool :=
  (List.range 32).any fun g => Nat.land (s.fld (F.EV_PEND_PEND g)) (s.fld (F.EV_EN_IRQEN g)) != 0

/-- `FLT_N` is asserted (R831). -/
def State.fltAsserted (s : State) : Bool :=
  s.sys != sysReady || (List.range 32).any fun g => s.fld (F.EV_PEND_FPEND g) != 0

/-! ### On-chip SRAM -/

/-- The windows of the five regions (the memory table of "One Package, One Axle"). -/
def tabA : Nat := 0x100000
def tabB : Nat := 0x300000
def tabEnd : Nat := 0x500000
def workBase : Nat := 0x500000
def queueBase : Nat := 0x800000
def ctxBase : Nat := 0x880000
def evBase : Nat := 0x8E0000
def memEnd : Nat := 0x900000
def bankSize : Nat := 0x200000
def isMem (a : Nat) : Bool := tabA ≤ a && a < memEnd
def isTable (a : Nat) : Bool := tabA ≤ a && a < tabEnd
/-- The same offset in the other bank of table memory (R34). -/
def otherBank (a : Nat) : Nat := if a < tabB then a + bankSize else a - bankSize
/-- The bank code of a table address: 1 A, 2 B. -/
def bankOf (a : Nat) : Nat := if a < tabB then 1 else 2

/-- The stored byte at an address, parity apart. DESIGN CHOICE, unsafe (log entry 8). -/
def State.byte (s : State) (a : Nat) : Byte := cellGet s.mem a
/-- The parity of the byte at an address holds (R725). -/
def State.parOk (s : State) (a : Nat) : Bool := !s.parBad.contains a

def insertNat (a : Nat) : List Nat → List Nat
  | [] => [a]
  | x :: xs => if a < x then a :: x :: xs else if a = x then x :: xs else x :: insertNat a xs

/-- Writes one byte of one bank or region, with good or inverted parity; a write-back that waits for the byte is cancelled (R728). -/
def State.putByte (s : State) (a : Nat) (b : Byte) (bad : Bool) : State :=
  { s with
    mem := cellSet s.mem a b
    parBad := if bad then insertNat a s.parBad else s.parBad.filter (· != a)
    wbacks := s.wbacks.filter (· != a)
    wbBy := s.wbBy.filter (·.1 != a) }

/-- Writes one byte of the SRAM from any source: both banks of table memory (R35), with the flip mask of R738 for the byte lane. -/
def State.writeByte (s : State) (a : Nat) (b : Byte) : State :=
  let hit := s.flag F.MP_FLIP_ARM && a / 4 == s.fld F.MP_FLIPA_FADDR && bitOf (s.fld F.MP_FLIP_MASK) (a % 4)
  if isTable a then
    let o := otherBank a
    let hit := s.flag F.MP_FLIP_ARM && (a / 4 == s.fld F.MP_FLIPA_FADDR || o / 4 == s.fld F.MP_FLIPA_FADDR)
      && bitOf (s.fld F.MP_FLIP_MASK) (a % 4)
    let bank := s.fld F.MP_FLIP_BANK
    (s.putByte a b (hit && bitOf bank (bankOf a - 1))).putByte o b (hit && bitOf bank (bankOf o - 1))
  else s.putByte a b hit

/-- After a write to the word at `a`, an armed flip that names the word has been spent (R738). -/
def State.spendFlip (s : State) (a : Nat) : State :=
  s.when (s.flag F.MP_FLIP_ARM
      && (a / 4 == s.fld F.MP_FLIPA_FADDR || (isTable a && otherBank a / 4 == s.fld F.MP_FLIPA_FADDR)))
    fun s => (s.setFlag F.MP_FLIP_ARM false).setFlag F.MP_FLIP_DONE true

/-- Writes a word of the SRAM, little-endian (R3). -/
def State.write32 (s : State) (a : Nat) (w : Word) : State :=
  (s.each [0, 1, 2, 3] fun s k => s.writeByte (a + k) (byteOf w k)).spendFlip a

/-- Writes the bytes of a run. -/
def State.putBytes (s : State) (a : Nat) : List Byte → State
  | [] => s
  | b :: bs => State.putBytes (s.writeByte a b) (a + 1) bs

/-- Writes a run of bytes of the SRAM as one write. -/
def State.writeBytes (s : State) (a : Nat) (bs : List Byte) : State :=
  (s.putBytes a bs).each (List.range bs.length) fun s k => s.spendFlip (a + k)

/-- The byte that a read of an address returns, without its effects: in table memory the other bank stands in for a byte that fails
parity (R727). -/
def State.goodByte (s : State) (a : Nat) : Byte :=
  if isTable a && !s.parOk a then s.byte (otherBank a) else s.byte a

/-- The word that a read of an address returns, without its effects. -/
def State.peek32 (s : State) (a : Nat) : Word :=
  le32 (s.goodByte a) (s.goodByte (a + 1)) (s.goodByte (a + 2)) (s.goodByte (a + 3))

/-- A byte of table memory fails where the last write-back of its bank was made (R731). -/
def State.hardFault (s : State) (a : Nat) : State :=
  s.when (isTable a && s.lastWb.contains a) fun s =>
    ((s.setFld F.MP_HERR_BANK (bankOf a)).setFld F.MP_HERR_ADDR a).flagRaise F.MP_STAT_HARD Ev.MP_HARD axle 0

/-- The cycles within which a corrected byte is written back (R728). -/
def wbCycles : Nat := 4

/-- A corrected byte waits for its write-back: one, whatever reads correct it (R727, R728). -/
def State.askWriteBack (s : State) (a : Nat) : State :=
  if s.wbacks.contains a then s else { s with wbacks := insertNat a s.wbacks, wbBy := (a, s.now + wbCycles) :: s.wbBy }

/-- A byte read of the SRAM by a requester (R726 to R731): the byte, or `none` for a bus error. -/
def State.readByte (s : State) (req a : Nat) : Option Byte × State :=
  if s.parOk a then (some (s.byte a), s)
  else if isTable a && s.parOk (otherBank a) then
    let s := s.hardFault a
    let s := s.when (!s.flag F.MP_STAT_CORR) fun s =>
      (s.setFld F.MP_CERR_BANK (bankOf a)).setFld F.MP_CERR_ADDR a
    let s := (s.incSat F.MP_CNT_CORR_CNT).flagRaise F.MP_STAT_CORR Ev.MP_CORR axle 0
    (some (s.byte (otherBank a)), s.askWriteBack a)
  else
    let s := s.hardFault a
    let s := s.when (!s.flag F.MP_STAT_UNCORR) fun s => (s.setFld F.MP_UERR_REQ req).setFld F.MP_UERR_ADDR a
    (none, (s.incSat F.MP_CNT_UNCORR_CNT).flagRaise F.MP_STAT_UNCORR Ev.MP_UNCORR axle 0)

/-- A word read of the SRAM by a requester: every byte is checked, and one uncorrectable byte makes a bus error (R726, R730). The first
uncorrectable byte is the one that is recorded. -/
def State.read32 (s : State) (req a : Nat) : Option Word × State :=
  match s.readByte req a with
  | (none, s) => (none, s)
  | (some b0, s) =>
    match s.readByte req (a + 1) with
    | (none, s) => (none, s)
    | (some b1, s) =>
      match s.readByte req (a + 2) with
      | (none, s) => (none, s)
      | (some b2, s) =>
        match s.readByte req (a + 3) with
        | (none, s) => (none, s)
        | (some b3, s) => (some (le32 b0 b1 b2 b3), s)

/-- The requester codes of R732. -/
def reqDripline : Nat := 4
def reqTc : Nat := 5
def reqSafety : Nat := 6
def reqPort : Nat := 7
def reqGallery : Nat := 8
def reqCan : Nat := 9
def reqScrub : Nat := 10
def reqLantern : Nat := 11
def reqTemp : Nat := 12

/-- Reads `n` words of the SRAM from `a`; `none` after a bus error. -/
def State.readWords (s : State) (req a : Nat) : Nat → Option (List Word) × State
  | 0 => (some [], s)
  | n + 1 =>
    match s.read32 req a with
    | (none, s) => (none, s)
    | (some w, s) =>
      match s.readWords req (a + 4) n with
      | (none, s) => (none, s)
      | (some ws, s) => (some (w :: ws), s)

/-- A fresh free value: a result that the manual leaves open. DESIGN CHOICE, safe (log entry 9). -/
def State.free (s : State) : Word × State := (Config.freeWord s.freeCtr, { s with freeCtr := s.freeCtr + 1 })

end Sys2Proof.Machine
end

