-- ==== Sys2Proof/Machine/Domain.lean ====
section
/-! DEFINITION. Angle domains (R51 to R73, R877, R878) and the part of a Dripline track that follows its domain (R74 to R78). -/

namespace Sys2Proof.Machine

/-! ### Domains -/

def State.dom (s : State) (d : Nat) : Dom := vget s.doms d Dom.reset
def State.modDom (s : State) (d : Nat) (f : Dom → Dom) : State := { s with doms := vmod s.doms d f }
def State.trk (s : State) (t : Nat) : Trk := vget s.trks t Trk.reset
def State.modTrk (s : State) (t : Nat) (f : Trk → Trk) : State := { s with trks := vmod s.trks t f }

/-- The codes of `AD_STAT.STATE`. -/
def dsOff : Nat := 0
def dsFree : Nat := 1
def dsAcquire : Nat := 2
def dsLocked : Nat := 3
def dsCoast : Nat := 4
def dsLost : Nat := 5
def dsSlave : Nat := 6

def State.domState (s : State) (d : Nat) : Nat := s.fld (F.AD_STAT_STATE d)
def State.setDomState (s : State) (d st : Nat) : State := s.setFld (F.AD_STAT_STATE d) st

/-- The angle word and the rate of a domain. -/
def State.angle (s : State) (d : Nat) : Word := angleOf (s.dom d).acc
def State.rate (s : State) (d : Nat) : Int := (s.dom d).rate.toInt

/-- The set-point rate `AD_RSET` of the active copy, as a 48-bit number (R52). -/
def State.rset (s : State) (d : Nat) : W48 :=
  BitVec.ofNat 48 (s.fld (F.AD_RSET_HI_RSET_INT d) * 65536 + s.fld (F.AD_RSET_LO_RSET_FRAC d))

/-- The domains that are slaves of `d` (R73). -/
def State.slaves (s : State) (d : Nat) : List Nat :=
  (List.range 16).filter fun n => s.domState n == dsSlave && s.fld (F.AD_CFG_MASTER n) == d

/-- The list without repeats, in ascending order. -/
def sortNat (l : List Nat) : List Nat := l.foldl (fun acc n => insertNat n acc) []

/-- Whether loop context `c` reads domain `d` through an input of `TYPE` 0x3 or 0x4 (R99). -/
def State.ctxReads (s : State) (c d : Nat) : Bool :=
  bitOf (s.peek32 (Reg.CX_CFG c)).toNat 31 && (List.range 32).any fun i =>
    let w := (s.peek32 (ctxBase + c * 0x400 + 0x10 + 4 * i)).toNat
    (bitsOf w 28 4 == 3 || bitsOf w 28 4 == 4) && bitsOf w 24 4 == d

/-- The converters against which an event of domain `d` is raised (R99). `EDOM` of a channel counts whether or not the channel is in
edge-queue mode, and `PDOM` of a modulator whatever its `PDEN`: R99 names the fields alone.
DESIGN CHOICE, unsafe (log entry 62). -/
def State.domConvs (s : State) (d : Nat) : List Nat :=
  let ds := d :: s.slaves d
  let trks := (List.range 32).filter fun t =>
    s.flag (F.DL_TRK_CFG_EN t) && ds.contains (s.fld (F.DL_TRK_CFG_DOMAIN t))
  if trks != [] then sortNat (trks.map fun t => s.fld (F.DL_TRK_CFG_CONV t))
  else
    let on (c : Bool) (k : Nat) : List Nat := if c then [k] else []
    let pgs := (List.range 40).filter fun c => s.flag (F.PG_CFG_EN c)
      && (ds.contains (s.fld (F.PG_CFG_CDOM c)) || ds.contains (s.fld (F.PG_CFG_EDOM c)))
    let tms := (List.range 2).filter fun m => (s.flag (F.TM_CFG_EN m)
        && (ds.contains (s.fld (F.TM_CFG_CDOM m)) || ds.contains (s.fld (F.TM_CFG_RDOM m)) || ds.contains (s.fld (F.TM_CFG_PDOM m))))
      || (s.flag (F.TC_CFG_EN m) && (ds.contains (s.fld (F.TC_CFG_CDOM m)) || ds.contains (s.fld (F.TC_CFG_RDOM m))))
    let acs := (List.range 4).any fun n => s.flag (F.AC_CFG_EN n)
      && (ds.contains (s.fld (F.AC_CFG_ADOM n)) || ds.contains (s.fld (F.AC_CFG_RDOM n)))
    let ctxs := (List.range 384).filter fun c => ds.any (s.ctxReads c)
    let all := (pgs.map fun c => s.fld (F.PG_CFG_CONV c)) ++ tms
      ++ on (s.flag F.DC_CFG_EN && ds.contains (s.fld F.DC_CFG_DDOM)) 2
      ++ on (s.flag F.CH_CFG_EN && (ds.contains (s.fld F.CH_CFG_MDOM) || ds.contains (s.fld F.CH_CFG_SDOM))) 3
      ++ on acs 4 ++ ctxs.map fun c => (s.peek32 (Reg.CX_CFG c)).toNat / 2 ^ 24 % 8
    if all == [] then [axle] else sortNat all

def State.raiseDom (s : State) (e : Ev.Src) (d : Nat) : State := s.raiseAll e (s.domConvs d) d

/-- `AD_STAT.DIR` and `STILL` after a change of the rate (R68). -/
def State.updateDir (s : State) (d : Nat) : State :=
  let r := s.rate d
  let th : Int := s.fld (F.AD_THR_RATE_STILL d) * 65536
  let old := s.flag (F.AD_STAT_DIR d)
  let dir := if r > th then false else if r < -th then true else old
  let s := (s.setFlag (F.AD_STAT_DIR d) dir).setFlag (F.AD_STAT_STILL d) (decide (-th ≤ r ∧ r ≤ th))
  s.when (dir != old) fun s => ({ s with turned := s.turned ++ [d] } : State).raiseDom Ev.AD_DIR d

/-- The values of a slave domain, from its master's values of the same cycle (R73). -/
def State.slaveUpdate (s : State) (d : Nat) : State :=
  let m := s.dom (s.fld (F.AD_CFG_MASTER d))
  let k := BitVec.ofNat 48 (s.fld (F.AD_GAIN_RATIO d))
  let o : W48 := (s.reg (Reg.AD_OFS d)).setWidth 48 <<< 16
  s.modDom d fun x => { x with acc := k * m.acc + o, rate := k * m.rate, prev := k * m.prev + o }

def State.slavesUpdate (s : State) (d : Nat) : State :=
  s.each (s.slaves d) fun s n => (s.slaveUpdate n).updateDir n

/-- The step from angle `a0` to `a1` reaches angle `b` in the direction of travel `rev`, in the sense of R69. -/
def reaches (rev : Bool) (a0 a1 b : Word) : Bool :=
  let step := angDiff a1 a0
  if rev then decide (step < 0) && decide ((a0 - b).toNat < step.natAbs)
  else decide (0 < step) && decide (0 < (b - a0).toNat) && decide (((b - a0).toNat : Int) ≤ step)

/-! ### The phase of a track -/

/-- P of a track (R74). -/
def State.trkP (s : State) (t : Nat) : Nat := 2 ^ (32 - s.fld (F.DL_TRK_CFG_PLOG t))
def State.trkDom (s : State) (t : Nat) : Nat := s.fld (F.DL_TRK_CFG_DOMAIN t)
def State.trkConv (s : State) (t : Nat) : Nat := s.fld (F.DL_TRK_CFG_CONV t)
def State.trkIdle (s : State) (t : Nat) : Bool := s.flag (F.DL_TRK_FLAG_IDLE t)
/-- The track runs and is not idle. -/
def State.trkLive (s : State) (t : Nat) : Bool := (s.trk t).running && !s.trkIdle t

/-- R74 for an angle change of `d` LSB: φ and L. -/
def trackStep (dirMode : Bool) (d : Int) (phi l : Nat) : Nat × Nat :=
  if dirMode then (phi + d.natAbs, l)
  else if d < 0 then (phi, l + d.natAbs)
  else
    let u := min d.natAbs l
    (phi + (d.natAbs - u), l - u)

/-- A track follows an angle change of `d` LSB since its base; when L reaches P the track becomes IDLE (R74, R75).
DEDUCED, unsafe (log entry 14). -/
def State.trackFollow (s : State) (t : Nat) (d : Int) : State :=
  if !s.trkLive t then s
  else
    let k := s.trk t
    let (phi, l) := trackStep (s.flag (F.DL_TRK_CFG_DIRMODE t)) d k.phi0 k.backlog0
    let s := s.modTrk t fun k => { k with phi := phi, backlog := l }
    s.when (decide (s.trkP t ≤ l)) fun s => (s.setFlag (F.DL_TRK_FLAG_IDLE t) true).mark .idle t

/-- The present φ and L of a track, with the angle word `a`, become the base of R74. -/
def State.trackBaseAt (s : State) (t : Nat) (a : Word) : State :=
  s.modTrk t fun k => { k with phi0 := k.phi, backlog0 := k.backlog, ang0 := a }

/-- The present values of a track become the base of R74. -/
def State.trackBase (s : State) (t : Nat) : State := s.trackBaseAt t (s.angle (s.trkDom t))

/-- A track that the uncorrected step of this cycle has made IDLE runs until the corrected step is formed (R54, R75). -/
def State.trackWake (s : State) (t : Nat) : State :=
  s.when (s.trkIdle t && (s.trk t).running && !(s.trk t).dead && s.marked .idle t == some s.now) fun s =>
    (s.setFlag (F.DL_TRK_FLAG_IDLE t) false).unmark .idle t

/-- The tracks of a domain and of its slaves form their φ anew from the corrected angle of this cycle (R54, R74). -/
def State.retrack (s : State) (d : Nat) : State :=
  let ds := d :: s.slaves d
  s.each (List.range 32) fun s t =>
    if ds.contains (s.trkDom t) then (s.trackWake t).trackFollow t (angDiff (s.angle (s.trkDom t)) (s.trk t).ang0) else s

/-! ### Time -/

/-- The change of the angle word over `n` cycles of the rate, not reduced modulo 2³². -/
def State.pathOf (s : State) (d n : Nat) : Int :=
  let base (x : Dom) (k o : Int) : Int := (k * (x.acc.toNat + n * x.rate.toInt) + o) / 65536 - (k * x.acc.toNat + o) / 65536
  if s.domState d == dsSlave then
    base (s.dom (s.fld (F.AD_CFG_MASTER d))) (s.fld (F.AD_GAIN_RATIO d)) (s.fld (F.AD_OFS_OFS d) * 65536)
  else base (s.dom d) 1 0

/-- Every domain that is not off advances by `n` cycles (R53, R73), and the tracks follow (R74). DESIGN CHOICE, safe (log entry 2). -/
def State.advance (s : State) (n : Nat) : State :=
  if n = 0 then s
  else
    let s1 := ({ s with now := s.now + n, hwSets := [], before := [] } : State).each (List.range 16) fun u d =>
      if u.domState d == dsOff || u.domState d == dsSlave then u
      else u.modDom d fun x =>
        { x with acc := x.acc + BitVec.ofNat 48 n * x.rate, prev := x.acc + BitVec.ofNat 48 (n - 1) * x.rate }
    let s1 := s1.each (List.range 16) fun u d => if u.domState d == dsSlave then u.slaveUpdate d else u
    s1.each (List.range 32) fun u t =>
      if !u.trkLive t then u
      else
        let d := u.trkDom t
        let before := s.pathOf d (n - 1)
        let last := s.pathOf d n
        let at_ (u : State) (c : Nat) : State := { u with now := c }
        let u := ((at_ u s.now).trackFollow t (angDiff (s.angle d) (u.trk t).ang0)).trackBaseAt t (s.angle d)
        let u := ((at_ u (s1.now - 1)).trackFollow t before).trackBaseAt t (s.angle d + wordOf before)
        (at_ u s1.now).trackFollow t (last - before)

/-! ### Schedules in table memory -/

/-- Descriptor `i` and entry `j` of the schedule area (R786). -/
def descAddr (i : Nat) : Nat := tabA + 0x1F8000 + 4 * i
def entryAddr (j : Nat) : Nat := tabA + 0x1F8400 + 8 * j

/-- A schedule entry ("Schedule entries"). -/
structure Entry where
  word0  : Nat
  arg    : Nat
  target : Nat
  delay  : Bool
  action : Nat
  deriving DecidableEq, Repr

def Entry.ofWords (w0 w1 : Word) : Entry :=
  ⟨w0.toNat, Word.get w1 16 16, Word.get w1 8 8, Word.get w1 4 1 == 1, Word.get w1 0 4⟩

/-- A stored entry, parity apart. -/
def State.entry (s : State) (j : Nat) : Entry := Entry.ofWords (s.peek32 (entryAddr j)) (s.peek32 (entryAddr j + 4))

/-- `FIRST` and `COUNT` of a descriptor word. -/
def descFirst (w : Word) : Nat := Word.get w 0 11
def descCount (w : Word) : Nat := Word.get w 16 12

/-- `FIRST` and the index after the last entry of the active schedule of a track. -/
def State.schedRange (s : State) (t : Nat) : Nat × Nat :=
  let w := s.peek32 (descAddr (s.fld (F.DL_TRK_SCHED_ACTIVE t)))
  (descFirst w, descFirst w + descCount w)

/-- The record of the first read error (R97, R98). DEDUCED, unsafe (log entry 37). -/
def State.recordRdErr (s : State) (desc : Bool) (idx : Nat) : State :=
  (s.when (!s.flag F.DL_RDERR_RDERR) fun s => (s.setFlag F.DL_RDERR_DESC desc).setFld F.DL_RDERR_IDX idx).setFlag F.DL_RDERR_RDERR true

/-- Dripline reads the descriptor of the track's active schedule; on a bus error the track enters IDLE until reset (R98). The
flag tells whether the read succeeded.
DEDUCED, safe (log entry 17). -/
def State.readDesc (s : State) (t : Nat) : Bool × State :=
  let i := s.fld (F.DL_TRK_SCHED_ACTIVE t)
  match s.read32 reqDripline (descAddr i) with
  | (some _, s) => (true, s)
  | (none, s) =>
    let s := (s.recordRdErr true i).raiseL Ev.DL_RDERR 3 4 (s.trkConv t) t
    (false, (s.setFlag (F.DL_TRK_FLAG_IDLE t) true).modTrk t fun k => { k with dead := true })

/-- A byte of an entry has wrong parity in both banks, so that reading it gives a bus error (R729). -/
def State.entryBad (s : State) (j : Nat) : Bool :=
  (List.range 8).any fun i => !s.parOk (entryAddr j + i) && !s.parOk (otherBank (entryAddr j + i))

/-- The angle entries of an index range that have not fired, as late entries of the period `pc` (R84). -/
def State.lateOf (s : State) (lo hi pc : Nat) : List Armed :=
  ((List.range (hi - lo)).map (lo + ·)).filterMap fun j =>
    if (s.entry j).delay then none else some ⟨j, hi, s.now, pc, true⟩

/-- Dripline reads an entry; a bus error makes it absent, with the record and the event of R97. DEDUCED, safe (log entry 17). -/
def State.readEntry (s : State) (t j : Nat) : Option Entry × State :=
  match s.readWords reqDripline (entryAddr j) 2 with
  | (some ws, s) => (some (Entry.ofWords (ws.headD 0) (ws.getD 1 0)), s)
  | (none, s) => (none, ((s.recordRdErr false j).setFlag (F.DL_TRK_FLAG_RDERR t) true).raise Ev.DL_RDERR (s.trkConv t) t)

/-- The schedule of a change that was withdrawn less than 4 cycles ago, where a boundary still takes that change up (R876). -/
def State.oldSched (s : State) (t : Nat) : Option Nat :=
  s.sc.convs.toList.findSome? fun c => c.old.bind fun o =>
    if o.keep && s.now < o.until_ && o.setAt + 4 ≤ s.now then (o.trks.find? fun p => p.1 == t).map Prod.snd else none

/-- A pending schedule of a track is due: it was set 4 cycles ago or earlier (R88). -/
def State.pendDue (s : State) (t : Nat) : Bool := s.flag (F.DL_TRK_SCHED_PVALID t) && (s.trk t).pendAt + 4 ≤ s.now

/-- A boundary in this cycle changes the schedule of the track. -/
def State.schedSwaps (s : State) (t : Nat) : Bool := (s.oldSched t).isSome || s.pendDue t

/-- A track takes up its pending schedule at a boundary that falls 4 cycles or more after it was set (R88, R89), or one that was withdrawn just
before (R876). -/
def State.takePending (s : State) (t : Nat) : State :=
  match s.oldSched t with
  | some d => s.setFld (F.DL_TRK_SCHED_ACTIVE t) d
  | none => s.when (s.pendDue t) fun s =>
    (s.setFld (F.DL_TRK_SCHED_ACTIVE t) (s.fld (F.DL_TRK_SCHED_PEND t))).setFlag (F.DL_TRK_SCHED_PVALID t) false

/-- The pointer of a track: the index of its next angle entry. -/
def State.setNext (s : State) (t j : Nat) : State :=
  (s.modTrk t fun k => { k with next := j }).setFld (F.DL_TRK_FLAG_PTR t) j

/-- The track moves its pointer to the first angle entry from `j` on that `p` accepts, among the next `n` entries; an entry that cannot be
read is passed as absent (R80, R97). -/
def State.seekNext (s : State) (t : Nat) (p : Entry → Bool) (j : Nat) : Nat → State
  | 0 => s.setNext t j
  | n + 1 =>
    match s.readEntry t j with
    | (some e, s) => if !e.delay && p e then s.setNext t j else s.seekNext t p (j + 1) n
    | (none, s) => s.seekNext t p (j + 1) n

/-- A re-seek (R76, R77): φ is set from the angle, L is cleared, and a forced boundary is made; entries at or below φ are skipped. A pending
schedule that is due at the forced boundary is taken up there (R88); its entries at or below φ are skipped too, as R76 says of a re-seek,
where R89 would fire them.
DESIGN CHOICE, unsafe (log entry 62). -/
def State.reseek (s : State) (t : Nat) : State :=
  let s := (s.takePending t)
  let (ok, s) := s.readDesc t
  let a := s.angle (s.trkDom t)
  let phi := (a - s.reg (Reg.DL_TRK_BASE t)).toNat % s.trkP t
  let s := s.modTrk t fun k => { k with phi := phi, backlog := 0, phi0 := phi, backlog0 := 0, ang0 := a }
  let s := (((s.incMod (F.DL_TRK_PCOUNT_PCOUNT t)).setFlag (F.DL_TRK_FLAG_RESEEK t) true).setFlag (F.DL_TRK_FLAG_FORCED t) true).mark .track t
  let (lo, hi) := s.schedRange t
  s.when ok fun s => s.seekNext t (fun e => decide (phi < e.word0)) lo (hi - lo)

/-! ### Measurements -/

/-- The qualities of R453. -/
def qNone : Nat := 0
def qGood : Nat := 1
def qDegraded : Nat := 2
def qFailed : Nat := 3


/-- A jump of a domain (R67): the flag and the event of the domain and of its slaves; the tracks that run on them re-seek when the step
settles (R76, R77). -/
def State.jump (s : State) (d : Nat) : State :=
  let ds := d :: s.slaves d
  let s := s.slavesUpdate d
  let s := s.each ds fun s n => (s.setFlag (F.AD_STAT_JUMP n) true).raiseDom Ev.AD_JUMP n
  let s := { s with jumped := s.jumped ++ ds }
  { s with reseeks := s.reseeks ++ (List.range 32).filter fun t => s.trkLive t && ds.contains (s.trkDom t) }

/-- The limit of the rate after a correction (R60). -/
def State.limitRate (s : State) (d : Nat) : State :=
  let hi : Int := s.fld (F.AD_RMAX_RATE_MAX d) * 65536
  let lo : Int := if s.fld (F.AD_CFG_KIND d) == 1 then -hi else 0
  let r := s.rate d
  let r' := clampI lo hi r
  s.when (r != r') fun s =>
    ((s.modDom d fun x => { x with rate := BitVec.ofInt 48 r' }).setFlag (F.AD_STAT_RSAT d) true).raiseDom Ev.AD_RSAT d

/-- The slaves, the direction and the tracks follow a correction (R54, R68, R73, R74). -/
def State.afterCorrection (s : State) (d : Nat) : State := ((s.updateDir d).slavesUpdate d).retrack d

/-- R58: the proportional and the integral correction by the error `e`. -/
def State.correct (s : State) (d : Nat) (e : Int) : State :=
  let kp := s.fld (F.AD_GAIN_KP_SH d)
  let ki := s.fld (F.AD_GAIN_KI_SH d)
  let s := s.modDom d fun x =>
    { x with acc := x.acc + BitVec.ofInt 48 (e * 65536 / 2 ^ kp), rate := x.rate + BitVec.ofInt 48 (e * 65536 / 2 ^ ki) }
  (s.limitRate d).afterCorrection d

/-- The accumulator of a directly taken measurement ("Discipline"). -/
def State.takeAngle (s : State) (d : Nat) (th : Word) (age : Nat) : State :=
  let o := s.reg (Reg.AD_OFS d)
  s.modDom d fun x => { x with acc := ((th + o).setWidth 48 <<< 16) + x.rate * BitVec.ofNat 48 age }

/-- A first measurement of ACQUIRE, with its jump (R61, R67, R877). -/
def State.firstMeas (s : State) (d : Nat) (th : Word) (age : Nat) : State :=
  let t : Int := (s.now : Int) - age
  let s := (s.takeAngle d th age).modDom d fun x => { x with acqN := 1, acqTheta := th, acqT := t, lockRun := 0 }
  (s.updateDir d).jump d

/-- A second measurement of ACQUIRE: the rate from the two sampling instants, or a new first one when they do not rise (R877). The rate is
limited under R60 before the angle is formed with it; the manual does not say whether and when R60 acts here.
DEDUCED, unsafe (log entry 15). DESIGN CHOICE, unsafe (log entry 62). -/
def State.secondMeas (s : State) (d : Nat) (th : Word) (age : Nat) : State :=
  let x := s.dom d
  let dt := (s.now : Int) - age - x.acqT
  if dt ≤ 0 then s.firstMeas d th age
  else
    let r := truncDiv (angDiff th x.acqTheta * 65536) dt
    let s := s.modDom d fun x => { x with rate := BitVec.ofInt 48 r, acqN := 2 }
    (((s.limitRate d).takeAngle d th age).afterCorrection d)

/-- Enters ACQUIRE with the measurement as its first (R65, R878). -/
def State.acquireWith (s : State) (d : Nat) (th : Word) (age : Nat) : State :=
  ((s.setDomState d dsAcquire).setFld (F.AD_STAT_OUTL d) 0).firstMeas d th age

/-- Entry into LOCKED (R62). -/
def State.enterLocked (s : State) (d : Nat) : State :=
  ((s.setDomState d dsLocked).modDom d fun x => { x with lockAt := s.now, lockBnd := x.bnds }).raiseDom Ev.AD_LOCK d
/-- COAST after LOCKED (R62, step 5). -/
def State.enterCoast (s : State) (d : Nat) : State := ((s.setDomState d dsCoast).raiseDom Ev.AD_COAST d).mark .coast d
/-- LOST, by the time in COAST or under R71. -/
def State.enterLost (s : State) (d : Nat) : State := (s.setDomState d dsLost).raiseDom Ev.AD_LOST d

/-- The error of a measurement (R57). -/
def State.measError (s : State) (d : Nat) (th : Word) (age : Nat) : Int :=
  let x := s.dom d
  angDiff (th + s.reg (Reg.AD_OFS d)) (angleOf (x.acc - x.rate * BitVec.ofNat 48 age))

/-- A measurement arrives at a domain (R57 to R62, R65, R877, R878). `good` tells whether its source quality is GOOD.
DEDUCED, unsafe (log entry 15). DESIGN CHOICE, unsafe (log entry 62). -/
def State.measure (s : State) (d : Nat) (th : Word) (age : Nat) (good : Bool) : State :=
  let st := s.domState d
  if st == dsOff || st == dsSlave then s
  else
    let e := s.measError d th age
    let lim : Int := s.fld (F.AD_WIN_ERR_MAX d) * 65536
    let ok : Bool := decide (-lim ≤ e ∧ e ≤ lim)
    let x := s.dom d
    let sw := x.switched && x.selAt != some s.now
    let s := ((s.mark .measured d).setReg (Reg.AD_ERR d) (wordOf e)).modDom d fun x => { x with switched := x.switched && !sw }
    if st == dsAcquire then
      if x.acqN == 0 then s.firstMeas d th age
      else if x.acqN == 1 && !sw then s.secondMeas d th age
      else if !ok then s.acquireWith d th age
      else
        let win : Int := s.fld (F.AD_WIN_LOCK_WIN d) * 256
        let run := if decide (-win ≤ e ∧ e ≤ win) then x.lockRun + 1 else 0
        let s := (s.correct d e).modDom d fun x => { x with lockRun := run, acqN := 2 }
        s.when (decide (s.fld (F.AD_GAIN_LOCK_CNT d) ≤ run)) fun s =>
          (s.setFld (F.AD_STAT_OUTL d) 0).enterLocked d
    else if st == dsLocked || st == dsCoast then
      if ok then
        let s := (s.correct d e).setFld (F.AD_STAT_OUTL d) 0
        s.when (st == dsCoast) (·.enterLocked d)
      else if sw then s.acquireWith d th age
      else
        let s := s.incSat (F.AD_STAT_OUTL d)
        s.when (st == dsLocked && s.fld (F.AD_STAT_OUTL d) == 3) (·.enterCoast d)
    else s.when (st == dsLost && good) (·.acquireWith d th age)

/-- The active source code of a domain: the primary source, or the secondary after a switch; after a switch under R64, from the next cycle
on. -/
def State.activeSrc (s : State) (d : Nat) : Nat :=
  if s.flag (F.AD_CTRL_SRCSEL d) && (s.dom d).selAt != some s.now then s.fld (F.AD_CFG_SRC2 d) else s.fld (F.AD_CFG_SRC d)

/-- The domains whose active source is the code `src`. -/
def State.domsOf (s : State) (src : Nat) : List Nat :=
  (List.range 16).filter fun d => s.domState d != dsOff && s.domState d != dsSlave && s.activeSrc d == src

/-- A source delivers a measurement to every domain that takes it (R451 names the source codes). -/
def State.deliver (s : State) (src : Nat) (th : Word) (age : Nat) (good : Bool) : State :=
  s.each (s.domsOf src) fun s d => s.measure d th age good

/-- A source reports FAILED: the switch of R64, or COAST when no switch takes place (R62, step 5). -/
def State.sourceFailed (s : State) (src : Nat) : State :=
  s.each (s.domsOf src) fun s d =>
    if !s.flag (F.AD_CTRL_SRCSEL d) && s.flag (F.AD_CFG_AUTO2 d) && s.fld (F.AD_CFG_SRC2 d) != 0 then
      ((s.setFlag (F.AD_CTRL_SRCSEL d) true).modDom d fun x => { x with switched := true, selAt := some s.now }).raiseDom Ev.AD_SRCSW d
    else s.when (s.domState d == dsLocked) (·.enterCoast d)

end Sys2Proof.Machine
end

