-- ==== Sys2Proof/Machine/Commit.lean ====
section
/-! DEFINITION. Runtime parameters and commit groups (R17, R38 to R42, R824 to R828): the groups, their domains, their
consistency rules, capture and taking effect. -/

namespace Sys2Proof.Machine

/-- Words of one loop context. -/
def ctxAddr (c : Nat) : Nat := ctxBase + c * 0x400
/-- The shadow copy of a context's commit group in working memory (R218). -/
def ctxShadow (c : Nat) : Nat := 0x7A0000 + c * 0x200

/-- The registers of a commit group by its number (the group table of "Commit groups"); a loop context has words of memory instead. -/
def groupRegs (g : Nat) : List Nat :=
  if g ≤ 0x00F then [Reg.AD_RSET_HI g, Reg.AD_RSET_LO g, Reg.AD_CTRL g]
  else if g ≤ 0x06F then let i := g - 0x010; [Reg.AIN_OFS i, Reg.AIN_GM i, Reg.AIN_GS i]
  else if g ≤ 0x075 then
    let f := g - 0x070; [Reg.FIT_OP f, Reg.FIT_TH f, Reg.FIT_SM f, Reg.FIT_YM f, Reg.FIT_YS f, Reg.FIT_LDV f]
  else if g == 0x078 || g == 0x079 then let m := g - 0x078; [Reg.TM_RATIO m, Reg.TM_MINP m]
  else if g == 0x07A || g == 0x07B then
    let t := g - 0x07A
    [Reg.TC_CMD t, Reg.TC_TSET t, Reg.TC_SSET t, Reg.TC_TRAMP t, Reg.TC_SRAMP t, Reg.TC_TMOT t, Reg.TC_TGEN t]
  else if g == 0x07C then [Reg.DC_CMD, Reg.DC_VRAMP, Reg.DC_ILIM]
  else if g == 0x07D then [Reg.CH_CMD, Reg.CH_IBAT]
  else if 0x080 ≤ g && g ≤ 0x08F then
    let p := g - 0x080; [Reg.PF_TGT p, Reg.PF_VM p, Reg.PF_AM p, Reg.PF_JM p, Reg.PF_SH p, Reg.PF_TOL p]
  else if 0x090 ≤ g && g ≤ 0x0B7 then let c := g - 0x090; [Reg.PG_DTR c, Reg.PG_DTF c]
  else if g == 0x0B8 || g == 0x0B9 then let i := g - 0x0B8; [Reg.RS_EXC i, Reg.RS_WIN i, Reg.RS_QCTL i]
  else if 0x0BA ≤ g && g ≤ 0x0C1 then let k := g - 0x0BA; [Reg.QD_QCTL k, Reg.QD_CMPV k, Reg.QD_CMPC k]
  else if 0x0C2 ≤ g && g ≤ 0x0C5 then [Reg.HL_QCTL (g - 0x0C2)]
  else []

/-- The group is that of a loop context. -/
def isCtxGroup (g : Nat) : Bool := 0x100 ≤ g && g ≤ 0x27F

/-- Every group number that is not reserved. -/
def groupGiven (g : Nat) : Bool := isCtxGroup g || groupRegs g != []

/-- The groups that have registers, for the search of a register's group. -/
def regGroups : List Nat := List.range 0x0C6

/-- The group of a register, if it belongs to one. -/
def groupOf (a : Nat) : Option Nat := regGroups.find? fun g => (groupRegs g).contains a

def State.ctxWord (s : State) (c off : Nat) : Word := s.peek32 (ctxAddr c + off)

/-- The scheduled coefficient slots of a context: `FIRSTCO` and `NCO` of its gain-set block (R247). -/
def State.gsSlots (s : State) (c : Nat) : Nat × Nat :=
  if bitOf (s.ctxWord c 8).toNat 31 then
    let w := (s.peek32 (tabA + (s.ctxWord c 0xC).toNat + 0x1C)).toNat
    (bitsOf w 8 5, bitsOf w 0 6)
  else (0, 0)

/-- Whether coefficient slot `i` of a context is scheduled. -/
def State.slotScheduled (s : State) (c i : Nat) : Bool :=
  let (f, n) := s.gsSlots c
  f ≤ i && i < f + n

/-- The captured words of a group, by the address of their active copy (R38). -/
def State.captureWords (s : State) (g : Nat) : List (Nat × Word) :=
  if isCtxGroup g then
    let c := g - 0x100
    ((List.range 32).map fun i => (ctxAddr c + 0x150 + 4 * i, s.peek32 (ctxShadow c + 4 * i)))
      ++ ((List.range 32).filter fun i => !s.slotScheduled c i).flatMap fun i =>
        [(ctxAddr c + 0x1D0 + 8 * i, s.peek32 (ctxShadow c + 0x80 + 8 * i)),
         (ctxAddr c + 0x1D4 + 8 * i, s.peek32 (ctxShadow c + 0x84 + 8 * i))]
  else (groupRegs g).map fun a => (a, s.shad a)

/-- The angle domain of a group. -/
def State.groupDom (s : State) (g : Nat) : Nat :=
  if g ≤ 0x00F then g
  else if g ≤ 0x06F then s.fld (F.AIN_CFG_CDOM (g - 0x010))
  else if g ≤ 0x075 then s.fld (F.FIT_CFG_CDOM (g - 0x070))
  else if g ≤ 0x079 then s.fld (F.TM_CFG_CDOM (g - 0x078))
  else if g ≤ 0x07B then s.fld (F.TC_CFG_CDOM (g - 0x07A))
  else if g == 0x07C then s.fld F.DC_CFG_DDOM
  else if g == 0x07D then s.fld F.CH_CFG_SDOM
  else if g ≤ 0x08F then s.fld (F.PF_CFG_CDOM (g - 0x080))
  else if g ≤ 0x0B7 then s.fld (F.PG_CFG_CDOM (g - 0x090))
  else if g ≤ 0x0B9 then s.fld (F.RS_CFG_CDOM (g - 0x0B8))
  else if g ≤ 0x0C1 then s.fld (F.QD_CFG_CDOM (g - 0x0BA))
  else if g ≤ 0x0C5 then s.fld (F.HL_CFG_CDOM (g - 0x0C2))
  else bitsOf (s.ctxWord (g - 0x100) 0).toNat 12 4

/-- The block instance of a group is enabled (R825). An analog input has no `EN` field and counts as enabled. -/
def State.groupEnabled (s : State) (g : Nat) : Bool :=
  if g ≤ 0x00F then s.fld (F.AD_CFG_KIND g) != 0
  else if g ≤ 0x06F then true
  else if g ≤ 0x075 then s.flag (F.FIT_CFG_EN (g - 0x070))
  else if g ≤ 0x079 then s.flag (F.TM_CFG_EN (g - 0x078))
  else if g ≤ 0x07B then s.flag (F.TC_CFG_EN (g - 0x07A))
  else if g == 0x07C then s.flag F.DC_CFG_EN
  else if g == 0x07D then s.flag F.CH_CFG_EN
  else if g ≤ 0x08F then s.flag (F.PF_CFG_EN (g - 0x080))
  else if g ≤ 0x0B7 then s.flag (F.PG_CFG_EN (g - 0x090))
  else if g ≤ 0x0B9 then s.flag (F.RS_CFG_EN (g - 0x0B8))
  else if g ≤ 0x0C1 then s.flag (F.QD_CFG_EN (g - 0x0BA))
  else if g ≤ 0x0C5 then s.flag (F.HL_CFG_EN (g - 0x0C2))
  else bitOf (s.ctxWord (g - 0x100) 0).toNat 31

/-- A coefficient shift of 6 bits lies within −31 to +16 (R6). -/
def shiftOk (x : Nat) : Bool := decide (-31 ≤ signed 6 x ∧ signed 6 x ≤ 16)

/-- Whether an `OUT` stage of an enabled context of converter `k` names the target `a`. -/
def State.outTargets (s : State) (k a : Nat) : Bool :=
  (List.range 384).any fun c =>
    let cfg := (s.ctxWord c 0).toNat
    bitOf cfg 31 && bitsOf cfg 24 3 == k && (List.range (bitsOf cfg 16 5)).any fun j =>
      bitsOf (s.ctxWord c (0x90 + 8 * j)).toNat 28 4 == 0xF && bitsOf (s.ctxWord c (0x94 + 8 * j)).toNat 0 24 == a

/-- The consistency rule of a group over the captured words `w` (R101's domain rule, R112, R204, R219, R256, R329, R419, R450, R496,
R527, R555). -/
def State.groupRule (s : State) (g : Nat) (w : Nat → Word) : Bool :=
  let f (x : Fld) : Nat := Word.get (w x.addr) x.lsb x.width
  if g ≤ 0x00F then
    s.fld (F.AD_CFG_KIND g) == 1
      || (let r : Int := (w (Reg.AD_RSET_HI g)).toInt * 65536 + f (F.AD_RSET_LO_RSET_FRAC g)
          decide (0 ≤ r ∧ r ≤ s.fld (F.AD_RMAX_RATE_MAX g) * 65536))
  else if g ≤ 0x06F then shiftOk (f (F.AIN_GS_GS (g - 0x010)))
  else if g ≤ 0x075 then shiftOk (f (F.FIT_YS_YS (g - 0x070))) && f (F.FIT_SM_DS_CNT (g - 0x070)) != 0
  else if g ≤ 0x079 then
    let m := g - 0x078
    0x0100 ≤ f (F.TM_RATIO_RENG m) && f (F.TM_RATIO_RHYS m) < f (F.TM_RATIO_RENG m)
      && 0x0010 ≤ f (F.TM_MINP_HOR m) && f (F.TM_MINP_HOR m) ≤ 0x2AAB
  else if g ≤ 0x07B then
    let t := g - 0x07A
    let nonneg (a : Nat) : Bool := decide (0 ≤ (w a).toInt)
    f (F.TC_CMD_MODE t) != 3 && (f (F.TC_CMD_MODE t) != 2 || s.outTargets t (Reg.TC_TREQ t))
      && nonneg (Reg.TC_TRAMP t) && nonneg (Reg.TC_SRAMP t) && nonneg (Reg.TC_TMOT t) && nonneg (Reg.TC_TGEN t)
  else if g == 0x07C then f F.DC_ILIM_ISTART ≤ f F.DC_ILIM_ILIM && f F.DC_VRAMP_VRAMP != 0
  else if g == 0x07D then f F.CH_CMD_IMAXV ≤ 800 && decide (0 ≤ (w Reg.CH_IBAT).toInt)
  else if g ≤ 0x08F then
    let p := g - 0x080
    let nonneg (a : Nat) : Bool := decide (0 ≤ (w a).toInt)
    shiftOk (f (F.PF_SH_VS p)) && shiftOk (f (F.PF_SH_AS p)) && shiftOk (f (F.PF_SH_JS p))
      && nonneg (Reg.PF_VM p) && nonneg (Reg.PF_AM p) && nonneg (Reg.PF_JM p)
  else if g ≤ 0x0B7 then f (F.PG_DTR_DTR (g - 0x090)) ≤ 128000 && f (F.PG_DTF_DTF (g - 0x090)) ≤ 128000
  else if g ≤ 0x0B9 then f (F.RS_WIN_AMIN (g - 0x0B8)) < f (F.RS_WIN_AMAX (g - 0x0B8))
  else if g ≤ 0x0C1 then
    let k := g - 0x0BA
    f (F.QD_CMPV_CMPV k) < s.fld (F.QD_NMOD_NMOD k) && f (F.QD_CMPC_CMPSTEP k) < s.fld (F.QD_NMOD_NMOD k)
  else if g ≤ 0x0C5 then true
  else
    let c := g - 0x100
    ((List.range 32).filter fun i => !s.slotScheduled c i).all fun i =>
      let x := (w (ctxAddr c + 0x1D4 + 8 * i)).toNat
      shiftOk x && x < 64

/-- The groups that Axle Link owns while a session is OPEN or HOLD (R827). -/
def State.ownedByLink (s : State) (g : Nat) : Bool :=
  (s.fld F.AL_STAT_SSTATE == 2 || s.fld F.AL_STAT_SSTATE == 3)
    && (g == 0x07A || g == 0x07B || g == 0x07C || g == 0x07D
      || (s.flag F.AL_MAP_PF0EN && g == 0x080 + s.fld F.AL_MAP_PF0) || (s.flag F.AL_MAP_PF1EN && g == 0x080 + s.fld F.AL_MAP_PF1))

/-- The results of a commit request, as `CG_SPSTAT.RES` codes them. -/
def cgWaiting : Nat := 1
def cgDone : Nat := 2
def cgRejected : Nat := 3
def cgBusy : Nat := 4
def cgUnknown : Nat := 5
def cgOwned : Nat := 6
def cgState : Nat := 7

/-- A commit request for a group (R38, R40, R41, R824 to R828): the result code and the state. `sp` tells whether the service port asks. -/
def State.requestCommit (s : State) (g : Nat) (sp : Bool) : Nat × State :=
  if s.sys == sysDefaults then (cgState, s)
  else if !groupGiven g || !s.groupEnabled g then (cgUnknown, s)
  else if sp && s.ownedByLink g then (cgOwned, s)
  else if s.commits.any fun c => c.group == g then
    (cgBusy, (s.incSat F.CG_CNT_REJ_CNT).raise Ev.CG_BUSY axle 0)
  else
    let ws := s.captureWords g
    if s.groupRule g (fun a => ((ws.find? fun p => p.1 == a).map Prod.snd).getD 0) then
      (cgWaiting, { s with commits := s.commits ++ [⟨g, ws, sp, s.now⟩] })
    else (cgRejected, (s.incSat F.CG_CNT_REJ_CNT).raise Ev.CG_REJ axle 0)

/-- A commit request of the service port, with its report in `CG_SPSTAT` (R824). -/
def State.spCommit (s : State) (g : Nat) : State :=
  let (r, s) := s.requestCommit g true
  (s.setFld F.CG_SPSTAT_RES r).setFld F.CG_SPSTAT_GROUP g


/-- What a commit that took effect makes besides the new active copy: the rate of a domain with a set-point, the return to the primary
source (R66), a resync (R257), and the re-arm of a failed source (R454). -/
def State.afterCommit (s : State) (g : Nat) (oldSel : Nat) : State :=
  if g ≤ 0x00F then
    let k := s.fld (F.AD_CFG_KIND g)
    let r := s.rset g
    let s := s.when (k == 4 && s.domState g == dsFree || k == 3 && s.fld (F.AD_CFG_SRC g) == 0) fun s =>
      ((s.modDom g fun x => { x with rate := r }).updateDir g).slavesUpdate g
    s.when (s.fld (F.AD_CTRL_SRCSEL g) != oldSel) fun s => s.modDom g fun x => { x with switched := true, selAt := none }
  else if g == 0x07C then
    ({ s with dc := { s.dc with data := { s.dc.data with att := 0 } } } : State).setFld F.DC_STAT_ATT 0
  else if g == 0x07D then
    ({ s with ch := { s.ch with data := { s.ch.data with att := 0 } } } : State).setFld F.CH_STAT_ATT 0
  else if 0x080 ≤ g && g ≤ 0x08F then
    let p := g - 0x080
    s.when (s.flag (F.PF_SH_RESYNC p)) fun s =>
      ((s.setFlag (F.PF_SH_RESYNC p) false).setFlag (F.PF_STAT_PEND p) true)
  else if g == 0x0B8 || g == 0x0B9 then
    let i := g - 0x0B8
    let s' := s.setFlag (F.RS_QCTL_REARM i) false
    if s.flag (F.RS_QCTL_REARM i) && s.fld (F.RS_STAT_Q i) == qFailed then
      let s' := { s' with rss := vmod s'.rss i fun x => { x with oowc := 0 } }
      (((s'.setFld (F.RS_STAT_Q i) qDegraded).setFld (F.RS_STAT_BCNT i) 0).setFld (F.RS_STAT_GCNT i) 0).raise Ev.RS_DEGR (s.fld (F.RS_CFG_CONV i)) i
    else s'
  else if 0x0BA ≤ g && g ≤ 0x0C1 then
    let k := g - 0x0BA
    let s' := s.setFlag (F.QD_QCTL_REARM k) false
    if s.flag (F.QD_QCTL_REARM k) && s.fld (F.QD_STAT_Q k) == qFailed then
      (((s'.setFld (F.QD_STAT_Q k) qDegraded).setFld (F.QD_STAT_ILLC k) 0).setFld (F.QD_STAT_OOWC k) 0).raise Ev.QD_DEGR (s.fld (F.QD_CFG_CONV k)) k
    else s'
  else if 0x0C2 ≤ g && g ≤ 0x0C5 then
    let h := g - 0x0C2
    let s' := s.setFlag (F.HL_QCTL_REARM h) false
    if s.flag (F.HL_QCTL_REARM h) && s.fld (F.HL_STAT_Q h) == qFailed then
      ((s'.setFld (F.HL_STAT_Q h) qDegraded).setFld (F.HL_STAT_ABNC h) 0).raise Ev.HL_DEGR (s.fld (F.HL_CFG_CONV h)) h
    else s'
  else s

/-- A run of a context in progress goes on with the old active copy of the commit group (R220). -/
def State.keepOld (s : State) (c : Nat) (l : List (Nat × Word)) : State :=
  let old := l.map fun p => (p.1, if (List.range 4).all fun i => s.parOk (p.1 + i) then some (s.peek32 p.1) else none)
  { s with lanes := s.lanes.map fun x =>
      { x with run := x.run.map fun r => if r.req.ctx == c && r.old == [] then { r with old := old } else r } }

/-- A captured commit becomes the active copy of its group (R39). -/
def State.takeEffect (s : State) (c : Commit) : State :=
  let s := s.when (isCtxGroup c.group) (·.keepOld (c.group - 0x100) c.words)
  let oldSel := s.fld (F.AD_CTRL_SRCSEL c.group)
  let s := s.each c.words fun s p => if p.1 < tabA then s.setReg p.1 p.2 else s.write32 p.1 p.2
  let s := s.incSat F.CG_CNT_DONE_CNT
  let s := s.when (c.sp && s.fld F.CG_SPSTAT_GROUP == c.group && s.fld F.CG_SPSTAT_RES == cgWaiting) (·.setFld F.CG_SPSTAT_RES cgDone)
  s.afterCommit c.group oldSel

/-- The commits of the groups that are bound to domain `d` take effect at its boundary (R39); one captured in the cycle of the boundary waits
for the following one (R826). -/
def State.commitBoundary (s : State) (d : Nat) : State :=
  let (now, later) := s.commits.partition fun c => s.groupDom c.group == d && decide (c.cyc < s.now)
  ({ s with commits := later } : State).each now State.takeEffect

end Sys2Proof.Machine
end

