-- ==== Sys2Proof/Machine/Power.lean ====
section
/-! DEFINITION. The PG channels (R303 to R340, R874, R875, R879): reference states, edge queues, load points, pins, isolation,
safe commands and the STO gate. -/

namespace Sys2Proof.Machine

def State.pg (s : State) (c : Nat) : Pg := vget s.pgs c Pg.reset
def State.modPg (s : State) (c : Nat) (f : Pg → Pg) : State := { s with pgs := vmod s.pgs c f }
def State.pgConv (s : State) (c : Nat) : Nat := s.fld (F.PG_CFG_CONV c)
def pgOff : Nat := 0
def pgCompl : Nat := 1
def pgIndep : Nat := 2
def State.pgMode (s : State) (c : Nat) : Nat := s.fld (F.PG_CFG_MODE c)
/-- Steps of the fine delay in one cycle, and the cycles from a reference edge to its pin (R308). -/
def stepsPerCycle : Nat := 64
/-- DESIGN CHOICE, unsafe (log entry 20). -/
def edgeDelay : Nat := 6

/-- The fields of one output of a channel, `low` for `PGL_nn`. -/
def pinF (c : Nat) (low : Bool) : Fld := if low then F.PG_STAT_PINL c else F.PG_STAT_PINH c
def pendF (c : Nat) (low : Bool) : Fld := if low then F.PG_STAT_PENDL c else F.PG_STAT_PENDH c
def ocF (c : Nat) (low : Bool) : Fld := if low then F.PG_STAT_OCLR c else F.PG_STAT_OCHR c
def State.pgOut (s : State) (c : Nat) (low : Bool) : PgOut := if low then (s.pg c).lo else (s.pg c).hi
def State.modOut (s : State) (c : Nat) (low : Bool) (f : PgOut → PgOut) : State :=
  s.modPg c fun p => if low then { p with lo := f p.lo } else { p with hi := f p.hi }

/-! ### Angles and edges -/

/-- Whether an angle lies inside the arc of a compare pair (R305). -/
def insideArc (psi x1 x2 : Word) : Bool := decide ((psi - x1).toNat < (x2 - x1).toNat)

/-- The word of a register before the writes of the present cycle (R315, R317). -/
def State.regBefore (s : State) (a : Nat) : Word := ((s.before.find? fun x => x.1 == a).map (·.2)).getD (s.reg a)
/-- A write of a register whose earlier word still counts in this cycle (R315, R317). -/
def State.setRegNoted (s : State) (a : Nat) (w : Word) : State :=
  { s with before := if s.before.any (·.1 == a) then s.before else (a, s.reg a) :: s.before }.setReg a w

/-- R307: the distance to a compare angle that the step from `p` to `q` passes, if it passes it. -/
def passDist (p q : W48) (x : Word) : Option Nat :=
  let d := (q - p).toInt
  let xa : W48 := x.setWidth 48 <<< 16
  let dist := if 0 < d then (xa - p).toNat else (p - xa).toNat
  if d ≠ 0 ∧ 0 < dist ∧ dist ≤ d.natAbs then some dist else none

/-- The fine delay of a passed compare angle (R307). -/
def fineOf (p q : W48) (dist : Nat) : Nat := min 63 (dist * 64 / (q - p).toInt.natAbs)

/-- The fine delay of an edge of an arc: of the one compare angle that the step passes, and otherwise 0 (R307). -/
def arcFine (p q : W48) (x1 x2 : Word) : Nat :=
  match passDist p q x1, passDist p q x2 with
  | some d, none => fineOf p q d
  | none, some d => fineOf p q d
  | _, _ => 0

/-- The channel accumulators Ψ(c − 1) and Ψ(c) with the active phase offset (R304, R316). -/
def State.psiStep (s : State) (c : Nat) : W48 × W48 :=
  let x := s.dom (s.fld (F.PG_CFG_CDOM c))
  let o : W48 := (s.reg (Reg.PG_APHOFS c)).setWidth 48 <<< 16
  (x.prev + o, x.acc + o)

/-- One reference state of carrier operation (R306). -/
def refState (force : Nat) (psi x1 x2 : Word) : Bool :=
  if force == 0 then insideArc psi x1 x2 else force == 2

/-! ### Comparator forces and turn-ons withheld -/

/-- The comparators with an action code on a channel. -/
def State.cmpsOn (s : State) (c act : Nat) : List Nat :=
  (List.range 48).filter fun k => s.flag (F.CMP_CFG_EN k) && s.fld (F.CMP_CFG_ACT k) == act && s.fld (F.CMP_CFG_BLKCH k) == c

/-- Whether a cycle-by-cycle limit forces r to 0 (`hi` = true, after a high trip) or to 1 (R598, R875). -/
def State.cbcForce (s : State) (c : Nat) (hi : Bool) : Bool :=
  (s.cmpsOn c 1).any fun k => s.flag (F.CMP_STAT_LTCH k) && !s.flag (F.CMP_STAT_UNRES k) && s.flag (F.CMP_STAT_HITR k) == hi

/-- Every turn-on of a channel is withheld while a comparator that guards it is unresolved (R600). -/
def State.withheld (s : State) (c : Nat) : Bool :=
  (s.cmpsOn c 1 ++ s.cmpsOn c 2).any (fun k => s.flag (F.CMP_STAT_UNRES k))
    || (bitOf (s.fld F.PR_CFG_OVMASK) (s.pgConv c) && (List.range 48).any fun k =>
        s.flag (F.CMP_CFG_EN k) && s.fld (F.CMP_CFG_ACT k) == 3 && s.flag (F.CMP_STAT_UNRES k))

/-! ### Pins -/

/-- Records of a pin change of a channel in this cycle: the fitters that watch it take an edge (R161, R165), and the comparators whose
`BLKCH` names it start a blanking (R597). -/
def State.pinEdge (s : State) (c : Nat) : State :=
  let st (c : Nat) : Nat :=
    let h := s.flag (F.PG_STAT_PINH c)
    let l := s.flag (F.PG_STAT_PINL c)
    if h && !l then 1 else if l && !h then 0 else 2
  let s := s.each (List.range 6) fun s f =>
    let chs := [s.fld (F.FIT_PG_PG0 f), s.fld (F.FIT_PG_PG1 f), s.fld (F.FIT_PG_PG2 f)]
    let watched := (List.range 3).any fun e => bitOf (s.fld (F.FIT_PG_PHMASK f)) e && chs.getD e 40 == c
    s.when watched fun s =>
      { s with fits := vmod s.fits f fun x =>
          { x with wins := x.wins.map fun w => if w.c1.isNone then { w with edges := w.edges ++ [⟨s.now, chs.map st⟩] } else w } }
  s.each (List.range 48) fun s k =>
    s.when (s.flag (F.CMP_CFG_EN k) && s.flag (F.CMP_CFG_BLANK k) && s.fld (F.CMP_CFG_BLKCH k) == c) fun s =>
      { s with cmps := vmod s.cmps k fun x => { x with blanked := true, blankAt := s.now } }

/-- An output is deasserted at its pin in this cycle, at step time `t`; a waiting turn-on is cancelled (R322, R330). -/
def State.pinOff (s : State) (c : Nat) (low : Bool) (t : Nat) : State :=
  let s := (s.setFlag (pendF c low) false).modOut c low fun o => { o with offDue := none }
  s.when (s.flag (pinF c low)) fun s =>
    ((s.setFlag (pinF c low) false).modOut c low fun o => { o with offAt := t }).pinEdge c

/-- An output is asserted at its pin in this cycle, at step time `t`. -/
def State.pinOn (s : State) (c : Nat) (low : Bool) (t : Nat) : State :=
  let s := (s.setFlag (pendF c low) false).setFlag (pinF c low) true
  (s.modOut c low fun o => { o with onAt := t, seenOff := !s.flag (ocF c low) }).pinEdge c

/-- The safe command in force on a channel (R335); a Sump channel has none. -/
def State.pgSafe (s : State) (c : Nat) : Nat := if s.flag (F.PG_CFG_SUMP c) then 0 else s.fld (F.PG_STAT_SAFEC c)

/-- The bit of a channel in the STO mask. -/
def State.stoMasked (s : State) (c : Nat) : Bool :=
  if c < 32 then bitOf (s.fld F.PG_STOMASK0_MASK0) c else bitOf (s.fld F.PG_STOMASK1_MASK1) (c - 32)

/-- Whether an output is wanted asserted, in the order of precedence: the STO gate, the safe command, isolation, then the
requested state of the reference state and the block's gate (R306, R335, R338, R501, R545, R875). -/
def State.pgWant (s : State) (c : Nat) (low : Bool) : Bool :=
  let m := s.pgMode c
  let safe := s.pgSafe c
  let p := s.pg c
  if !(s.flag (F.PG_CFG_EN c) && s.inForce && (m == pgCompl || m == pgIndep)) then false
  else if s.flag (F.PG_STAT_STOG c) then false
  else if safe != 0 then m == pgCompl && safe == (if low then 2 else 3)
  else if s.flag (F.PG_STAT_ISO c) then false
  else if m == pgIndep then if low then s.flag (F.PG_STAT_RL c) && p.gateL else s.flag (F.PG_STAT_RH c) && p.gateH
  else if s.cbcForce c true && s.cbcForce c false then false
  else if low then !s.flag (F.PG_STAT_RH c) && p.gateL else s.flag (F.PG_STAT_RH c) && p.gateH

/-- One output follows what is wanted of it, for a change whose edge time is `t`. A turn-off reaches the pin at its edge time (R308), at once
when that lies in this cycle; it cancels a turn-on that has not appeared (R322). A turn-on waits: in complementary mode for R321, in
independent mode for its edge time alone (R303), unless it is withheld (R600).
DESIGN CHOICE, unsafe (log entry 20). -/
def State.pgDrive (s : State) (c : Nat) (low : Bool) (t : Nat) : State :=
  let o := s.pgOut c low
  if !s.pgWant c low then
    if t / stepsPerCycle ≤ s.now || !s.flag (pinF c low) then s.pinOff c low t
    else (s.setFlag (pendF c low) false).modOut c low fun o => { o with offDue := o.offDue.or (some t) }
  else if s.flag (pendF c low) || (s.flag (pinF c low) && o.offDue.isNone) then s
  else (s.setFlag (pendF c low) true).modOut c low fun o => { o with req := t }

/-- Both outputs follow, the turn-offs first. -/
def State.pgApplyAt (s : State) (c tH tL : Nat) : State :=
  if s.pgWant c false then (s.pgDrive c true tL).pgDrive c false tH else (s.pgDrive c false tH).pgDrive c true tL

/-- Both outputs follow a change that is no reference edge: isolation, a safe command, the STO gate, a gate. -/
def State.pgApply (s : State) (c : Nat) : State := s.pgApplyAt c (s.now * stepsPerCycle) (s.now * stepsPerCycle)

/-- rH of a traction Sump channel: held by the Sump comparator while it is resolved, and 0 during the forced off-time (R613, R614). -/
def State.sumpRef (s : State) (c : Nat) (h : Bool) : Bool :=
  let k := s.fld F.PR_CFG_SPCMP
  if !(s.flag (F.PG_CFG_SUMP c) && s.flag F.PR_CFG_SPEN) then h
  else !s.flag F.PR_SUMPST_SPFORCE && (h || (!s.flag (F.CMP_STAT_UNRES k) && s.flag (F.CMP_STAT_RAWO k)))

/-- The reference states of a channel become `h` and `l` before the comparators' forces, with the fine delays of their edges
(R306 to R308, R598). -/
def State.setRefs (s : State) (c : Nat) (h l : Bool) (fH fL : Nat) : State :=
  let s := s.modPg c fun p => { p with baseH := h, baseL := l }
  let h := s.sumpRef c h
  let indep := s.pgMode c == pgIndep
  let f0 := s.cbcForce c true
  let f1 := s.cbcForce c false
  let h' := if indep then h && !(f0 || f1) else if f0 then false else h || f1
  let l' := if indep then l && !(f0 || f1) else s.flag (F.PG_STAT_RL c)
  let s := (s.setFlag (F.PG_STAT_RH c) h').setFlag (F.PG_STAT_RL c) l'
  let e (f : Nat) : Nat := (s.now + edgeDelay) * stepsPerCycle + f
  s.pgApplyAt c (e fH) (if indep then e fL else e fH)

/-- The reference states of cycle c in carrier operation (R306, R307). Under the edge queue they hold (R312). -/
def State.pgEval (s : State) (c : Nat) : State :=
  if s.fld (F.PG_ACTL_SRC c) == 1 then s
  else
    let (p, q) := s.psiStep c
    let psi := angleOf q
    let r (x : Nat) : Word := s.reg x
    let fh := s.fld (F.PG_ACTL_FH c)
    let fl := s.fld (F.PG_ACTL_FL c)
    let h := refState fh psi (r (Reg.PG_ACMPA c)) (r (Reg.PG_ACMPB c))
    let indep := s.pgMode c == pgIndep
    let l := if indep then refState fl psi (r (Reg.PG_ACMPC c)) (r (Reg.PG_ACMPD c)) else (s.pg c).baseL
    let fH := if fh == 0 then arcFine p q (r (Reg.PG_ACMPA c)) (r (Reg.PG_ACMPB c)) else 0
    let fL := if fl == 0 then arcFine p q (r (Reg.PG_ACMPC c)) (r (Reg.PG_ACMPD c)) else 0
    s.setRefs c h l (if h != (s.pg c).baseH then fH else 0) (if l != (s.pg c).baseL then fL else 0)

/-- The forces of the comparators have changed: the reference states are formed anew over the same base states. -/
def State.reforce (s : State) (c : Nat) : State := s.setRefs c (s.pg c).baseH (s.pg c).baseL 0 0

/-- The gates of the block that commands the channel; the edges that they make carry no fine delay (R501). -/
def State.setGate (s : State) (c : Nat) (h l : Bool) : State :=
  let t := (s.now + edgeDelay) * stepsPerCycle
  (s.modPg c fun p => { p with gateH := h, gateL := l }).pgApplyAt c t t

/-! ### Edge queues -/

def eqSize : Nat := 16

def State.setQueue (s : State) (c : Nat) (l : List EqItem) : State :=
  (s.modPg c fun p => { p with queue := l }).setFld (F.PG_STAT_EQCNT c) l.length

/-- An item is pushed, or dropped at a full queue (R312). -/
def State.eqPush (s : State) (c : Nat) (it : EqItem) : State :=
  let l := (s.pg c).queue
  if l.length < eqSize then s.setQueue c (l ++ [it])
  else (s.setFlag (F.PG_FLAG_EQOVF c) true).raise Ev.PG_EQOVF (s.pgConv c) c

/-- The head item of a queue has been reached (R310). -/
def State.eqDue (s : State) (c : Nat) (it : EqItem) : Bool :=
  let d := s.fld (F.PG_CFG_EDOM c)
  let e := angDiff (s.angle d) it.x
  if s.flag (F.AD_STAT_DIR d) then decide (e ≤ 0) else decide (0 ≤ e)

/-- The head item of a queue fires (R310, R311). -/
def State.eqFire (s : State) (c : Nat) : State :=
  match (s.pg c).queue with
  | [] => s
  | it :: rest =>
    if s.fld (F.PG_ACTL_SRC c) != 1 || !s.eqDue c it then s
    else
      let x := s.dom (s.fld (F.PG_CFG_EDOM c))
      let s := (s.setQueue c rest).mark .eqFire c
      let l := if s.pgMode c == pgIndep then it.sl else (s.pg c).baseL
      match passDist x.prev x.acc it.x with
      | some dist =>
        let f := fineOf x.prev x.acc dist
        s.setRefs c it.sh l f f
      | none =>
        let s := ((s.setFlag (F.PG_FLAG_ELATE c) true).incSat (F.PG_CNT_ELATE_CNT c)).raise Ev.PG_ELATE (s.pgConv c) c
        s.setRefs c it.sh l 0 0

/-! ### Load points -/

/-- The shadow values of a channel, as they stood before the writes of this cycle, move to their active copies (R316, R317, R319, R874). -/
def State.pgTransfer (s : State) (c : Nat) : State :=
  let old := s.fld (F.PG_ACTL_SRC c)
  let s := s.setRegNoted (Reg.PG_APHOFS c) (s.reg (Reg.PG_APHOFS c))
  let s := s.each [(Reg.PG_SCMPA c, Reg.PG_ACMPA c), (Reg.PG_SCMPB c, Reg.PG_ACMPB c), (Reg.PG_SCMPC c, Reg.PG_ACMPC c),
      (Reg.PG_SCMPD c, Reg.PG_ACMPD c), (Reg.PG_SPHOFS c, Reg.PG_APHOFS c), (Reg.PG_SCTL c, Reg.PG_ACTL c)]
    fun s p => s.setReg p.2 (s.regBefore p.1)
  s.when (old == 1 && s.fld (F.PG_ACTL_SRC c) == 0) (·.setQueue c [])

/-! ### Isolation, safe commands, the STO gate -/

/-- The causes of `PG_STAT.ISOC`. -/
def isoOcMiss : Nat := 1
def isoForced : Nat := 2
def isoGuard : Nat := 3
def isoLink : Nat := 4
def isoProt : Nat := 5
def isoNeg : Nat := 6

/-- The bit of a channel in `PG_ISO0` or `PG_ISO1`. -/
def State.setIsoBit (s : State) (c : Nat) (b : Bool) : State :=
  if c < 32 then s.setBit F.PG_ISO0_ISOV c b else s.setBit F.PG_ISO1_ISOV (c - 32) b

/-- Isolation of a channel (R330, R333). -/
def State.pgIsolate (s : State) (c cause : Nat) : State :=
  if s.flag (F.PG_STAT_ISO c) then s
  else
    let s := ((s.setFlag (F.PG_STAT_ISO c) true).setFld (F.PG_STAT_ISOC c) cause).setIsoBit c true
    (s.raise Ev.PG_ISO (s.pgConv c) c).pgApply c

/-- A re-arm of an isolated channel (R334). -/
def State.pgRearm (s : State) (c : Nat) : State :=
  let s := ((s.setFlag (F.PG_STAT_ISO c) false).setFld (F.PG_STAT_ISOC c) 0).setIsoBit c false
  s.pgApply c

/-- The fields of a converter in `PG_SAFE`. -/
def F.safeCmd (k : Nat) : Fld := ⟨Reg.PG_SAFE, 4 * k, 2⟩
def F.safePend (k : Nat) : Fld := ⟨Reg.PG_SAFE, 4 * k + 2, 1⟩

/-- The enabled channels of a converter. -/
def State.pgsOf (s : State) (k : Nat) : List Nat :=
  (List.range 40).filter fun c => s.flag (F.PG_CFG_EN c) && s.pgConv c == k

/-- A safe command of a converter takes effect on its channels (R335). -/
def State.setSafe (s : State) (k cmd : Nat) : State :=
  let s := s.setFld (F.safeCmd k) cmd
  s.each ((s.pgsOf k).filter fun c => !s.flag (F.PG_CFG_SUMP c)) fun s c =>
    (s.setFld (F.PG_STAT_SAFEC c) cmd).pgApply c

/-- The STO gate follows the internal STO request (R338). DESIGN CHOICE, unsafe (log entry 20). -/
def State.stoGate (s : State) (on : Bool) : State :=
  let s := s.setFlag F.PG_STOSTAT_STOREQ on
  s.each ((List.range 40).filter s.stoMasked) fun s c => (s.setFlag (F.PG_STAT_STOG c) on).pgApply c

/-! ### Dead time -/

/-- The dead time of an output in steps (R321). -/
def State.deadTime (s : State) (c : Nat) (low : Bool) : Nat :=
  max (if low then s.fld (F.PG_DTF_DTF c) else s.fld (F.PG_DTR_DTR c)) (s.fld (F.PG_DTFLOOR_DTFLOOR c))

/-- The step time at which a waiting turn-on appears: the latest of the three times of R321. Under a safe command only the second
and the third count (R336). -/
def State.turnOnTime (s : State) (c : Nat) (low : Bool) : Nat :=
  let y := s.pgOut c (!low)
  let base := max (y.offAt + s.deadTime c low) ((y.ocAt + 2) * stepsPerCycle)
  if s.pgSafe c != 0 then base else max (s.pgOut c low).req base

/-- The conditions of R321 on the complement: it is deasserted at its pin and its off-confirm is recognised as asserted. -/
def State.complOff (s : State) (c : Nat) (low : Bool) : Bool := !s.flag (pinF c (!low)) && s.flag (ocF c (!low))

/-- A requested turn-on appears at its pin (R321, R322, R336, R339, R600), when its time has come. DESIGN CHOICE, unsafe (log entry 3). -/
def State.turnOn (s : State) (c : Nat) (low : Bool) : State :=
  if !(s.flag (pendF c low) && s.pgWant c low) || s.flag (pinF c low) || s.withheld c then s
  else
    let indep := s.pgMode c == pgIndep
    let t := if indep then (s.pgOut c low).req else s.turnOnTime c low
    if (indep || s.complOff c low) && t / stepsPerCycle ≤ s.now then s.pinOn c low (max t (s.now * stepsPerCycle)) else s

/-- The cycles in which the pins of a channel change by themselves: turn-offs on their way (R308), and turn-ons (R303,
R321). -/
def State.pinAt (s : State) (c : Nat) : List Nat :=
  [false, true].flatMap fun low =>
    let o := s.pgOut c low
    (o.offDue.map (· / stepsPerCycle)).toList
      ++ (if s.flag (pendF c low) && s.pgWant c low && !s.flag (pinF c low) && !s.withheld c then
            if s.pgMode c == pgIndep then [o.req / stepsPerCycle]
            else if s.complOff c low then [s.turnOnTime c low / stepsPerCycle] else []
          else [])

/-- The pins of a channel change that are due in this cycle. -/
def State.pinDo (s : State) (c : Nat) : State :=
  s.each [false, true] fun s low =>
    let s := match (s.pgOut c low).offDue with
      | some t =>
        if t / stepsPerCycle ≤ s.now then
          let w := s.flag (pendF c low)
          (s.pinOff c low t).setFlag (pendF c low) w
        else s
      | none => s
    s.when (s.pgMode c == pgIndep) (·.turnOn c low)

/-- What ends a cycle at the pins: the turn-ons that are due and that no command has placed (R321, R336, R600). -/
def State.turnOns (s : State) : State := s.each (List.range 40) fun s c => (s.turnOn c false).turnOn c true

/-- Entry into READY or AXLE_SAFE from TEST: the deassertion times of R879 start, and the channels begin to follow their reference
states. -/
def State.pgStart (s : State) : State :=
  s.each (List.range 40) fun s c =>
    s.when (s.flag (F.PG_CFG_EN c)) fun s =>
      (s.modPg c fun p =>
        { p with hi := { p.hi with offAt := s.now * stepsPerCycle }, lo := { p.lo with offAt := s.now * stepsPerCycle } }).pgEval c

/-- Every output deasserted, as in reset and in DEFAULTS (R372). -/
def State.pgAllOff (s : State) : State := s.each (List.range 40) fun s c => s.pgApply c

end Sys2Proof.Machine
end

