-- ==== Sys2Proof/Machine/Schedule.lean ====
section
/-! DEFINITION. What several blocks read of the schedules, of the conversion results and of the measurement ports. -/

namespace Sys2Proof.Machine

/-- The action codes of a schedule entry (R79). -/
def actSeq : Nat := 1
def actWinOpen : Nat := 2
def actWinClose : Nat := 3
def actLoop : Nat := 4
def actOut : Nat := 5
def actEvent : Nat := 6
def actStrobe : Nat := 7
def actMark : Nat := 8
def actProfile : Nat := 9
def actSnap : Nat := 10

/-- The schedule descriptors that track `t` can run: the active one, the pending one, and those that variants, hand-overs and supply entries
name (R620, R791, R793). -/
def State.trackDescs (s : State) (t : Nat) : List Nat :=
  [s.fld (F.DL_TRK_SCHED_ACTIVE t)] ++ (if s.flag (F.DL_TRK_SCHED_PVALID t) then [s.fld (F.DL_TRK_SCHED_PEND t)] else [])
    ++ ((s.sc.cvars.flatMap (·.trks)) ++ s.sc.hand.flatMap (·.trks)).filterMap fun p => if p.1 == t then some p.2 else none

/-- Whether some entry of a schedule that track `t` can run satisfies `p`. -/
def State.schedAny (s : State) (t : Nat) (p : Entry → Bool) : Bool :=
  (s.trackDescs t).any fun d =>
    let w := s.peek32 (descAddr d)
    (List.range (descCount w)).any fun i => p (s.entry (descFirst w + i))

/-- The converters of the enabled tracks that can run an entry which satisfies `p`. -/
def State.schedConvs (s : State) (p : Entry → Bool) : List Nat :=
  sortNat (((List.range 32).filter fun t => s.flag (F.DL_TRK_CFG_EN t) && s.schedAny t p).map s.trkConv)

/-- The converters that own a sequence on converter `n` of the conversion subsystem, or its fitter (R157, R201). -/
def State.adcConvs (s : State) (n : Nat) : List Nat :=
  s.schedConvs fun e => (e.action == actSeq || e.action == actWinOpen) && bitOf e.target n

/-- The converter of a fitter, for its events. -/
def State.fitConv (s : State) (f : Nat) : Nat := (s.adcConvs f).headD axle

/-- The bank of an entry's result that was written most recently. -/
def State.recentBank (s : State) (n e : Nat) : Nat := b2n ((vget s.adcs n Adc.reset).bank1.contains e)

/-- The value of the most recent result of an entry, and whether it is good: `VALID` set, and `CLIP`, `OPEN`, `XERR` and `PERR`
clear (R378). -/
def State.recentRes (s : State) (n e : Nat) : Int × Bool :=
  let b := s.recentBank n e
  (s.sreg (Reg.ADC_RESV n b e), s.flag (F.ADC_RESC_VALID n b e) && !s.flag (F.ADC_RESC_CLIP n b e)
    && !s.flag (F.ADC_RESC_OPEN n b e) && !s.flag (F.ADC_RESC_XERR n b e) && !s.flag (F.ADC_RESC_PERR n b e))

/-- A predicted angle `k` cycles ahead (R55). -/
def State.predict (s : State) (d k : Nat) : Word := angleOf ((s.dom d).acc + BitVec.ofNat 48 k * (s.dom d).rate)

/-- A measurement written to the measurement port of a domain (R240, source code 0x40). -/
def State.portMeasure (s : State) (d : Nat) (th : Word) (age : Nat) : State :=
  s.when ((s.domsOf 0x40).contains d) (·.measure d th age true)

/-- A delivery with the effect of an `OUT`-stage write to the measurement port (R240, R411). -/
def State.portDeliver (s : State) (d : Nat) (th : Word) (age : Nat) : State :=
  let a := 0x010400 + 8 * d
  ((s.setReg a th).setReg (a + 4) (BitVec.ofNat 32 (age % 4096))).portMeasure d th age

/-- The distance from angle `a` to angle `b` in the direction of travel, 0 to 2³² − 1. -/
def aheadN (rev : Bool) (a b : Word) : Nat := if rev then (a - b).toNat else (b - a).toNat
/-- The same as a signed difference. -/
def aheadI (rev : Bool) (a b : Word) : Int := if rev then angDiff a b else angDiff b a

end Sys2Proof.Machine
end

