-- ==== Sys2Proof/Machine/Modulation.lean ====
section
/-! DEFINITION. The traction modulators and Drapery (R375 to R415). -/

namespace Sys2Proof.Machine

def State.tm (s : State) (m : Nat) : Tm := vget s.tms m Tm.reset
def State.modTm (s : State) (m : Nat) (f : Tm → Tm) : State := { s with tms := vmod s.tms m f }
def State.tmSet (s : State) (m k : Nat) : TmSet := if k == 0 then (s.tm m).set0 else (s.tm m).set1
def State.modSet (s : State) (m k : Nat) (f : TmSet → TmSet) : State :=
  s.modTm m fun x => if k == 0 then { x with set0 := f x.set0 } else { x with set1 := f x.set1 }

/-- The codes of `TM_STAT.MODE`. -/
def tmOff : Nat := 0
def tmCarrier : Nat := 1
def tmDrapery : Nat := 2
def State.tmMode (s : State) (m : Nat) : Nat := s.fld (F.TM_STAT_MODE m)
def State.tmEnabled (s : State) (m : Nat) : Bool := s.flag (F.TM_CFG_EN m)
def State.tmRdom (s : State) (m : Nat) : Nat := s.fld (F.TM_CFG_RDOM m)
def State.tmRev (s : State) (m : Nat) : Bool := s.flag (F.AD_STAT_DIR (s.tmRdom m))
/-- The channels of a set, phase U first (R375). -/
def State.tmChs (s : State) (m k : Nat) : List Nat :=
  [s.fld (F.TM_SCFG_PGU m k), s.fld (F.TM_SCFG_PGV m k), s.fld (F.TM_SCFG_PGW m k)]
/-- The sets that a modulator drives. -/
def State.tmSets (s : State) (m : Nat) : List Nat :=
  [0, 1].filter fun k => s.flag (F.TM_SCFG_EN m k) && (s.tmSet m k).on

def State.raiseTm (s : State) (e : Ev.Src) (m : Nat) : State := s.raise e m m

/-- Sets a flag of the modulator and raises its event when the flag was 0. -/
def State.tmFlag (s : State) (f : Fld) (e : Ev.Src) (m : Nat) : State :=
  (s.when (!s.flag f) (·.raiseTm e m)).setFlag f true

/-! ### Carrier modulation -/

/-- V of R378. -/
def State.tmV (s : State) (m : Nat) : Int × State :=
  let (v, good) := s.recentRes (s.fld (F.TM_CFG_VCONV m)) (s.fld (F.TM_CFG_VENT m))
  let vmin := s.sreg (Reg.TM_VMIN m)
  let s := if good then s.modTm m fun x => { x with vGood := some v } else s.tmFlag (F.TM_FLAG_VDCBAD m) Ev.TM_VDCBAD m
  let u := match (s.tm m).vGood with | some g => max g vmin | none => vmin
  (u, s.setReg (Reg.TM_VDCU m) (wordOf u))

/-- C of R379 over the channels `chs`: the clean window of the fitters of converter `k`, and the longest dead time of the channels. -/
def State.cleanOf (s : State) (k : Nat) (chs : List Nat) : Nat :=
  let fits := (List.range 6).filter fun f => s.flag (F.FIT_CFG_EN f) && (s.adcConvs f).contains k
  let tclean := (fits.map fun f => s.fld (F.FIT_TIME_SETTLE f) + 20 * s.fld (F.FIT_TIME_NMIN f)).foldl max 0
  let d := (chs.map fun c =>
    max (s.fld (F.PG_DTFLOOR_DTFLOOR c)) (max (s.fld (F.PG_DTR_DTR c)) (s.fld (F.PG_DTF_DTF c)))).foldl max 0
  tclean + (d + 63) / 64 + 2

/-- C of a set. -/
def State.tmClean (s : State) (m k : Nat) : Nat := s.cleanOf m (s.tmChs m k)

/-- sign(v) × floor((|v| × a + floor(b ÷ 2)) ÷ b). -/
def ratioSgn (v a b : Int) : Int := sgn v * ((v.natAbs : Int) * a + b / 2).fdiv b

/-- The half-on-times less 2³⁰ of R379 over the doubled phase voltages `us`, limited to `glim`, and whether the depth was limited. -/
def depthsOf (us : List Int) (v glim : Int) : List Int × Bool :=
  let hi := us.foldl max (us.headD 0)
  let lo := us.foldl min (us.headD 0)
  let gs := us.map fun u => ratioSgn (2 * u - hi - lo) (2 ^ 29) v
  let gmax := gs.foldl (fun x g => max x (g.natAbs : Int)) 0
  let lim := decide (gmax > glim)
  (if lim then gs.map fun g => ratioSgn g glim gmax else gs, lim)

/-- The doubled phase voltages of R379. -/
def phaseVolts (ua ub : Int) : List Int :=
  let t := rnd (ub * 0x6ED9EBA1) 30
  [2 * ua, -ua + t, -ua - t]

/-- The compare angles of R379. -/
def anglesOf (us : List Int) (v a : Int) : List (Word × Word) × Bool :=
  let (gs, lim) := depthsOf us v (max 0 ((2 ^ 31 - a) / 2))
  (gs.map fun g => let h := 2 ^ 30 + g; (wordOf (0x80000000 - h), wordOf (0x80000000 + h)), lim)

/-- R379 for three phases. -/
def carrierAngles (ua ub v : Int) (a : Int) : List (Word × Word) × Bool := anglesOf (phaseVolts ua ub) v a

/-- Compare angles that R379 does not give. -/
def State.freeAngles (s : State) : List (Word × Word) × State :=
  ([0, 2, 4].map fun i => (Config.freeWord (s.freeCtr + i), Config.freeWord (s.freeCtr + i + 1)), { s with freeCtr := s.freeCtr + 6 })

/-- The carrier computation of a set from its latest references (R379, R381). For V = 0, to which a `TM_VMIN` of 0 can lead, R379 divides by 0, and
the angles and the limit are free. DESIGN CHOICE, safe (log entry 49). -/
def State.tmCarrierCalc (s : State) (m k : Nat) (v : Int) : List (Word × Word) × State :=
  let a : Int := s.tmClean m k * ((s.rate (s.fld (F.TM_CFG_CDOM m))) / 65536)
  let (cs, lim, s) :=
    if v = 0 then
      let (w, s) := s.free
      let (cs, s) := s.freeAngles
      (cs, w.getLsbD 0, s)
    else
      let (cs, lim) := carrierAngles (s.sreg (Reg.TM_UA m k)) (s.sreg (Reg.TM_UB m k)) v a
      (cs, lim, s)
  let s := if lim then
      let was := s.flag (F.TM_SSTAT_LIM m k)
      let s := ((s.setFlag (F.TM_FLAG_LIM m) true).setFlag (F.TM_SSTAT_LIM m k) true).incSat (F.TM_CNT_LIM_CNT m)
      s.when (!was) (·.raiseTm Ev.TM_LIM m)
    else s.setFlag (F.TM_SSTAT_LIM m k) false
  (cs, s)

/-- The shadows of a carrier computation (R380). -/
def State.tmCarrierShadows (s : State) (m k : Nat) (cs : List (Word × Word)) : State :=
  s.each ((s.tmChs m k).zip cs) fun s p =>
    (((s.setRegNoted (Reg.PG_SCMPA p.1) p.2.1).setRegNoted (Reg.PG_SCMPB p.1) p.2.2).setRegNoted (Reg.PG_SPHOFS p.1) (s.reg (Reg.TM_SPH m k))).setRegNoted
      (Reg.PG_SCTL p.1) 0

/-! ### Magnitude and angle -/

/-- M of R382. -/
def modIndex (ua ub v : Int) : Nat :=
  let mag := isqrt (ua * ua + ub * ub).toNat
  min 0x10000 (((mag : Int) * 102944 + v / 2).fdiv v).toNat

/-- M of R382; for V = 0, where R382 divides by 0, a free value. DESIGN CHOICE, safe (log entry 49). -/
def State.tmIndex (s : State) (ua ub v : Int) : Nat × State :=
  if v = 0 then
    let (w, s) := s.free
    (min 0x10000 w.toNat, s)
  else (modIndex ua ub v, s)

/-- ATN[i] of R383: round(atan(2⁻ⁱ) × 2³² ÷ 2π). -/
def atnTable : List Nat :=
  [0x20000000, 0x12E4051E, 0x09FB385B, 0x051111D4, 0x028B0D43, 0x0145D7E1, 0x00A2F61E, 0x00517C55, 0x0028BE53,
   0x00145F2F, 0x000A2F98, 0x000517CC, 0x00028BE6, 0x000145F3, 0x0000A2FA, 0x0000517D, 0x000028BE, 0x0000145F,
   0x00000A30, 0x00000518, 0x0000028C, 0x00000146, 0x000000A3, 0x00000051]

/-- One step of the vectoring of R383; >> rounds toward minus infinity. -/
def vectorStep (p : Int × Int × Int) (i : Nat × Nat) : Int × Int × Int :=
  let (x, y, a) := p
  if 0 ≤ y then (x + y / 2 ^ i.1, y - x / 2 ^ i.1, a + i.2) else (x - y / 2 ^ i.1, y + x / 2 ^ i.1, a - i.2)

/-- The voltage angle φ (R383). -/
def vectorAngle (ua ub : Int) : Word :=
  let start : Int × Int × Int := if ua < 0 then (-ua, -ub, 0x80000000) else (ua, ub, 0)
  wordOf (((List.range 24).zip atnTable).foldl vectorStep start).2.2

/-- The cycles from a reference write to the carrier write, and to the Drapery values (R377). -/
def carrierLag : Nat := 24
def draperyLag : Nat := 40

/-- A computation of a set, from its references at the end of cycle w, in which one of them was written (R377 to R384). -/
def State.tmCompute (s : State) (m k : Nat) : State :=
  if s.tmMode m == tmOff || !(s.tmSets m).contains k then s
  else
    let (v, s) := s.tmV m
    let ua := s.sreg (Reg.TM_UA m k)
    let ub := s.sreg (Reg.TM_UB m k)
    let s := if s.tmMode m == tmCarrier then
        let (cs, s) := s.tmCarrierCalc m k v
        s.modSet m k fun x => { x with carrier := x.carrier ++ [(s.now + carrierLag, cs)] }
      else s
    let thp := s.predict (s.tmRdom m) (s.fld (F.TM_KPRED_KPRED m k))
    let delta := vectorAngle ua ub - thp + s.reg (Reg.TM_FOFS m k)
    let (mi, s) := s.tmIndex ua ub v
    s.modSet m k fun x => { x with drapery := x.drapery ++ [(s.now + draperyLag, mi, delta, decide (ua ≠ 0 ∨ ub ≠ 0))] }

/-- A reference of a set is written in this cycle, at whose end the set is computed (R377). -/
def State.tmWant (s : State) (m k : Nat) : State := s.modSet m k fun x => { x with want := true }

/-- The end of a cycle: the sets whose references were written in it are computed (R377). -/
def State.tmComputes (s : State) : State :=
  s.each [(0, 0), (0, 1), (1, 0), (1, 1)] fun s p =>
    s.when (s.tmSet p.1 p.2).want fun s => (s.modSet p.1 p.2 fun x => { x with want := false }).tmCompute p.1 p.2

/-- In cycle w + 24 the carrier results of the oldest computation reach the shadows (R380). -/
def State.tmCarrierWrite (s : State) (m k : Nat) : State :=
  match (s.tmSet m k).carrier with
  | [] => s
  | (due, cs) :: rest =>
    if s.now < due then s
    else
      let s := s.modSet m k fun x => { x with carrier := rest }
      s.when (s.tmMode m == tmCarrier && (s.tmSets m).contains k) (·.tmCarrierShadows m k cs)

/-! ### Pattern tables -/

def State.tmDir (s : State) (m ofs : Nat) : Nat := tabA + s.fld (F.TM_DBASE_DBASE m) + ofs
def State.tmWord (s : State) (m ofs : Nat) : Nat := (s.peek32 (s.tmDir m ofs)).toNat

/-- The slot descriptor (R385): `NPT`, offset of the first point record, `RLO`, `RHI`, offset of the transition table. -/
def State.slotNpt (s : State) (m n : Nat) : Nat := bitsOf (s.tmWord m ((n - 1) * 16)) 16 10
def State.slotFirst (s : State) (m n : Nat) : Nat := bitsOf (s.tmWord m ((n - 1) * 16 + 4)) 0 24
def State.slotRlo (s : State) (m n : Nat) : Nat := bitsOf (s.tmWord m ((n - 1) * 16 + 8)) 16 16
def State.slotRhi (s : State) (m n : Nat) : Nat := bitsOf (s.tmWord m ((n - 1) * 16 + 8)) 0 16
def State.slotTrans (s : State) (m n : Nat) : Nat := bitsOf (s.tmWord m ((n - 1) * 16 + 12)) 0 24
def State.slotPresent (s : State) (m n : Nat) : Bool := 1 ≤ n && n ≤ 15 && s.slotNpt m n != 0
def State.slots (s : State) (m : Nat) : List Nat := ((List.range 16).filter (s.slotPresent m ·))

/-- Offset of point record `i` of slot `n`. -/
def State.pointOfs (s : State) (m n i : Nat) : Nat := s.slotFirst m n + i * (8 + 4 * n)
def State.pointM (s : State) (m n i : Nat) : Nat := bitsOf (s.tmWord m (s.pointOfs m n i)) 0 17
/-- M of the last point of a slot. -/
def State.slotMlast (s : State) (m n : Nat) : Nat := s.pointM m n (s.slotNpt m n - 1)
/-- The point i of R386. -/
def State.pointFor (s : State) (m n mi : Nat) : Nat :=
  ((List.range (s.slotNpt m n)).filter fun i => i == 0 || s.pointM m n i ≤ mi).foldl max 0

/-- A read error of the modulator (R415). -/
def State.tmRdErr (s : State) (m : Nat) : State := (s.setFlag (F.TM_FLAG_RDERR m) true).raiseTm Ev.TM_RDERR m

/-- The angles of slot `n` for index `mi` (R386); after a bus error the last angles of the slot (R415). -/
def State.tmAngles (s : State) (m k n mi : Nat) : List Word × State :=
  let i := s.pointFor m n mi
  let kept := ((s.tmSet m k).angs.find? fun p => p.1 == n).map Prod.snd |>.getD []
  let keep (l : List Word) (s : State) : List Word × State :=
    (l, s.modSet m k fun x => { x with angs := (n, l) :: x.angs.filter fun p => p.1 != n })
  match s.readWords reqDripline (s.tmDir m (s.pointOfs m n i)) (2 + n) with
  | (none, s) => (kept, s.tmRdErr m)
  | (some ws, s) =>
    let w0 := (ws.headD 0).toNat
    let as_ := ws.drop 2
    if bitOf w0 31 && i + 1 < s.slotNpt m n then
      match s.readWords reqDripline (s.tmDir m (s.pointOfs m n (i + 1))) (2 + n) with
      | (none, s) => (kept, s.tmRdErr m)
      | (some vs, s) =>
        let m0 := bitsOf w0 0 17
        let m1 := bitsOf (vs.headD 0).toNat 0 17
        let r : Int := (max mi m0 - m0) * 65536 / (m1 - m0)
        keep ((as_.zip (vs.drop 2)).map fun p => wordOf (p.1.toNat + ((p.2.toNat : Int) - p.1.toNat) * r / 65536)) s
    else keep as_ s

/-- The edges of one fundamental period, ascending (R387). -/
def patEdges (as_ : List Word) : List Nat :=
  let all : List Nat := [0, 2 ^ 31] ++ as_.flatMap fun a => [a.toNat, (0x80000000#32 - a).toNat, (0x80000000#32 + a).toNat, (0 - a).toNat]
  sortNat (all.filter fun e => (all.filter (· == e)).length % 2 == 1)

/-- The state of a leg at a coordinate (R387). -/
def patState (as_ : List Word) (x : Word) : Bool :=
  let s0 := as_.headD 1 == 0
  let n := ((patEdges as_).filter fun e => 0 < e && e ≤ x.toNat).length
  if n % 2 == 1 then !s0 else s0

/-- OFF_p of the pattern coordinate. -/
def offP (p : Nat) : Word := if p == 0 then 0 else if p == 1 then 0x55555555#32 else 0xAAAAAAAB#32

/-- The rotor angle of coordinate `x` of phase `p`, by the placement in force (R388). -/
def State.rotorOf (s : State) (m k p : Nat) (x : Word) : Word :=
  x + s.reg (Reg.TM_FOFS m k) - s.reg (Reg.TM_SDELTA m k) - 0x40000000#32 + offP p
/-- The coordinate of phase `p` at a rotor angle. -/
def State.coordOf (s : State) (m k p : Nat) (th : Word) : Word :=
  th - s.reg (Reg.TM_FOFS m k) + s.reg (Reg.TM_SDELTA m k) + 0x40000000#32 - offP p

/-- The edges of a pattern for phase `p`: rotor angle, and the state that the queue item carries (R388, R392).
DEDUCED, unsafe (log entry 35). -/
def State.phaseEdges (s : State) (m k p : Nat) (as_ : List Word) : List (Word × Bool) :=
  let rev := s.tmRev m
  (patEdges as_).map fun e =>
    let x := BitVec.ofNat 32 e
    (s.rotorOf m k p x, if rev then !patState as_ x else patState as_ x)

/-! ### Filling the queues -/

/-- An edge ahead of a phase's mark: its distance past the mark, its rotor angle, the state of its item, and whether it is a merged edge of a
transition, which no horizon holds back (R406). -/
structure TmEdge where
  d  : Int
  x  : Word
  st : Bool
  win : Bool
  deriving DecidableEq, Repr

/-- An edge among edges in ascending order of their distance. -/
def insertEdge (e : TmEdge) : List TmEdge → List TmEdge
  | [] => [e]
  | f :: l => if e.d ≤ f.d then e :: f :: l else f :: insertEdge e l

def sortEdges (l : List TmEdge) : List TmEdge := l.foldr insertEdge []

/-- What filling takes of a phase's edges: the item to push with its distance past the mark, the number of edges taken, and the last one taken. -/
structure TmPick where
  item : Option (Int × Word × Bool)
  used : Nat
  at_  : Option TmEdge
  deriving DecidableEq, Repr

/-- The next item of a phase under R390 and R391: the edges ahead in order, `limit` the farthest distance that filling may go, `since` the distance
from the last item to the mark. -/
def pickEdge (rev : Bool) (minp : Nat) (since limit : Int) (last : Option (Word × Bool)) : List TmEdge → TmPick → TmPick
  | [], k => k
  | [e], k =>
    if !e.win && decide (limit < e.d) then k
    else
      let k := { k with used := k.used + 1, at_ := some e }
      match last with
      | none => { k with item := some (e.d, e.x, e.st) }
      | some (lx, lst) =>
        if e.st == lst then k
        else if (minp : Int) ≤ e.d + since then { k with item := some (e.d, e.x, e.st) }
        else { k with item := some (minp - since, if rev then lx - BitVec.ofNat 32 minp else lx + BitVec.ofNat 32 minp, e.st) }
  | e :: f :: rest, k =>
    if !e.win && decide (limit < e.d) then k
    else
      let k1 := { k with used := k.used + 1, at_ := some e }
      match last with
      | none => { k1 with item := some (e.d, e.x, e.st) }
      | some (lx, lst) =>
        if e.st == lst then pickEdge rev minp since limit last (f :: rest) k1
        else if (minp : Int) ≤ e.d + since then { k1 with item := some (e.d, e.x, e.st) }
        else if (minp : Int) - since < f.d then
          { k1 with item := some (minp - since, if rev then lx - BitVec.ofNat 32 minp else lx + BitVec.ofNat 32 minp, e.st) }
        else pickEdge rev minp since limit last rest { k with used := k.used + 2, at_ := some f }

def State.tmPh (s : State) (m k p : Nat) : TmPh := (s.tmSet m k).phs.getD p TmPh.reset
def State.modPh (s : State) (m k p : Nat) (f : TmPh → TmPh) : State :=
  s.modSet m k fun x => { x with phs := x.phs.modify p f }
/-- θ of a modulator. -/
def State.tmTheta (s : State) (m : Nat) : Word := s.angle (s.tmRdom m)

/-- A phase whose mark no longer lies ahead of θ goes on from θ: only edges ahead of θ are pushed (R389). -/
def TmPh.catch_ (h : TmPh) (rev : Bool) (th : Word) : TmPh :=
  let a := aheadN rev th h.mark
  if a < 2 ^ 31 then h else { h with mark := th, incl := false, since := h.since + (2 ^ 32 - a : Nat) }

def State.tmCatch (s : State) (m : Nat) : State :=
  s.each (s.tmSets m) fun s k =>
    s.modSet m k fun x => { x with phs := x.phs.map fun h => h.catch_ (s.tmRev m) (s.tmTheta m) }

/-- The modulator pushes an item to a phase's channel (R313), the one item of this cycle (R389). -/
def State.tmPush (s : State) (m k p : Nat) (x : Word) (st : Bool) : State :=
  let c := (s.tmChs m k).getD p 0
  let s := (s.setReg (Reg.PG_EQA c) x).setReg (Reg.PG_EQS c) (BitVec.ofNat 32 (b2n st))
  ((s.eqPush c ⟨x, st, false⟩).modPh m k p fun y => { y with last := some (x, st) }).mark .tmPush m

/-- MINP of R391. -/
def State.tmMinp (s : State) (m : Nat) : Nat :=
  s.fld (F.TM_MINP_MINPT m) * ((s.rate (s.tmRdom m)) / 65536).natAbs

/-- The horizon as an angle. -/
def State.tmHor (s : State) (m : Nat) : Nat := s.fld (F.TM_MINP_HOR m) * 65536

/-- The rotor angles at which θ enters and leaves the window of a transition (R404, R407). With a reverse rotor θ enters the window at the other
end. DEDUCED, unsafe (log entry 35). -/
def State.xEdge (s : State) (m k : Nat) (upper : Bool) (x : Word) (w : Nat) : Word :=
  s.rotorOf m k 0 (if upper then x + BitVec.ofNat 32 (w * 65536) else x - BitVec.ofNat 32 (w * 65536))
def State.xStart (s : State) (m k : Nat) : Word := s.xEdge m k (s.tmRev m) (s.reg (Reg.TM_SX m k)) (s.tmSet m k).xw
def State.xEnd (s : State) (m k : Nat) : Word := s.xEdge m k (!s.tmRev m) (s.reg (Reg.TM_SX m k)) (s.tmSet m k).xw

/-- How far past a phase's mark filling may go: the horizon ahead of θ, and a committed window start (R389, R404). -/
def State.fillLimit (s : State) (m k p : Nat) : Int :=
  let rev := s.tmRev m
  let a : Int := aheadN rev (s.tmTheta m) (s.tmPh m k p).mark
  let lim : Int := (s.tmHor m : Int) - a
  if s.flag (F.TM_SSTAT_XPEND m k) && !(s.tmSet m k).merged then
    min lim (aheadI rev (s.tmTheta m) (s.xStart m k) - a - b2n (!rev)) else lim

/-- The edges ahead of a phase's mark: its merged edges, then those of the slot that filling uses. -/
def State.tmAhead (s : State) (m k p : Nat) (as_ : List Word) : List TmEdge :=
  let rev := s.tmRev m
  let h := s.tmPh m k p
  h.merge.map (fun e => ⟨-(aheadN rev e.1 h.mark : Int), e.1, e.2, true⟩) ++
    sortEdges ((s.phaseEdges m k p as_).map fun e =>
      let d := aheadN rev h.mark e.1
      ⟨if d = 0 && !h.incl then 2 ^ 32 else d, e.1, e.2, false⟩)

/-- What filling takes next of a phase, with the placement of this cycle (R389 to R391). -/
def State.tmPick (s : State) (m k p : Nat) : TmPick × State :=
  let (as_, s) := s.tmAngles m k (s.tmSet m k).fill (s.fld (F.TM_SM_M m k))
  let h := s.tmPh m k p
  (pickEdge (s.tmRev m) (s.tmMinp m) h.since (s.fillLimit m k p) h.last (s.tmAhead m k p as_) ⟨none, 0, none⟩, s)

/-- The edges taken leave the phase, and the item is pushed. -/
def State.tmTake (s : State) (m k p : Nat) (t : TmPick) : State :=
  let n := (s.tmPh m k p).merge.length
  let moved : Option TmEdge := if n < t.used then t.at_ else none
  let base : Int := (moved.map (·.d)).getD 0
  let s := s.modPh m k p fun h =>
    { h with merge := h.merge.drop t.used, mark := (moved.map (·.x)).getD h.mark, incl := h.incl && moved.isNone,
             since := match t.item with
               | some (pos, _, _) => base - pos
               | none => h.since + base }
  match t.item with
  | some (_, x, st) => s.tmPush m k p x st
  | none => s

/-- The sets and phases of a modulator, in order. -/
def State.tmPhases (s : State) (m : Nat) : List (Nat × Nat) := (s.tmSets m).flatMap fun k => [(k, 0), (k, 1), (k, 2)]

/-- The phase among `l` whose next item θ reaches first (R389). -/
def State.tmFirst (s : State) (m : Nat) (l : List (Nat × Nat)) : Option (Nat × Nat) :=
  (l.foldl (fun (b : Option (Int × Nat × Nat)) q =>
    match (s.tmPick m q.1 q.2).1.item with
    | none => b
    | some (pos, _, _) =>
      let d : Int := aheadN (s.tmRev m) (s.tmTheta m) (s.tmPh m q.1 q.2).mark + pos
      match b with
      | some (d0, _) => if d < d0 then some (d, q) else b
      | none => some (d, q)) none).map (·.2)

/-- The phases that wait with the item of a restart, or with merged edges. -/
def State.tmStarts (s : State) (m : Nat) : List (Nat × Nat) := (s.tmPhases m).filter fun q => (s.tmPh m q.1 q.2).start.isSome
def State.tmMerges (s : State) (m : Nat) : List (Nat × Nat) := (s.tmPhases m).filter fun q => (s.tmPh m q.1 q.2).merge != []

/-- One item of a restart or of a merge is pushed, when none has been pushed in this cycle (R389, R393, R406). -/
def State.tmDrain (s : State) (m : Nat) : State :=
  if s.justNow .tmPush m then s
  else
    match s.tmStarts m with
    | (k, p) :: _ =>
      match (s.tmPh m k p).start with
      | some (x, st) => (s.modPh m k p fun h => { h with start := none }).tmPush m k p x st
      | none => s
    | [] =>
      let s := s.each (s.tmMerges m) fun s q =>
        let t := (s.tmPick m q.1 q.2).1
        s.when t.item.isNone (·.tmTake m q.1 q.2 t)
      match s.tmFirst m (s.tmMerges m) with
      | some (k, p) =>
        let (t, s) := s.tmPick m k p
        s.tmTake m k p t
      | none => s

/-- Items wait that the modulator pushes in the following cycles. -/
def State.tmWaits (s : State) (m : Nat) : Bool := s.tmStarts m != [] || s.tmMerges m != []

/-- The modulator pushes the next pattern edge of a phase, when θ will reach it before the next edge of every other phase; at most one item per
cycle, and none while items of a restart or of a merge wait (R388 to R392).
DEDUCED, unsafe (log entry 35). -/
def State.tmFill (s : State) (m k p : Nat) : State :=
  let s := s.tmCatch m
  if s.tmMode m != tmDrapery || s.justNow .tmPush m || s.tmWaits m
      || s.tmFirst m ((s.tmPhases m).filter fun q => s.slotPresent m (s.tmSet m q.1).fill) != some (k, p) then s
  else
    let (t, s) := s.tmPick m k p
    s.tmTake m k p t

/-- A restart of a set with lead `lead` (R393). The items of the three phases are pushed in this cycle and those that follow (R389). -/
def State.tmRestart (s : State) (m k lead : Nat) : State :=
  let n := (s.tmSet m k).fill
  let (as_, s) := s.tmAngles m k n (s.fld (F.TM_SM_M m k))
  let th := s.predict (s.tmRdom m) lead
  let s := s.each [0, 1, 2] fun s p =>
    (s.setQueue ((s.tmChs m k).getD p 0) []).modPh m k p fun _ =>
      ⟨th, false, 0, none, some (th, patState as_ (s.coordOf m k p th)), []⟩
  s.tmDrain m

/-! ### Transitions -/

/-- The next present slot from `n` in the direction of the target (R403). -/
def State.stepSlot (s : State) (m n target : Nat) : Nat :=
  let l := s.slots m
  if n < target then (l.find? fun x => n < x).getD n else ((l.filter fun x => x < n).getLast?).getD n

/-- Commits a transition toward the target slot (R404, R409). DEDUCED, unsafe (log entry 35). -/
def State.tmCommit (s : State) (m k : Nat) : State :=
  let n := s.fld (F.TM_SSTAT_SLOT m k)
  let n' := s.stepSlot m n (s.fld (F.TM_SSTAT_TSLOT m k))
  let s := s.setFlag (F.TM_SSTAT_XPEND m k) false
  match s.read32 reqDripline (s.tmDir m (s.slotTrans m n + 4 * (n' - 1))) with
  | (none, s) => s.tmRdErr m
  | (some t, s) =>
    match s.readWords reqDripline (s.tmDir m (Word.get t 0 24)) (2 * Word.get t 24 8) with
    | (none, s) => s.tmRdErr m
    | (some ws, s) =>
      let rev := s.tmRev m
      let th := s.tmTheta m
      let hor := s.tmHor m
      let ents := (List.range (ws.length / 2)).map fun i => (ws.getD (2 * i) 0, Word.get (ws.getD (2 * i + 1) 0) 16 16)
      let best := ents.foldl (fun (b : Option (Nat × Word × Nat)) e =>
        let d := aheadN rev th (s.xEdge m k rev e.1 e.2)
        if d ≤ hor || 2 ^ 31 ≤ d then b
        else match b with
          | some (d0, _, _) => if d < d0 then some (d, e.1, e.2) else b
          | none => some (d, e.1, e.2)) none
      match best with
      | none => s
      | some (_, x, w) =>
        let s := ((s.setFlag (F.TM_SSTAT_XPEND m k) true).setReg (Reg.TM_SX m k) x).modSet m k fun y =>
          { y with dest := n', xw := w, merged := false, changed := false }
        s.when (s.tmSet m k).freeze (·.setFlag (F.TM_SSTAT_FRZ m k) true)

/-- R408: a committed transition whose window start no longer lies ahead of θ and of the last pushed items is abandoned and committed
again. -/
def State.tmOverrun (s : State) (m k : Nat) : State :=
  let s := s.tmCatch m
  if !s.flag (F.TM_SSTAT_XPEND m k) || (s.tmSet m k).merged then s
  else
    let rev := s.tmRev m
    let start := aheadI rev (s.tmTheta m) (s.xStart m k)
    let lasts : List Int := ((s.tmSet m k).phs.filter fun h => h.last.isSome).map fun h => aheadN rev (s.tmTheta m) h.mark - h.since
    if decide (0 < start) && lasts.all fun d => decide (d < start) then s
    else
      let s := ((s.incSat (F.TM_SSTAT_XOVRC m k)).incSat (F.TM_CNT_XOVR_CNT m)).setFlag (F.TM_FLAG_XOVR m) true
      let s := s.raiseTm Ev.TM_XOVR m
      let s := s.when (s.fld (F.TM_XCTL_XMAX m) ≤ s.fld (F.TM_SSTAT_XOVRC m k)) fun s => s.modSet m k fun y => { y with freeze := true }
      s.tmCommit m k

/-- The overruns of a modulator, which count at any moment (R408). -/
def State.tmWatch (s : State) : State :=
  s.each [0, 1] fun s m => s.when (s.tmMode m == tmDrapery) fun s => s.each (s.tmSets m) fun s k => s.tmOverrun m k

/-- The merged edges of a phase, in the order in which θ reaches them: those of slot N in the half of the window that θ enters, those of slot N' in
the other half (R406). -/
def State.mergedEdges (s : State) (m k p : Nat) (a0 a1 : List Word) : List (Word × Bool) :=
  let rev := s.tmRev m
  let w := BitVec.ofNat 32 ((s.tmSet m k).xw * 65536)
  let mid := s.reg (Reg.TM_SX m k) - offP p
  let inside (lo : Word) (as_ : List Word) := (s.phaseEdges m k p as_).filter fun e => decide ((s.coordOf m k p e.1 - lo).toNat < w.toNat)
  let l := if rev then inside mid a0 ++ inside (mid - w) a1 else inside (mid - w) a0 ++ inside mid a1
  (sortEdges (l.map fun e => ⟨aheadN rev (s.xStart m k) e.1, e.1, e.2, true⟩)).map fun e => (e.x, e.st)

/-- Filling reaches the window start, which lies at the horizon, with every edge before it pushed (R405, R406). -/
def State.tmWindow (s : State) (m k : Nat) : State :=
  let s := s.tmOverrun m k
  if s.tmMode m != tmDrapery || !(s.tmSets m).contains k || !s.flag (F.TM_SSTAT_XPEND m k) || (s.tmSet m k).merged || s.tmWaits m
      || decide ((s.tmHor m : Int) < aheadI (s.tmRev m) (s.tmTheta m) (s.xStart m k))
      || (s.tmFirst m [(k, 0), (k, 1), (k, 2)]).isSome then s
  else
    let mi := s.fld (F.TM_SM_M m k)
    let n' := (s.tmSet m k).dest
    let e0 := s.flag (F.TM_FLAG_RDERR m)
    let (a0, s) := (s.setFlag (F.TM_FLAG_RDERR m) false).tmAngles m k (s.tmSet m k).fill mi
    let (a1, s) := s.tmAngles m k n' mi
    let err := s.flag (F.TM_FLAG_RDERR m)
    let s := s.setFlag (F.TM_FLAG_RDERR m) (e0 || err)
    let x := s.reg (Reg.TM_SX m k)
    if err then s.setFlag (F.TM_SSTAT_XPEND m k) false
    else if [0, 1, 2].all fun p => patState a0 (x - offP p) == patState a1 (x - offP p) then
      let rev := s.tmRev m
      let out := s.xEnd m k
      let s := s.each [0, 1, 2] fun s p =>
        let l := s.mergedEdges m k p a0 a1
        s.modPh m k p fun h => { h with merge := l, mark := out, incl := !rev, since := h.since + aheadN rev h.mark out }
      (s.modSet m k fun y => { y with merged := true, fill := n' }).tmDrain m
    else
      ((s.setFlag (F.TM_FLAG_CSMIS m) true).raiseTm Ev.TM_CSMIS m).tmCommit m k

/-- θ has passed a rotor angle in the direction of travel. -/
def State.tmPassed (s : State) (m : Nat) (x : Word) : Bool := decide (0 ≤ aheadI (s.tmRev m) x (s.tmTheta m))

/-- The rotor passes the transition angle (R407). -/
def State.tmSlotChange (s : State) (m k : Nat) : State :=
  if s.flag (F.TM_SSTAT_XPEND m k) && (s.tmSet m k).merged && !(s.tmSet m k).changed
      && s.tmPassed m (s.rotorOf m k 0 (s.reg (Reg.TM_SX m k))) then
    (s.setFld (F.TM_SSTAT_SLOT m k) (s.tmSet m k).dest).modSet m k fun y => { y with changed := true }
  else s

/-- The rotor passes the window end (R407, R409). -/
def State.tmXDone (s : State) (m k : Nat) : State :=
  if s.flag (F.TM_SSTAT_XPEND m k) && (s.tmSet m k).merged && s.tmPassed m (s.xEnd m k) then
    let s := s.tmSlotChange m k
    let s := ((s.setFlag (F.TM_SSTAT_XPEND m k) false).setFld (F.TM_SSTAT_XOVRC m k) 0).setFlag (F.TM_SSTAT_FRZ m k) false
    (s.modSet m k fun y => { y with merged := false, changed := false, freeze := false }).raiseTm Ev.TM_SLOT m
  else s

/-- In cycle w + 40 the Drapery values of the oldest computation take effect (R377, R384, R409, R411). -/
def State.tmDraperyUpdate (s : State) (m k : Nat) : State :=
  match (s.tmSet m k).drapery with
  | [] => s
  | (due, mi, delta, has) :: rest =>
    if s.now < due then s
    else
      let s := s.modSet m k fun x => { x with drapery := rest }
      let s := if s.flag (F.TM_SSTAT_FRZ m k) then s
        else (s.setFld (F.TM_SM_M m k) mi).when has (·.setReg (Reg.TM_SDELTA m k) delta)
      let s := s.when (k == 0 && s.flag (F.TM_CFG_PDEN m)) fun s =>
        s.portDeliver (s.fld (F.TM_CFG_PDOM m)) (s.coordOf m 0 0 (s.tmTheta m)) 0
      s.when (s.tmMode m == tmDrapery) (·.tmOverrun m k)

/-! ### Evaluation and hand-over -/

/-- Mx of R396. -/
def State.tmMx (s : State) (m : Nat) : Nat := ((s.tmSets m).map fun k => s.fld (F.TM_SM_M m k)).foldl max 0

/-- ρ of R396. -/
def State.tmRhoNow (s : State) (m : Nat) : Nat :=
  let rr := (s.rate (s.tmRdom m)).natAbs
  if rr = 0 then 0xFFFF else min 0xFFFF ((s.rate (s.fld (F.TM_CFG_CDOM m)) * 256 / rr).toNat)

/-- The selectable slot (R397); 0 when no slot is present. -/
def State.tmSelect (s : State) (m rho mx : Nat) : Nat :=
  let l := s.slots m
  match (l.filter fun n => s.slotRlo m n ≤ rho && mx ≤ s.slotMlast m n).getLast? with
  | some n => n
  | none => l.headD 0

/-- The quiet arc of a set is shorter than the clean window (R412). -/
def State.tmQuietShort (s : State) (m k : Nat) : Bool :=
  let n := s.fld (F.TM_SSTAT_SLOT m k)
  let i := s.pointFor m n (s.fld (F.TM_SM_M m k))
  let qw := bitsOf (s.tmWord m (s.pointOfs m n i + 4)) 16 16
  decide (2 * qw * 65536 < s.tmClean m k * ((s.rate (s.tmRdom m)) / 65536).natAbs)

/-- A hand-over is requested, or a standing request ends (R398). -/
def State.tmRequest (s : State) (m : Nat) (holds : Bool) (mode : Nat) : State :=
  if holds then ((s.setFlag (F.TM_STAT_HREQ m) true).setFld (F.TM_STAT_HMODE m) mode).raiseTm Ev.TM_HREQ m
  else s.setFlag (F.TM_STAT_HREQ m) false

/-- The target slot of a set, and its commitment (R398, R403, R404). -/
def State.tmTarget (s : State) (m k rho mx : Nat) : State :=
  if s.flag (F.TM_SSTAT_XPEND m k) then s
  else
    let n := s.fld (F.TM_SSTAT_SLOT m k)
    let rhys := s.fld (F.TM_RATIO_RHYS m)
    let out := decide ((rho : Int) < (s.slotRlo m n : Int) - rhys) || decide (s.slotRhi m n + rhys ≤ rho) || decide (s.slotMlast m n < mx)
    let s := s.when out (·.setFld (F.TM_SSTAT_TSLOT m k) (s.tmSelect m rho mx))
    s.when (s.fld (F.TM_SSTAT_TSLOT m k) != n) (·.tmCommit m k)

/-- The quiet arc of a set at an evaluation (R412). -/
def State.tmQuiet (s : State) (m k : Nat) : State :=
  if s.tmMode m == tmDrapery && s.tmQuietShort m k then
    ((s.setFlag (F.TM_SSTAT_QLOW m k) true).setFlag (F.TM_FLAG_QLOW m) true).raiseTm Ev.TM_QLOW m
  else s.setFlag (F.TM_SSTAT_QLOW m k) false

/-- An evaluation (R396 to R398, R404, R412). -/
def State.tmEvaluate (s : State) (m : Nat) : State :=
  if s.tmMode m == tmOff then s
  else
    let rho := s.tmRhoNow m
    let mx := s.tmMx m
    let s := s.setFld (F.TM_RHO_RHO m) rho
    let reng := s.fld (F.TM_RATIO_RENG m)
    let s := if s.tmMode m == tmCarrier then s.tmRequest m (rho < reng && s.slots m != []) 1
      else
        let toCarrier := decide (reng + s.fld (F.TM_RATIO_RHYS m) ≤ rho)
        (s.tmRequest m toCarrier 0).when (!toCarrier) fun s => s.each (s.tmSets m) fun s k => s.tmTarget m k rho mx
    s.each (s.tmSets m) fun s k => s.tmQuiet m k

/-- A `STROBE` with code 2 restarts every set in DRAPERY mode (R394, R395). -/
def State.tmRestartAll (s : State) (m lead : Nat) : State :=
  if s.tmMode m != tmDrapery then s else s.each (s.tmSets m) fun s k => s.tmRestart m k lead

/-- The rotor domain of a modulator has changed its direction (R394). -/
def State.tmDirChanged (s : State) (d : Nat) : State :=
  s.each ([0, 1].filter fun m => s.tmMode m == tmDrapery && s.tmRdom m == d) fun s m => s.tmRestartAll m 16

/-- The mode of a modulator changes at the angle boundary (R400 to R402). -/
def State.tmModeChange (s : State) (m : Nat) : State :=
  let to_ := s.fld (F.TM_STAT_PMODE m)
  if to_ == s.tmMode m || (to_ != tmCarrier && to_ != tmDrapery) then s
  else
    let s := (((s.setFld (F.TM_STAT_MODE m) to_).setFlag (F.TM_STAT_HREQ m) false).raiseTm Ev.TM_MODE m).mark .hand m
    if to_ == tmDrapery then
      let rho := s.tmRhoNow m
      s.each (s.tmSets m) fun s k =>
        let n := s.tmSelect m rho (s.fld (F.TM_SM_M m k))
        let s := ((s.setFld (F.TM_SSTAT_SLOT m k) n).setFld (F.TM_SSTAT_TSLOT m k) n).modSet m k fun x =>
          { x with fill := n, handTo := some true, carrier := [], hand := [], merged := false, changed := false }
        s.tmRestart m k 41
    else
      s.each (s.tmSets m) fun s k =>
        let (v, s) := s.tmV m
        let (cs, s) := s.tmCarrierCalc m k v
        let s := ((s.setFld (F.TM_SSTAT_SLOT m k) 0).setFld (F.TM_SSTAT_TSLOT m k) 0).setFlag (F.TM_SSTAT_XPEND m k) false
        (s.setFlag (F.TM_SSTAT_FRZ m k) false).modSet m k fun x => { x with handTo := some false, hand := cs, merged := false, changed := false, phs := x.phs.map fun _ => TmPh.reset }

/-- In cycle c + 24 after a mode change the shadows of each set are written (R401, R402). -/
def State.tmHandShadows (s : State) (m : Nat) : State :=
  s.when (s.past .hand m 24) fun s => s.each (s.tmSets m) fun s k =>
    match (s.tmSet m k).handTo with
    | none => s
    | some true => s.each (s.tmChs m k) fun s c => s.setRegNoted (Reg.PG_SCTL c) 1
    | some false => s.tmCarrierShadows m k (s.tmSet m k).hand

/-- The channels on which cycle c + 25 after a mode change makes load points, and the state after it (R401, R402). -/
def State.tmHandLoads (s : State) (m : Nat) : List Nat × State :=
  let ks := (s.tmSets m).filter fun k => (s.tmSet m k).handTo.isSome && s.past .hand m 25
  (ks.flatMap fun k => s.tmChs m k, s.each ks fun s k => s.modSet m k fun x => { x with handTo := none, hand := [] })

/-- The traction modulator that writes the edge queue of a channel (R313). -/
def State.tmOwner (s : State) (c : Nat) : Option Nat :=
  [0, 1].find? fun m => s.tmEnabled m && s.pgConv c == m && (s.tmSets m).any fun k => (s.tmChs m k).contains c

/-- The cycles in which a modulator acts by itself: the items of a restart or of a merge, and the load points of R414. -/
def State.tmAt (s : State) (m : Nat) : List Nat := (if s.tmWaits m then [s.now + 1] else []) ++ (s.tm m).loads.map (·.1)

/-- The load points that are due (R414). -/
def State.tmLoads (s : State) (m : Nat) : List Nat × State :=
  (((s.tm m).loads.filter fun x => x.1 ≤ s.now).map (·.2), s.modTm m fun x => { x with loads := x.loads.filter fun x => s.now < x.1 })

end Sys2Proof.Machine
end

