-- ==== Sys2Proof/Machine/Actuators.lean ====
section
/-! DEFINITION. The gearbox actuators (R556 to R593, R880): load points, arcs, modes, the gate handshake, leg isolation, channel states,
and the actuator-supply Sump. -/

namespace Sys2Proof.Machine

def State.ac (s : State) (n : Nat) : Ac := vget s.acs n Ac.reset
def State.modAc (s : State) (n : Nat) (f : Ac → Ac) : State := { s with acs := vmod s.acs n f }
def State.acLeg (s : State) (n k : Nat) : AcLeg := (s.ac n).legs.getD k AcLeg.reset
def State.modLeg (s : State) (n k : Nat) (f : AcLeg → AcLeg) : State := s.modAc n fun a => { a with legs := a.legs.modify k f }
def AcLeg.out (l : AcLeg) (low : Bool) : AcOut := if low then l.lo else l.hi
def State.modAcOut (s : State) (n k : Nat) (low : Bool) (f : AcOut → AcOut) : State :=
  s.modLeg n k fun l => if low then { l with lo := f l.lo } else { l with hi := f l.hi }
def State.raiseAc (s : State) (e : Ev.Src) (n : Nat) : State := s.raise e 4 n
def State.raiseLeg (s : State) (e : Ev.Src) (n k : Nat) : State := s.raise e 4 (3 * n + k)

/-- The fields of `AC_LSTAT` of leg `k`. -/
def F.acPin (n k : Nat) (low : Bool) : Fld := ⟨Reg.AC_LSTAT n, 8 * k + b2n low, 1⟩
def F.acGmOff (n k : Nat) (low : Bool) : Fld := ⟨Reg.AC_LSTAT n, 8 * k + 2 + b2n low, 1⟩
def F.acBsLow (n k : Nat) : Fld := ⟨Reg.AC_LSTAT n, 8 * k + 4, 1⟩
def F.acPend (n k : Nat) (low : Bool) : Fld := ⟨Reg.AC_LSTAT n, 8 * k + 5 + b2n low, 1⟩

/-- The codes of `AC_STAT.STATE` (R580), of the leg commands (R559) and of the modes. -/
def acOff : Nat := 0
def acPrech : Nat := 1
def acRun : Nat := 2
def acHalt : Nat := 3
def legOff : Nat := 0
def legLow : Nat := 1
def legArc : Nat := 2
def acSin : Nat := 1
def acBlock : Nat := 2
def acHbridge : Nat := 3

def State.acState (s : State) (n : Nat) : Nat := s.fld (F.AC_STAT_STATE n)
def State.acVar (s : State) (n : Nat) : Nat := s.fld (F.AC_STAT_VAR n)
def State.acMode (s : State) (n : Nat) : Nat := s.fld (F.AC_VAR_MODE n (s.acVar n))
def State.acMask (s : State) (n : Nat) : Nat := s.fld (F.AC_VAR_LEGMASK n (s.acVar n))
def State.acIso (s : State) (n k : Nat) : Bool := bitOf (s.fld (F.AC_STAT_ISO n)) k
/-- ψ of a channel (R559). -/
def State.acPsi (s : State) (n : Nat) : Word := s.angle (s.fld (F.AC_CFG_ADOM n))

/-! ### Pins -/

/-- Whether an output of a leg is requested (R559, R577). -/
def State.acWant (s : State) (n k : Nat) (low : Bool) : Bool :=
  let l := s.acLeg n k
  s.flag (F.AC_CFG_EN n) && s.inForce && !s.acIso n k
    && (if l.cmd == legLow then low else l.cmd == legArc && (if low then !l.r else l.r))

/-- An output is deasserted at its pin in this cycle, with edge time `t`; a waiting turn-on is cancelled (R570). -/
def State.acPinOff (s : State) (n k : Nat) (low : Bool) (t : Nat) : State :=
  let s := (s.setFlag (F.acPend n k low) false).modAcOut n k low fun o => { o with offDue := none }
  s.when (s.flag (F.acPin n k low)) fun s => (s.setFlag (F.acPin n k low) false).modAcOut n k low fun o => { o with offAt := t }

/-- One output of a leg follows what is requested, for a change whose edge time is `t`: a turn-off reaches the pin at its edge time, a turn-on
waits for R570 (R559, R570). -/
def State.acDrive (s : State) (n k : Nat) (low : Bool) (t : Nat) : State :=
  let o := (s.acLeg n k).out low
  if !s.acWant n k low then
    if t ≤ s.now || !s.flag (F.acPin n k low) then s.acPinOff n k low t
    else (s.setFlag (F.acPend n k low) false).modAcOut n k low fun o => { o with offDue := o.offDue.or (some t) }
  else if s.flag (F.acPend n k low) || (s.flag (F.acPin n k low) && o.offDue.isNone) then s
  else (s.setFlag (F.acPend n k low) true).modAcOut n k low fun o => { o with req := t }

/-- Both outputs of a leg follow, the turn-offs first. -/
def State.acApply (s : State) (n k t : Nat) : State :=
  if s.acWant n k false then (s.acDrive n k true t).acDrive n k false t else (s.acDrive n k false t).acDrive n k true t

/-- The reference state of a leg from ψ and its active half-width (R559). -/
def State.acRef (s : State) (n k : Nat) : Bool :=
  let h := s.reg (Reg.AC_LH n k)
  (s.acLeg n k).cmd == legArc && insideArc (s.acPsi n) (0x80000000#32 - h) (0x80000000#32 + h)

/-- The reference states of a channel are formed anew; their edges lie at c + 6 (R559). -/
def State.acEval (s : State) (n : Nat) : State :=
  s.each [0, 1, 2] fun s k =>
    let r := s.acRef n k
    (s.modLeg n k fun l => { l with r := r }).acApply n k (s.now + edgeDelay)

/-- The leg commands and half-widths become active. -/
def State.acSetLegs (s : State) (n : Nat) (cs : List (Nat × Nat)) : State :=
  let s := s.each ((List.range 3).zip cs) fun s p =>
    (s.modLeg n p.1 fun l => { l with cmd := p.2.1 }).setReg (Reg.AC_LH n p.1) (if p.2.1 == legArc then BitVec.ofNat 32 p.2.2 else 0)
  s.acEval n

/-- Every leg of the mask under one command. -/
def State.acAll (s : State) (n cmd : Nat) : List (Nat × Nat) :=
  (List.range 3).map fun k => (if bitOf (s.acMask n) k && !s.acIso n k then cmd else legOff, 0)

/-- The time at which a waiting turn-on appears, once the complement is deasserted and its gate monitor recognised as off (R570). -/
def State.acTurnDue (s : State) (n k : Nat) (low : Bool) : Option Nat :=
  let l := s.acLeg n k
  let y := l.out (!low)
  if s.flag (F.acPend n k low) && s.acWant n k low && !s.flag (F.acPin n k low) && !s.flag (F.acPin n k (!low)) && s.flag (F.acGmOff n k (!low))
  then some (max (l.out low).req (max (y.offAt + s.fld (F.AC_DT_ADT n)) (y.gmAt + 2))) else none

/-- A turn-on of an actuator output appears at its pin (R570). -/
def State.acTurnOn (s : State) (n k : Nat) (low : Bool) : State :=
  if (s.acTurnDue n k low).any (· ≤ s.now) then
    ((s.setFlag (F.acPend n k low) false).setFlag (F.acPin n k low) true).modAcOut n k low fun o => { o with onAt := s.now }
  else s

/-- The integrated switch of a leg charges its bootstrap capacitor (R557). -/
def State.acCharging (s : State) (n k : Nat) : Bool := s.flag (F.acPin n k true)

/-! ### Isolation and monitors -/

/-- Isolation of a leg (R577). -/
def State.acIsolate (s : State) (n k : Nat) : State :=
  if s.acIso n k then s
  else ((s.setBit (F.AC_STAT_ISO n) k true).incSat (F.AC_CNT_ISO_CNT n)).raiseLeg Ev.AC_ISO n k |>.acApply n k s.now

/-- A monitored leg: one that has entered PRECH, from which its counts run (R880), and is not isolated. -/
def State.acLive (s : State) (n k : Nat) : Bool :=
  s.flag (F.AC_CFG_EN n) && s.inForce && (s.acLeg n k).pre && !s.acIso n k

/-- A detection that sets a flag, raises its event and isolates the leg. -/
def State.acTrip (s : State) (f : Fld) (e : Ev.Src) (n k : Nat) : State := ((s.setFlag f true).raiseLeg e n k).acIsolate n k

/-- The recognised level of a gate monitor changes (R571). -/
def State.gateLevel (s : State) (n k : Nat) (low off : Bool) : State :=
  (s.setFlag (F.acGmOff n k low) off).modAcOut n k low fun o => if off then { o with gmAt := s.now } else { o with gmOn := s.now }

/-- The instance of a gate monitor among the inputs. -/
def gmIndex (n k : Nat) (low : Bool) : Nat := 2 * (3 * n + k) + b2n low

/-- A gate monitor starts as recognised on; what its filter already has at its input is recognised anew (R571). -/
def State.gmStart (s : State) (n k : Nat) (low : Bool) : State :=
  let i := gmIndex n k low
  let mine (x : PinIn) : Bool := x.kind == .gm && x.inst == i
  let off := ((s.inputs.find? mine).map fun x => x.level != 0).getD (s.flag (F.acGmOff n k low))
  let rest := s.inputs.filter fun x => !mine x
  let s : State := { s with inputs := if off then rest ++ [⟨.gm, i, 1, s.now + s.fld (F.AC_HS_GMFILT n) + 1⟩] else rest }
  s.gateLevel n k low false

/-- Both gate monitors of a leg are recognised as on: judged where one of them becomes so, since both start so (R571, R574).
DEDUCED, unsafe (log entry 66). -/
def State.acGuardSeen (s : State) (n k : Nat) : Bool :=
  !s.flag (F.acGmOff n k false) && !s.flag (F.acGmOff n k true) && s.acLive n k

/-- A missing turn-off (R572). -/
def State.gateMissing (s : State) (n k : Nat) (low : Bool) : State :=
  let o := (s.acLeg n k).out low
  s.when (s.acLive n k && !s.flag (F.acPin n k low) && !s.flag (F.acGmOff n k low) && o.offAt + s.fld (F.AC_HS_AHSTMO n) == s.now)
    (·.acTrip (F.AC_FLAG_GMMISS n) Ev.AC_GMMISS n k)

/-- A turn-on that is not confirmed (R573). -/
def State.gateNoOn (s : State) (n k : Nat) (low : Bool) : State :=
  let o := (s.acLeg n k).out low
  s.when (s.acLive n k && s.flag (F.acPin n k low) && s.flag (F.acGmOff n k low) && o.onAt + s.fld (F.AC_HS_AONTMO n) == s.now)
    fun s => (s.setFlag (F.AC_FLAG_NOON n) true).raiseLeg Ev.AC_NOON n k

/-- The consecutive cycles of a drain–source reading (R575). -/
def vdsCycles : Nat := 8

/-- The cycle in which the drain–source monitor of an output has read above `VDSTH` for 8 cycles, after the blanking and with the gate
monitor recognised as on (R575). -/
def State.acVdsDue (s : State) (n k : Nat) (low : Bool) : Option Nat :=
  let o := (s.acLeg n k).out low
  if s.acLive n k && s.flag (F.acPin n k low) && !s.flag (F.acGmOff n k low) then
    o.vdsAt.map fun v => max v (max (o.onAt + s.fld (F.AC_MON_VDSBLK n)) o.gmOn) + vdsCycles
  else none

/-- The drain–source monitor of an output begins or ceases to read above `VDSTH` (R575). -/
def State.vdsLevel (s : State) (n k : Nat) (low above : Bool) : State :=
  s.modAcOut n k low fun o => { o with vdsAt := if above then some (o.vdsAt.getD s.now) else none }

/-- The cycle in which a low bootstrap has been read for `BSFILT` + 1 cycles with the high side asserted (R576). -/
def State.acBsDue (s : State) (n k : Nat) : Option Nat :=
  if s.acLive n k && s.flag (F.acPin n k false) then
    (s.acLeg n k).bsAt.map fun b => max b (s.acLeg n k).hi.onAt + s.fld (F.AC_MON_BSFILT n) + 1
  else none

/-- The bootstrap monitor of a leg begins or ceases to read low; the reading passes a 2-cycle synchroniser (R576). -/
def State.bsInput (s : State) (n k : Nat) (low : Bool) : State :=
  { s with inputs := s.inputs ++ [⟨.bs, 3 * n + k, b2n low, s.now + 2⟩] }

/-- A reading of the bootstrap monitor has passed the synchroniser. -/
def State.bsLevel (s : State) (n k : Nat) (low : Bool) : State :=
  (s.setFlag (F.acBsLow n k) low).modLeg n k fun l => { l with bsAt := if low then some (l.bsAt.getD s.now) else none }

/-- A bootstrap undervoltage (R576). -/
def State.acBsuv (s : State) (n k : Nat) : State :=
  s.when ((s.acBsDue n k).any (· ≤ s.now)) (·.acTrip (F.AC_FLAG_BSUV n) Ev.AC_BSUV n k)

/-! ### Leg commands -/

/-- hmax of R562. -/
def State.acHmax (s : State) (n : Nat) : Nat :=
  let r := (s.rate (s.fld (F.AC_CFG_ADOM n)) / 65536).natAbs
  let hcap := s.fld (F.AC_DT_DCAP n) * 2 ^ 31 / 1000
  let href := 2 ^ 31 - ((s.fld (F.AC_DT_REFT n) + 2 * s.fld (F.AC_DT_ADT n)) * r + 1) / 2
  min hcap href

/-- An `OUT` target as it stood at the end of cycle c − 24 (R561). -/
def State.acTarget (s : State) (n a : Nat) : Int :=
  match (s.ac n).hist.find? fun h => h.2.1 == a && s.now < h.1 + 24 with
  | some h => h.2.2.toInt
  | none => s.sreg a

/-- An `OUT` target of a channel is written. -/
def State.acWriteTarget (s : State) (n a : Nat) (w : Word) : State :=
  (s.modAc n fun x => { x with hist := (x.hist.filter fun h => s.now < h.1 + 24) ++ [(s.now, a, s.reg a)] }).setReg a w

/-- d of R565, limited, and as R584 gives it under suspension. In AXLE_SAFE only an engage that the fault-reaction table requests runs
(R46, R625). -/
def State.acD (s : State) (n : Nat) : Int :=
  let d := clampI (-(2 ^ 24)) (2 ^ 24) (s.acTarget n (Reg.AC_DUTY n))
  if s.flag (F.AC_STAT_SUSPA n) && s.flag (F.AC_CFG_PLOCK n) then
    if s.sys == sysAxleSafe && !s.sc.engOk then 0
    else if s.flag (F.AC_CFG_ENGDIR n) then if d < 0 then d else 0 else if 0 < d then d else 0
  else d

/-- The positive and the negative leg of a commutation step (R566). -/
def blockLegs (k : Nat) : Nat × Nat := [(0, 2), (1, 2), (1, 0), (2, 0), (2, 1), (0, 1)].getD k (0, 0)

/-- The commutation step of a BLOCK channel; 7 is none (R566). -/
def State.acSect (s : State) (n : Nat) : Nat :=
  let h := s.fld (F.AC_CFG_HSEL n)
  let q := s.fld (F.HL_STAT_Q h)
  if s.fld (F.HL_STAT_SECT h) == 7 || q == qNone || q == qFailed then 7 else (s.fld (F.HL_STAT_SECT h) + s.fld (F.AC_CFG_BOFS n)) % 6

/-- The leg commands of BLOCK mode for half-width `h` and the sign of d. -/
def blockCmds (k h : Nat) (neg : Bool) : List (Nat × Nat) :=
  if k == 7 then [(legOff, 0), (legOff, 0), (legOff, 0)]
  else
    let (p, m) := blockLegs k
    let (p, m) := if neg then (m, p) else (p, m)
    (List.range 3).map fun i => if i == p then (legArc, h) else if i == m then (legLow, 0) else (legOff, 0)

/-- The leg commands of RUN at a load point, and whether a limit acts (R563 to R569, R584). -/
def State.acRunCmds (s : State) (n : Nat) : List (Nat × Nat) × Bool :=
  let hmax := s.acHmax n
  let mask := s.acMask n
  let only (l : List (Nat × Nat)) : List (Nat × Nat) :=
    ((List.range 3).zip l).map fun p => if bitOf mask p.1 && !s.acIso n p.1 then p.2 else (legOff, 0)
  let d := s.acD n
  let want := d.natAbs * 2 ^ 7
  let h := min want hmax
  if s.flag (F.AC_STAT_SUSPA n) && !s.flag (F.AC_CFG_PLOCK n) then
    (s.acAll n (if s.flag (F.AC_CFG_SUSPCMD n) then legOff else legLow), false)
  else if s.acMode n == acSin then
    let v : Int := max (s.fld F.AC_VM_VMV * 2 ^ 24 / 500 : Nat) 0x00200000
    let (gs, lim) := depthsOf (phaseVolts (s.acTarget n (Reg.AC_UA n)) (s.acTarget n (Reg.AC_UB n))) v (max 0 ((hmax : Int) - 2 ^ 30))
    (only (gs.map fun g => (legArc, min hmax (2 ^ 30 + g).toNat)), lim || gs.any fun g => decide ((hmax : Int) < 2 ^ 30 + g))
  else if s.acMode n == acBlock then (only (blockCmds (s.acSect n) h (decide (d < 0))), s.acSect n != 7 && hmax < want)
  else if s.acMode n == acHbridge then
    let a := (bitList mask 3).headD 0
    let cmd (k : Nat) : Nat × Nat :=
      if d = 0 then (if s.flag (F.AC_VAR_DECAY n (s.acVar n)) then legOff else legLow, 0)
      else if (k == a) == decide (0 < d) then (legArc, h) else (legLow, 0)
    (only ((List.range 3).map cmd), hmax < want)
  else (s.acAll n legOff, false)

/-! ### Channel states -/

/-- The leg commands of a safe command (R581). -/
def State.acSafeCmds (s : State) (n cmd : Nat) : List (Nat × Nat) := s.acAll n (if cmd == 2 then legLow else legOff)

def State.acSetState (s : State) (n st : Nat) : State :=
  (s.when (s.acState n != st) (·.raiseAc Ev.AC_STATE n)).setFld (F.AC_STAT_STATE n) st

/-- Legs enter PRECH: their gate monitors start as on, and the counts of the outputs that are not asserted start here (R571, R880). -/
def State.acLegsPrech (s : State) (n : Nat) (ks : List Nat) : State :=
  s.each ks fun s k => (s.modLeg n k fun l => { l with pre := true }).each [false, true] fun s low =>
    let s := s.gmStart n k low
    s.when (!s.flag (F.acPin n k low)) (·.modAcOut n k low fun o => { o with offAt := s.now })

/-- Entry into PRECH (R571, R580, R582, R880). -/
def State.acEnterPrech (s : State) (n : Nat) : State :=
  let s := (s.acSetState n acPrech).modAc n fun a => { a with enter := s.now }
  (s.acLegsPrech n (bitList (s.acMask n) 3)).acSetLegs n (s.acAll n legLow)

/-- `BSPRE` has elapsed since the entry into PRECH (R580). -/
def State.acPrechDone (s : State) (n : Nat) : Bool := decide ((s.ac n).enter + s.fld (F.AC_MON_BSPRE n) * cyclesPerUs ≤ s.now)

/-- The transitions of R580, evaluated in the order of the table. -/
def State.acStates (s : State) (n : Nat) : State :=
  let st := s.acState n
  let scmd := s.fld (F.AC_STAT_SCMD n)
  let v := s.acVar n
  if !s.flag (F.AC_CFG_EN n) || !s.inForce then (s.acSetState n acOff).acSetLegs n (s.acAll n legOff)
  else if (st == acPrech || st == acRun) && scmd != 0 then (s.acSetState n acHalt).acSetLegs n (s.acSafeCmds n scmd)
  else if st == acOff && s.flag (F.AC_VAR_VALID n v) && s.fld (F.AC_VAR_MODE n v) != 0 then s.acEnterPrech n
  else if st == acHalt && scmd == 0 then s.acEnterPrech n
  else if st == acPrech && s.acPrechDone n then s.acSetState n acRun
  else s

/-- The leg commands that a channel in RUN makes active at a load point (R561 to R569, R591). -/
def State.acRunLoad (s : State) (n : Nat) : State :=
  let (cs, lim) := s.acRunCmds n
  let s := if lim then
      (s.when (!s.flag (F.AC_STAT_CAPF n)) (·.raiseAc Ev.AC_CAP n)).setFlag (F.AC_STAT_CAPF n) true |>.setFlag (F.AC_FLAG_CAP n) true
        |>.incSat (F.AC_CNT_CAP_CNT n)
    else s.setFlag (F.AC_STAT_CAPF n) false
  let s := if s.acMode n == acBlock then
      let k := s.acSect n
      let s := s.when (k == 7 && (s.ac n).sectOk) fun s => (s.setFlag (F.AC_FLAG_HALL n) true).raiseAc Ev.AC_HALL n
      let d := s.acD n
      (s.setFld (F.AC_STAT_KSECT n) k).modAc n fun a =>
        { a with sectOk := k != 7, hAct := min (d.natAbs * 2 ^ 7) (s.acHmax n), neg := decide (d < 0) }
    else s
  s.acSetLegs n cs

/-- A load point of an actuator channel (R560, R561, R580, R583). -/
def State.acLoadPoint (s : State) (n : Nat) : State :=
  if !s.flag (F.AC_CFG_EN n) then s
  else
    let s := (s.setFlag (F.AC_STAT_SUSPA n) (s.flag (F.AC_CTL_SUSP n))).acStates n
    let st := s.acState n
    if st == acRun then s.acRunLoad n
    else
    let s := s.setFlag (F.AC_STAT_CAPF n) false
    if st == acPrech then s.acSetLegs n (s.acAll n legLow)
    else if st == acHalt then s.acSetLegs n (s.acSafeCmds n (s.fld (F.AC_STAT_SCMD n)))
    else s

/-- A load point in the cycle in which the channel angle reaches 0 (R560). -/
def State.acAngleLoad (s : State) (n : Nat) : State :=
  let d := s.fld (F.AC_CFG_ADOM n)
  let x := s.dom d
  s.when (reaches (s.flag (F.AD_STAT_DIR d)) (angleOf x.prev) (angleOf x.acc) 0 && !s.justNow .acLoad n) fun s =>
    (s.mark .acLoad n).acLoadPoint n

/-- The load point that finds `BSPRE` elapsed in PRECH (R580). -/
def State.acPrechEnd (s : State) (n : Nat) : State := s.when (s.acState n == acPrech && s.acPrechDone n) (·.acAngleLoad n)

/-- A forced boundary of the carrier of a channel that takes no load points (R580). -/
def State.acForced (s : State) (d : Nat) : State :=
  s.each ((List.range 4).filter fun n => s.flag (F.AC_CFG_EN n) && s.fld (F.AC_CFG_ADOM n) == d && s.flag (F.AD_STAT_STILL d))
    fun s n => s.acStates n

/-- A recognised change of the sector of a Hall triplet reaches the BLOCK channels in the next cycle (R567). -/
def State.acHall (s : State) (h : Nat) : State :=
  s.each ((List.range 4).filter fun n => s.flag (F.AC_CFG_EN n) && s.fld (F.AC_CFG_HSEL n) == h) fun s n =>
    s.modAc n fun a => { a with hallAt := some (s.now + 1) }

/-- The leg commands of a BLOCK channel in RUN follow the sector, with the active half-width (R567). -/
def State.acCommutate (s : State) (n : Nat) : State :=
  let s := s.modAc n fun a => { a with hallAt := none }
  if s.acState n == acRun && s.acMode n == acBlock && !s.flag (F.AC_STAT_SUSPA n) && s.fld (F.AC_STAT_SCMD n) == 0 then
    let k := s.acSect n
    let a := s.ac n
    let cs := ((List.range 3).zip (blockCmds k a.hAct a.neg)).map fun p => if s.acIso n p.1 then (legOff, 0) else p.2
    (s.setFld (F.AC_STAT_KSECT n) k).acSetLegs n cs
  else s

/-- A safe command takes effect on a channel (R581). -/
def State.acSafe (s : State) (n cmd : Nat) : State :=
  let s := s.setFld (F.AC_STAT_SCMD n) cmd
  s.when (cmd != 0 && s.acState n != acOff) (·.acSetLegs n (s.acSafeCmds n cmd))

/-- A variant takes effect on a channel, with the legs that are re-armed (R579, R582, R585). -/
def State.acVariant (s : State) (n v rearm : Nat) : State :=
  let old := s.acMask n
  let s := s.setFld (F.AC_STAT_VAR n) v
  let s := s.each (bitList rearm 3) fun s k =>
    ((s.setBit (F.AC_STAT_ISO n) k false).gmStart n k false).gmStart n k true
  let new := s.acMask n
  let s := s.each ((List.range 3).filter fun k => bitOf old k && !bitOf new k) fun s k =>
    ((s.modLeg n k fun l => { l with cmd := legOff, r := false }).setReg (Reg.AC_LH n k) 0).acApply n k s.now
  let added := (List.range 3).filter fun k => bitOf new k && (!bitOf old k || bitOf rearm k)
  if added == [] then s
  else if s.acState n == acRun then s.acEnterPrech n
  else if s.acState n == acPrech then (s.acLegsPrech n added).acSetLegs n (s.acAll n legLow)
  else s

/-- Every channel OFF, as in RESET and DEFAULTS (R592). -/
def State.acAllOff (s : State) : State :=
  s.each (List.range 4) fun s n => (s.setFld (F.AC_STAT_STATE n) acOff).acSetLegs n (s.acAll n legOff)

/-! ### What happens by itself -/

/-- The outputs of the channels. -/
def acOuts : List (Nat × Nat × Bool) := (List.range 4).flatMap fun n => (List.range 3).flatMap fun k => [(n, k, false), (n, k, true)]

/-- The cycles in which something happens at the actuators by itself: turn-offs and turn-ons at the pins, monitors that have read long enough,
and commutations (R559, R567, R570, R575, R576). -/
def State.acAt (s : State) : List Nat :=
  (acOuts.flatMap fun p =>
    ((s.acLeg p.1 p.2.1).out p.2.2).offDue.toList ++ (s.acTurnDue p.1 p.2.1 p.2.2).toList ++ (s.acVdsDue p.1 p.2.1 p.2.2).toList
      ++ (if p.2.2 then [] else (s.acBsDue p.1 p.2.1).toList))
    ++ (List.range 4).filterMap fun n => (s.ac n).hallAt

/-- The turn-offs that reach their pins in this cycle, and the commutations (R559, R567). -/
def State.acDo (s : State) : State :=
  let s := s.each acOuts fun s p =>
    match ((s.acLeg p.1 p.2.1).out p.2.2).offDue with
    | some t =>
      if t ≤ s.now then
        let w := s.flag (F.acPend p.1 p.2.1 p.2.2)
        (s.acPinOff p.1 p.2.1 p.2.2 t).setFlag (F.acPend p.1 p.2.1 p.2.2) w
      else s
    | none => s
  s.each ((List.range 4).filter fun n => (s.ac n).hallAt.any (· ≤ s.now)) State.acCommutate

/-- What ends a cycle at the actuators: the turn-ons that no command has placed, and bootstrap undervoltages (R570, R576). -/
def State.acEnd (s : State) : State :=
  s.each acOuts fun s p => (s.acTurnOn p.1 p.2.1 p.2.2).when (!p.2.2) (·.acBsuv p.1 p.2.1)

/-! ### The actuator-supply Sump -/

/-- A conversion of `ACT_VM` to `v`, in 0.1 V (R587, R589). -/
def State.actVm (s : State) (v : Nat) : State := s.when (s.past .actVm 0 cyclesPerUs) fun s =>
  let s := (s.setFld F.AC_VM_VMV v).mark .actVm 0
  if !s.loaded then s
  else
    let s := if s.flag F.AC_SUMP_SEN then
        if s.fld F.AC_SUMP_SON ≤ v && !s.sumpActOff && !s.flag F.AC_VM_SONST then
          ((s.setFlag F.AC_VM_SONST true).incSat F.AC_SCNT_SON_CNT).mark .sumpOn 0
        else if v ≤ s.fld F.AC_SUMP_SOFF then s.setFlag F.AC_VM_SONST false
        else s
      else s
    let lim := s.fld F.AC_VMLIM_AVMAX
    if lim < v then (s.setFlag F.AC_VM_VMOV true).raise Ev.AC_VMOV 4 0
    else if v + 10 ≤ lim then s.setFlag F.AC_VM_VMOV false
    else s

/-- `SUMP_ACT` is forced off (R588). -/
def State.sumpActMax (s : State) : State :=
  s.when (s.flag F.AC_VM_SONST && s.past .sumpOn 0 (s.fld F.AC_SUMPT_SMAXON * cyclesPerMs)) fun s =>
    (((({ s with sumpActOff := true } : State).mark .sumpOff 0).setFlag F.AC_VM_SONST false).setFlag F.AC_VM_SMAX true).incSat F.AC_SCNT_SMAX_CNT
      |>.raise Ev.AC_SMAX 4 0

/-- The forced off-time ends. -/
def State.sumpActEnd (s : State) : State :=
  s.when (s.past .sumpOff 0 (s.fld F.AC_SUMPT_SMINOFF * cyclesPerMs)) fun s => { s with sumpActOff := false }

end Sys2Proof.Machine
end

