-- ==== Sys2Proof/Machine/Charger.lean ====
section
/-! DEFINITION. The charger block (R528 to R552): pilot, proximity, limits, charging states, gates, loop inputs, PFC modulation. -/

namespace Sys2Proof.Machine

def State.modCh (s : State) (f : Ch → Ch) : State := { s with ch := f s.ch }
def State.raiseCh (s : State) (e : Ev.Src) : State := s.raise e 3 0

/-- The codes of `CH_STAT.STATE` (R540). -/
def chIdle : Nat := 0
def chConnected : Nat := 1
def chRequest : Nat := 2
def chBusup : Nat := 3
def chCharge : Nat := 4
def chRampdn : Nat := 5
def chHalt : Nat := 6

/-- The block runs: `EN`, outside RESET and DEFAULTS (R552). -/
def State.chOn (s : State) : Bool := s.flag F.CH_CFG_EN && s.sys != sysReset && s.sys != sysDefaults

/-! ### Pilot and proximity -/

/-- The mean of R531. -/
def plateau (sum : Int) (n : Nat) : Int := (sum + (n / 2 : Nat)) / (n : Int)

/-- The pilot state of an evaluation (R533). -/
def pilotState (pwm valid : Bool) (vh vl : Option Int) : Nat :=
  let inB (v : Option Int) (lo hi : Int) : Bool := match v with | some x => decide (lo ≤ x ∧ x ≤ hi) | none => false
  if pwm && (!valid || !inB vl (-1300) (-1100)) then 7
  else if inB vh 1100 1300 then 1
  else if inB vh 800 1000 then 2
  else if inB vh 500 700 then 3
  else if inB vh 200 400 then 4
  else if !pwm && inB vh (-100) 100 then 5
  else if !pwm && inB vh (-1300) (-1100) then 6
  else 7

/-- I_cp of R535. -/
def State.chIcp (s : State) (pwm : Bool) (dp : Nat) : Nat :=
  if !pwm then 0
  else if dp < 30 then 0
  else if dp ≤ 70 then if s.flag F.CH_CFG_DIGEN then s.fld F.CH_ILIM_DIGLIM else 0
  else if dp < 80 then 0
  else if dp < 100 then 60
  else if dp ≤ 850 then dp * 6 / 10
  else if dp ≤ 960 then (dp - 640) * 25 / 10
  else if dp ≤ 970 then 800
  else 0

/-- An evaluation of the pilot (R533, R534). -/
def State.chPilot (s : State) (pwm valid : Bool) (dp : Nat) : State :=
  let w16 (v : Option Int) : Nat := code 16 (v.getD 0)
  let s := s.when s.ch.vh.isSome (·.setFld F.CH_CPV_VH (w16 s.ch.vh))
  let s := s.when s.ch.vl.isSome (·.setFld F.CH_CPV_VL (w16 s.ch.vl))
  let st := pilotState pwm valid s.ch.vh s.ch.vl
  let run := if s.ch.cpCand == (st, pwm) then s.ch.cpRun + 1 else 1
  let s := s.modCh fun x => { x with cpCand := (st, pwm), cpRun := min run 15 }
  if s.fld F.CH_CP_CPDEB ≤ run then
    let old := s.fld F.CH_CPSTAT_CPST
    let s := ((s.setFld F.CH_CPSTAT_CPST st).setFlag F.CH_CPSTAT_PWM pwm).setFld F.CH_CPSTAT_DP dp
    (s.setFld F.CH_CPSTAT_ICP (s.chIcp pwm dp)).when (old != st) (·.raiseCh Ev.CH_CPST)
  else s

/-- The cycles between two samples of the pilot (R529). -/
def cpSample : Nat := 400
/-- The samples are numbered; number `i` is taken in cycle 400 i. The first one in or after a cycle. DESIGN CHOICE, unsafe (log entry 65). -/
def cpFirst (c : Nat) : Nat := (c + (cpSample - 1)) / cpSample

/-- The sum of the samples with numbers from `i` up to, not including, `j`. -/
def cpSum : List (Nat × Int) → Nat → Nat → Int
  | [], _, _ => 0
  | (c, v) :: rest, i, j =>
    let a := max i (cpFirst c)
    (if a < j then v * ((j - a : Nat) : Int) else 0) + cpSum rest i (min j a)

/-- A plateau between two edge instants, where it has a value (R531). -/
def State.cpPlateau (s : State) (from_ to_ : Nat) : Option Int :=
  let a := cpFirst (from_ + s.fld F.CH_CP_CPSET * cpSample)
  let b := cpFirst to_ - 8
  if a + 4 ≤ b then some (plateau (cpSum s.ch.cp.wave a b) (b - a)) else none

/-- The samples that a later evaluation can ask for: those from cycle `c` on. -/
def cpKeep (c : Nat) : List (Nat × Int) → List (Nat × Int)
  | [] => []
  | x :: rest => if x.1 ≤ c then [x] else x :: cpKeep c rest

/-- The cycles from the change of the comparator's output to the recognition of an edge: the synchroniser and the hold (R529). -/
def cpLag : Nat := 42

/-- The voltage at `CP_IN` becomes `v`, in units of 10 mV; the sampler is limited to its range, and the comparator keeps its output between its
thresholds. A block that does not run measures nothing (R529, R552).
DESIGN CHOICE, unsafe (log entry 65). -/
def State.cpLevel (s : State) (v : Int) : State :=
  s.modCh fun x => { x with cp :=
    let y := x.cp
    let out := if 100 ≤ v then true else if v ≤ -100 then false else y.out
    let e : Nat × Int := (s.now, clampI (-2048) 2047 v)
    if !s.chOn then ⟨v, out, none, out, [e], none, none⟩
    else
      { y with
        v := v, out := out, wave := e :: y.wave.filter (·.1 < s.now),
        due := if out == y.high then none else if out == y.out then y.due else some (s.now + cpLag) } }

/-- The measurement of the pilot begins (R552). -/
def State.cpStart (s : State) : State :=
  (s.mark .pilot 0).modCh fun x => { x with cp := ⟨x.cp.v, x.cp.out, none, x.cp.out, [(s.now, clampI (-2048) 2047 x.cp.v)], none, none⟩ }

/-- A rising edge at instant `r` closes a pilot period that began at `r0`, with its falling edge at `f` (R530, R531). -/
def State.cpPeriod (s : State) (r0 f r : Nat) : State :=
  let vh := s.cpPlateau r0 f
  let vl := s.cpPlateau f r
  let s := s.modCh fun x => { x with vh := vh.orElse fun _ => x.vh, vl := vl.orElse fun _ => x.vl }
  s.chPilot true (decide (392000 ≤ r - r0 ∧ r - r0 ≤ 408000)) ((f - r0) * 1000 / (r - r0))

/-- The comparator's output has held, and the edge is recognised (R529, R530). -/
def State.cpEdge (s : State) (due : Nat) : State :=
  let s := s.mark .pilot 0
  let r := due - cpLag
  if s.ch.cp.out then
    let s := match s.ch.cp.rise, s.ch.cp.fall with
      | some r0, some f => s.cpPeriod r0 f r
      | _, _ => s
    let w := cpKeep (min r (s.now - 1000 * cpSample)) s.ch.cp.wave
    s.modCh fun x => { x with cp := { x.cp with due := none, high := true, rise := some r, fall := none, wave := w } }
  else s.modCh fun x => { x with cp := { x.cp with due := none, high := false, fall := if x.cp.rise.isSome then some r else none } }

/-- The recognition of an edge that is due. -/
def State.cpDo (s : State) : State :=
  match s.ch.cp.due with
  | some d => if d ≤ s.now then s.cpEdge d else s
  | none => s

/-- The evaluation in DC, over the last 1 000 samples (R532). -/
def State.chPilotDc (s : State) : State :=
  if !s.chOn || !s.past .pilot 0 (s.fld F.CH_CP_CPDC * cyclesPerMs) || !s.past .pilotDc 0 cyclesPerMs then s
  else
    let s := s.mark .pilotDc 0
    let j := s.now / cpSample + 1
    let vh := plateau (cpSum s.ch.cp.wave (j - 1000) j) 1000
    (s.modCh fun x => { x with vh := some vh, vl := none }).chPilot false true (if 0 ≤ vh then 1000 else 0)

/-- R of R536, from V in mV. -/
def proxR (v : Nat) : Nat := if 5000 ≤ v then 65535 else min 65535 (330 * v / (5000 - v))
/-- The proximity state of R536, and its I_pp. -/
def proxState (r : Nat) : Nat :=
  if 2700 ≤ r then 0 else if 1000 ≤ r then 1 else if 330 ≤ r then 2 else if 150 ≤ r then 3 else if 50 ≤ r then 4 else 5
def proxI (st : Nat) : Nat := [0, 130, 200, 320, 630, 0].getD st 0

/-- V of R536: the mean of the 20 conversions, in mV, rounded as R8 rounds. DESIGN CHOICE, unsafe (log entry 65). -/
def proxV (vs : List Nat) : Nat := (vs.foldl (· + ·) 0 + 10) / 20

/-- The V that an evaluation sees: while `VDRV` lies below its under limit its 5 V reference is absent, and R reads 65 535 (R867). -/
def State.proxSeen (s : State) (vs : List Nat) : Nat := if s.railV railVdrv < vdrvUnder then 5000 else proxV vs

/-- An evaluation of the proximity input (R536). -/
def State.chProximity (s : State) (v : Nat) : State :=
  if !s.chOn || !s.past .prox 0 cyclesPerMs then s
  else
    let s := s.mark .prox 0
    let r := proxR v
    let st := proxState r
    let run := if s.ch.ppCand == st then s.ch.ppRun + 1 else 1
    let s := (s.modCh fun x => { x with ppCand := st, ppRun := min run 15 }).setFld F.CH_PP_RPP r
    if s.fld F.CH_CP_CPDEB ≤ run then
      let old := s.fld F.CH_PP_PPST
      ((s.setFld F.CH_PP_PPST st).setFld F.CH_IAV_IPP (proxI st)).when (old != st) (·.raiseCh Ev.CH_PPST)
    else s

/-! ### Variants and gates -/

/-- The legs that a variant uses (R549, R550). -/
def State.chLegs (s : State) (v : Nat) : List Nat :=
  if s.fld (F.CH_VAR_PFCMODE v) == 0 then [0, 1, 2] else [s.fld (F.CH_VAR_LEGA v), s.fld (F.CH_VAR_LEGB v)]
/-- The supply mode of a variant is single-phase (R550). -/
def State.chSingle (s : State) (v : Nat) : Bool := s.fld (F.CH_VAR_PFCMODE v) == 1
def State.chPfcCh (s : State) (p : Nat) : Nat := s.fld (if p == 0 then F.CH_PFC_CH0 else if p == 1 then F.CH_PFC_CH1 else F.CH_PFC_CH2)
def State.chDabChs (s : State) : List Nat := [F.CH_DAB_CH0, F.CH_DAB_CH1, F.CH_DAB_CH2, F.CH_DAB_CH3].map s.fld

/-- A PFC leg gate or the DAB gates of one channel open or close; `GB` shows that every DAB channel's gate is open. -/
def State.chLegGate (s : State) (p : Nat) (open_ : Bool) : State :=
  (s.setBit F.CH_STAT_GP p open_).setGate (s.chPfcCh p) open_ open_
def State.chDabGate (s : State) (c : Nat) (open_ : Bool) : State :=
  let s := s.setGate c open_ open_
  s.setFlag F.CH_STAT_GB (s.chDabChs.all fun c => (s.pg c).gateH)

/-- Every gate closes (R546, HALT). -/
def State.chCloseAll (s : State) : State :=
  let s := s.each [0, 1, 2] fun s p => s.chLegGate p false
  s.each s.chDabChs fun s c => s.chDabGate c false

/-- A load point of channel `c`: a gate takes the position that R540 shows for the state (R546). -/
def State.chLoadPoint (s : State) (c : Nat) : State :=
  if !s.chOn then s
  else
    let st := s.ch.data.state
    let pfc := st == chBusup || st == chCharge || st == chRampdn
    let s := s.each ((List.range 3).filter fun p => s.chPfcCh p == c) fun s p =>
      let want := pfc && s.ch.data.legs.contains p && (s.chLegs (s.fld F.CH_STAT_VAR)).contains p
      s.when (want != bitOf (s.fld F.CH_STAT_GP) p) (·.chLegGate p want)
    s.when (s.chDabChs.contains c) fun s =>
      let want := st == chCharge || st == chRampdn
      s.when (want != (s.pg c).gateH) (·.chDabGate c want)

/-- A variant takes effect: the gates of the legs that it does not use close (R550). -/
def State.chVariant (s : State) (v : Nat) : State :=
  let s := s.setFld F.CH_STAT_VAR v
  s.each ((List.range 3).filter fun p => !(s.chLegs v).contains p && bitOf (s.fld F.CH_STAT_GP) p) fun s p => s.chLegGate p false

/-- The channels of the charger start with their gates closed (R552). -/
def State.chStartUp (s : State) : State :=
  s.when (s.flag F.CH_CFG_EN) fun s =>
    ((s.chCloseAll).modCh fun x => { x with data := { x.data with legs := s.chLegs (s.fld F.CH_STAT_VAR) } }).cpStart

/-! ### Limits -/

/-- Vbus: the last good value, or a free value before the first (R539). -/
def State.chVbus (s : State) : Int × State :=
  let (v, good) := s.recentRes (s.fld F.CH_CFG_VBCONV) (s.fld F.CH_CFG_VBENT)
  let s := if good then s.modCh fun x => { x with vbus := some v } else (s.setFlag F.CH_FLAG_VBAD true).raiseCh Ev.CH_VBAD
  match s.ch.vbus with
  | some v => (v, s)
  | none => let (w, s) := s.free; (w.toInt, s)

/-- I_av of R537. -/
def State.chIav (s : State) : Nat :=
  min (s.fld F.CH_CPSTAT_ICP) (min (s.fld F.CH_IAV_IPP) (s.fld F.CH_CMD_IMAXV))
/-- I_lim of R537. -/
def State.chIlim (s : State) : Int := (s.chIav * s.fld F.CH_KAC_KAC / 2 ^ 8 : Nat)

/-- `TEMPOK` at a step (R538). -/
def State.chTempOk (s : State) (old : Bool) : Bool :=
  let ts := ((List.range 4).filter (bitOf (s.fld F.CH_BTS_BTMASK))).map fun k => bitsOf (s.fld F.CH_BTS_BTS) (4 * k) 4
  let lo := s.sfld F.CH_BTW_TBMIN
  let hi := s.sfld F.CH_BTW_TBMAX
  let h : Int := s.fld F.CH_BTH_TBHYS
  let read (t : Nat) : Int := s.sfld (F.TS_VAL_READ t)
  if ts.any fun t => !s.flag (F.TS_VAL_VALID t) || decide (read t < lo) || decide (hi < read t) then false
  else if ts.all fun t => s.flag (F.TS_VAL_VALID t) && decide (lo + h ≤ read t ∧ read t ≤ hi - h) then true
  else old

/-- The mains is good (R539). -/
def State.chMainsGood (s : State) : Bool :=
  let d := s.fld F.CH_CFG_MDOM
  let r := (s.rate d / 65536).natAbs
  let va := s.sreg Reg.CH_VAMP
  s.domState d == dsLocked && s.fld F.CH_MAINS_FLO ≤ r && r ≤ s.fld F.CH_MAINS_FHI
    && decide ((s.fld F.CH_VAWIN_VAMIN * 2 ^ 8 : Nat) ≤ va ∧ va ≤ (s.fld F.CH_VAWIN_VAMAX * 2 ^ 8 : Nat))

/-- The lowest code of an immediate cause that holds in state `st` (R541). -/
def State.chCause (s : State) (st : Nat) (vbus : Int) : Option Nat :=
  let cp := s.fld F.CH_CPSTAT_CPST
  let pp := s.fld F.CH_PP_PPST
  let live := st != chIdle && st != chHalt
  let power := st == chBusup || st == chCharge || st == chRampdn
  ([(1, live && (cp == 5 || cp == 6 || cp == 7)), (2, live && (pp == 5 || pp == 0)),
    (3, live && (s.fld (F.safeCmd 3) != 0 || s.sys != sysReady)), (4, live && s.flag F.CH_CTL_SHED),
    (5, power && !s.chMainsGood), (6, power && decide ((s.fld F.CH_VBMAX_VBMAX * 2 ^ 8 : Nat) < vbus)),
    (7, power && (cp == 1 || cp == 2))].find? (·.2)).map (·.1)

/-- The immediate causes of codes 1 to 4, whatever the state (R543, step 13). -/
def State.chBlocked (s : State) : Bool :=
  match s.chCause chConnected 0 with | some _ => true | none => false

/-! ### The step -/

/-- `ms` milliseconds have elapsed since the entry into the state (R543). -/
def State.chLate (s : State) (d : ChData) (ms : Nat) : Bool := decide (d.enter + ms * cyclesPerMs ≤ s.now)

/-- The next state of a step, and the cause code of an entry into HALT (R543). -/
def State.chNext (s : State) (d : ChData) (tempOk : Bool) (vbus : Int) : Nat × Nat :=
  let st := d.state
  let cp := s.fld F.CH_CPSTAT_CPST
  let pwm := s.flag F.CH_CPSTAT_PWM
  let pp := s.fld F.CH_PP_PPST
  let orderly := !s.flag F.CH_CMD_CHG || !tempOk || s.chIav < s.fld F.CH_ILIM_IMIN
  let vb : Int := (s.fld F.CH_VBUS_VBUS * 2 ^ 8 : Nat)
  let retryOver := !d.retry || s.chLate d (1000 * s.fld F.CH_TMO2_RETRY)
  match s.chCause st vbus with
  | some c => (chHalt, c)
  | none =>
    if st == chIdle && cp == 2 && 1 ≤ pp && pp ≤ 4 then (chConnected, 0)
    else if st == chConnected && (cp == 1 || cp == 0) then (chIdle, 0)
    else if st == chConnected && !orderly && cp == 2 && pwm
        && s.chSingle (s.fld F.CH_STAT_VAR) == s.flag F.CH_CMD_PH1 then (chRequest, 0)
    else if st == chRequest && (orderly || !(2 ≤ cp && cp ≤ 4) || !pwm) then (chConnected, 0)
    else if st == chRequest && s.chLate d (s.fld F.CH_TMO_CTMO) then (chHalt, 8)
    else if st == chRequest && (cp == 3 || cp == 4) && s.chMainsGood
        && decide ((s.fld F.CH_VBMAX_VPRE * 2 ^ 8 : Nat) ≤ vbus) then (chBusup, 0)
    else if (st == chBusup || st == chCharge) && orderly then (chRampdn, 0)
    else if st == chBusup && s.chLate d (s.fld F.CH_TMO_BUTMO) then (chHalt, 9)
    else if st == chBusup && d.vr == vb && decide ((vbus - vb).natAbs ≤ s.fld F.CH_VBUS_VBTOL * 2 ^ 8) then (chCharge, 0)
    else if st == chRampdn && ((d.lp == 0 && d.lb == 0) || s.chLate d (s.fld F.CH_TMO2_RDTMO)) then (chConnected, 0)
    else if st == chHalt && (cp == 1 || cp == 0 || pp == 0) then (chIdle, 0)
    else if st == chHalt && retryOver && !s.chBlocked && cp == 2 && d.att < 3 then (chConnected, 0)
    else (st, 0)

/-- `x` moves toward `target` by at most `n`. -/
def toward (x target : Int) (n : Nat) : Int := x + clampI (-n) n (target - x)

/-- gB of R548. -/
def State.chGb (s : State) (vbus : Int) : Int :=
  let lo : Int := (s.fld F.CH_VBLIM_VBMIN * 2 ^ 8 : Nat)
  let span : Int := ((s.fld F.CH_VBLIM_VBOK : Int) - s.fld F.CH_VBLIM_VBMIN) * 2 ^ 8
  clampI 0 (2 ^ 16) ((vbus - lo) * 2 ^ 16 / span)

/-- One computation of a step: the new data, and the register writes of cycle c + 16 (R543 to R548). A value moves at the steps after the
one that enters the state that moves it. -/
def State.chForm (s : State) (vbus : Int) : ChData × List (Nat × Word) :=
  let d := s.ch.data
  let tempOk := s.chTempOk d.tempOk
  let (st, cause) := s.chNext d tempOk vbus
  let chg := st != d.state
  let halt := chg && st == chHalt
  let vb : Int := (s.fld F.CH_VBUS_VBUS * 2 ^ 8 : Nat)
  let power := st == chBusup || st == chCharge || st == chRampdn
  let vr := if !power then 0
    else if st == chBusup then if chg then max vbus 0 else toward d.vr vb (s.fld F.CH_RAMP2_VBRAMP)
    else d.vr
  let lp := if !power then 0
    else if st == chRampdn then if chg then d.lp else toward d.lp 0 (s.fld F.CH_RAMP2_IDOWN)
    else if st == chBusup && chg then 0
    else toward d.lp s.chIlim (s.fld F.CH_RAMP_ISLEW)
  let lb := if st == chCharge then if chg then 0 else toward d.lb (s.sreg Reg.CH_IBAT) (s.fld F.CH_RAMP_IRAMP)
    else if st == chRampdn then if chg then d.lb else toward d.lb 0 (s.fld F.CH_RAMP2_IDOWN)
    else 0
  let gb := s.chGb vbus
  let att := if chg && st == chIdle then 0 else if halt then min 3 (d.att + 1) else d.att
  let d' : ChData :=
    { state := st, vr := vr, lp := lp, lb := lb, enter := if chg then s.now else d.enter, retry := halt || (!chg && d.retry),
      att := att, cause := if halt then cause else d.cause, tempOk := tempOk, full := gb == 2 ^ 16,
      legs := s.chLegs (s.fld F.CH_STAT_VAR) }
  let z := s.fld (F.safeCmd 3) != 0
  let w (v : Int) : Word := if z then 0 else wordOf v
  let bph : Int := if s.flag F.CH_STAT_GB then s.sreg Reg.CH_BPH else 0
  (d', [(Reg.CH_VREF, w vr), (Reg.CH_PIHI, w lp), (Reg.CH_PILO, 0), (Reg.CH_IBREF, w (lb * gb / 2 ^ 16)),
    (Reg.CH_BPHI, w bph), (Reg.CH_BPLO, w (-bph)),
    (Reg.CH_IAV, BitVec.ofNat 32 s.chIav)])

/-- The status fields follow the block's data, with `CP_S2` (R540). -/
def State.chSync (s : State) : State :=
  let d := s.ch.data
  let s := ((s.setFld F.CH_STAT_STATE d.state).setFlag F.CH_STAT_TEMPOK d.tempOk).setFld F.CH_STAT_ATT d.att
  (s.setFld F.CH_STAT_CAUSE d.cause).setFlag F.CH_STAT_S2 (chRequest ≤ d.state && d.state ≤ chRampdn)

/-- A step at a boundary of `SDOM`, which the boundary precedes in the same cycle (R528, R537 to R548, R550). `defect` says that the hardware
made the two computations differ, and the step is held. -/
def State.chStep (s : State) (defect : Bool) : State :=
  if !s.chOn || !s.justNow .boundary (s.fld F.CH_CFG_SDOM) || s.justNow .chStep 0 then s
  else
    let s := s.mark .chStep 0
    let (vbus, s) := s.chVbus
    if defect then s.modCh fun x => { x with pend := some none }
    else
      let old := s.ch.data
      let (d, ws) := s.chForm vbus
      let s := (s.modCh fun x => { x with data := d, pend := some (some ws) }).chSync
      let s := s.when (d.tempOk != old.tempOk) (·.raiseCh Ev.CH_TEMP)
      let s := s.when (d.state != old.state) (·.raiseCh Ev.CH_STATE)
      let s := s.when (d.state != old.state && old.state == chRampdn && d.state == chConnected && !(old.lp == 0 && old.lb == 0))
        fun s => (s.setFlag F.CH_FLAG_RDTMO true).raiseCh Ev.CH_RDTMO
      let s := s.when (d.state != old.state && d.state == chHalt) fun s =>
        (s.raiseCh Ev.CH_HALT).modCh fun x => { x with closeAt := some (s.now + 1) }
      let s := if d.full then s.setFlag F.CH_FLAG_BTAPER false
        else s.when old.full fun s => (s.setFlag F.CH_FLAG_BTAPER true).raiseCh Ev.CH_TAPER
      let ph := d.state == chConnected && s.chSingle (s.fld F.CH_STAT_VAR) != s.flag F.CH_CMD_PH1
      (s.when ph (·.raiseCh Ev.CH_PHREQ)).setFlag F.CH_STAT_PHREQ ph

/-- The cycle after a step into HALT (R546). -/
def State.chCloseDo (s : State) : State :=
  s.when (s.ch.closeAt.any (· ≤ s.now)) fun s => (s.chCloseAll).modCh fun x => { x with closeAt := none }

/-- The cycles in which the block acts by itself: a recognised edge, and the gates of HALT. -/
def State.chAt (s : State) : List Nat := s.ch.cp.due.toList ++ s.ch.closeAt.toList

/-- A timeout of the state `st`: the step that finds `ms` milliseconds elapsed (R543). -/
def State.chTimeout (s : State) (st ms : Nat) : State := s.when (s.ch.data.state == st && s.chLate s.ch.data ms) (·.chStep false)

/-- The retry wait ends (R544). -/
def State.chRetryEnd (s : State) : State :=
  s.when (s.ch.data.state == chHalt && s.chLate s.ch.data (1000 * s.fld F.CH_TMO2_RETRY)) (·.modCh fun x => { x with data := { x.data with retry := false } })

/-- Cycle c + 16 of a step (R528, R547). -/
def State.chWrite (s : State) : State :=
  match s.ch.pend with
  | none => s
  | some p =>
    if !s.past .chStep 0 16 then s
    else
      let s := s.modCh fun x => { x with pend := none }
      let s := match p with
        | some ws => (s.each ws fun s w => if w.1 == Reg.CH_IAV then s.setFld F.CH_IAV_IAV w.2.toNat else s.setReg w.1 w.2).setFld F.CH_STAT_HOLDHIST (s.fld F.CH_STAT_HOLDHIST * 2)
        | none => ((s.setFlag F.CH_FLAG_MIS true).raiseCh Ev.CH_MIS).setFld F.CH_STAT_HOLDHIST (s.fld F.CH_STAT_HOLDHIST * 2 + 1)
      if 2 ≤ (bitList (s.fld F.CH_STAT_HOLDHIST) 8).length then
        ((s.setFlag F.CH_FLAG_HOLDESC true).setFld F.CH_STAT_HOLDHIST 0).raiseCh Ev.CH_HOLDESC
      else s

/-! ### PFC modulation -/

/-- A write of `CH_UA` or `CH_UB` asks for a computation at the end of the cycle (R549). -/
def State.pfcWant (s : State) : State := s.modCh fun x => { x with want := true }

/-- The computation of the PFC compare angles (R549). For V = 0, R379 divides by 0, and the angles and the limit are free.
DESIGN CHOICE, safe (log entry 49). -/
def State.pfcCompute (s : State) : State :=
  if !s.chOn then s
  else
    let (vbus, s) := s.chVbus
    let v := max vbus (s.fld F.CH_VBMAX_VPRE * 2 ^ 8 : Nat)
    let var := s.fld F.CH_STAT_VAR
    let chs := [0, 1, 2].map s.chPfcCh
    let a : Int := s.cleanOf 3 chs * (s.rate (s.fld (F.PG_CFG_CDOM (chs.headD 0))) / 65536)
    let ua := s.sreg Reg.CH_UA
    let (cs, lim, s) :=
      if v = 0 then
        let (w, s) := s.free
        let (l, s) := s.freeAngles
        (l, w.getLsbD 0, s)
      else
        let r := if s.fld (F.CH_VAR_PFCMODE var) == 0 then carrierAngles ua (s.sreg Reg.CH_UB) v a else anglesOf [2 * ua, -2 * ua] v a
        (r.1, r.2, s)
    let s := s.when lim (·.flagRaise F.CH_FLAG_LIM Ev.CH_LIM 3 0)
    s.modCh fun x => { x with pfc := x.pfc ++ [(s.now + carrierLag, ((s.chLegs var).map s.chPfcCh).zip cs)] }

/-- The end of a cycle: the references written in it are computed (R549). -/
def State.pfcComputes (s : State) : State :=
  s.when s.ch.want fun s => (s.modCh fun x => { x with want := false }).pfcCompute

/-- In cycle w + 24 the oldest PFC results reach the shadows (R380, R549). -/
def State.pfcWrite (s : State) : State :=
  match s.ch.pfc with
  | [] => s
  | (due, cs) :: rest =>
    if s.now < due then s
    else (s.modCh fun x => { x with pfc := rest }).each cs fun s p =>
      (((s.setRegNoted (Reg.PG_SCMPA p.1) p.2.1).setRegNoted (Reg.PG_SCMPB p.1) p.2.2).setRegNoted (Reg.PG_SPHOFS p.1) 0).setRegNoted (Reg.PG_SCTL p.1) 0

end Sys2Proof.Machine
end

