-- ==== Sys2Proof/Machine/Gallery.lean ====
section
/-! DEFINITION. Hardware queues, the Galleries (R743 to R761). -/

namespace Sys2Proof.Machine

def State.gq (s : State) (g : Nat) : Gq := vget s.gqs g Gq.reset
def State.modGq (s : State) (g : Nat) (f : Gq → Gq) : State := { s with gqs := vmod s.gqs g f }

/-- The Gallery runs (R760). -/
def State.gqRuns (s : State) (g : Nat) : Bool :=
  s.flag (F.GQ_CFG_EN g) && (s.loaded || (s.sys == sysDefaults && g == 0))

def State.gqSlots (s : State) (g : Nat) : Nat := s.fld (F.GQ_CFG_NSLOT g)
def State.gqConv (s : State) (g : Nat) : Nat := s.fld (F.GQ_CFG_CONV g)
/-- The item width in bytes. -/
def State.gqWidth (s : State) (g : Nat) : Nat := 2 ^ s.fld (F.GQ_CFG_IW g)
/-- Closed slots and free slots ("Packing"). -/
def State.gqN (s : State) (g : Nat) : Nat := s.fld (F.GQ_STAT_NCL g)
def State.gqFree (s : State) (g : Nat) : Nat := s.gqSlots g - 1 - s.gqN g
def State.gqVB (s : State) (g : Nat) : Nat := s.fld (F.GQ_STAT_OVB g)

/-- The addresses of a slot's data and of its tag (R743). -/
def State.gqData (s : State) (g k : Nat) : Nat := (if g == 0 then evBase else queueBase) + s.fld (F.GQ_BASE_BASE g) + 8 * k
def State.gqTag (s : State) (g k : Nat) : Nat :=
  (if g == 0 then evBase else queueBase) + s.fld (F.GQ_BASE_BASE g) + 8 * s.gqSlots g + k

/-- An event of a Gallery, at level 5 for the event log (R762). DEDUCED, unsafe (log entry 37). -/
def State.raiseGq (s : State) (e : Ev.Src) (g : Nat) : State :=
  s.raiseL e e.sev (if g == 0 then 5 else 3) (s.gqConv g) g

/-- An entry is dropped (R752). -/
def State.gqDrop (s : State) (g : Nat) : State :=
  let s := (s.incSat (F.GQ_CNT_DROP_CNT g)).modGq g fun x => { x with loss := true }
  (s.when (!s.flag (F.GQ_STAT_DROP g)) (·.raiseGq Ev.GQ_DROP g)).setFlag (F.GQ_STAT_DROP g) true

/-- A tagged-queue item is dropped (R154). -/
def State.tqDropped (s : State) (n conv : Nat) : State :=
  ((s.setFlag (F.ADC_STAT_TQDROP n) true).incSat (F.ADC_TQCNT_TQ_DROP_CNT n)).raise Ev.ADC_TQDROP conv n

/-- An entry is dropped: a tagged-queue item also counts for its converter, and no more as written by its run (R152, R154, R752). -/
def State.gqDropEntry (s : State) (g : Nat) : GqEntry → State
  | .tq n conv seq fired fin _ =>
    let s := (s.gqDrop g).tqDropped n conv
    s.when (!fin) fun s => { s with adcs := vmod s.adcs n fun a =>
      { a with items := a.items.map fun x => if x.1 == seq && x.2.1 == fired then (x.1, x.2.1, x.2.2 - 1) else x } }
  | _ => s.gqDrop g

/-- The depth of the input buffer (R746). -/
def gqBufSize : Nat := 4

/-- The places of the writers in the order of a cycle's pushes: the event matrix, Dripline, the converters, then the engines (R746). -/
def rankMatrix : Nat := 0
def rankDripline : Nat := 1
def rankAdc (n : Nat) : Nat := 2 + n
def rankEngine : Nat := 8

/-- An entry takes its place among those that arrive in the same cycle. -/
def gqInsert (x : GqIn) : List GqIn → List GqIn
  | [] => [x]
  | y :: ys => if y.came == x.came && x.rank < y.rank then x :: y :: ys else y :: gqInsert x ys

/-- An entry arrives at the input buffer, in the order of the writers; when the buffer is full, the last of the cycle's pushes is dropped (R744,
R746). A Gallery that resets in this cycle drops it (R759); one that does not run accepts nothing (R760). DEDUCED, unsafe (log entry 59). -/
def State.gqPush (s : State) (g rank : Nat) (e : GqEntry) : State :=
  if !s.gqRuns g || s.flag (F.GQ_STAT_SEAL g) then s
  else if (s.gq g).rstAt == some s.now then s.gqDropEntry g e
  else
    let l := gqInsert ⟨s.now, rank, e⟩ (s.gq g).buf
    let s := s.modGq g fun x => { x with buf := l.take gqBufSize }
    s.each (l.drop gqBufSize) fun s x => s.gqDropEntry g x.e

/-- Closes the open slot with a tag (R747, R748, R757). -/
def State.gqClose (s : State) (g : Nat) (flush mark end_ : Bool) : State :=
  let x := s.gq g
  let vb := s.gqVB g
  let tag := b2n x.loss * 128 + b2n flush * 64 + b2n mark * 32 + b2n end_ * 16 + vb
  let s := s.writeBytes (s.gqTag g x.wr) [BitVec.ofNat 8 tag]
  let s := s.modGq g fun x => { x with wr := (x.wr + 1) % s.gqSlots g, loss := false }
  let s := (s.setFld (F.GQ_STAT_NCL g) (s.gqN g + 1)).setFld (F.GQ_STAT_OVB g) 0
  s.when end_ (·.incMod (F.GQ_PKT_PKT_IN g))

/-- Discards the oldest closed slot (R751). -/
def State.gqDiscard (s : State) (g : Nat) : State :=
  let x := s.gq g
  let tag := (s.byte (s.gqTag g x.rd)).toNat
  let s := s.when (bitOf tag 4) (·.incMod (F.GQ_PKT_PKT_OUT g))
  let s := ((s.incSat (F.GQ_CNT_OVW_CNT g)).setFlag (F.GQ_STAT_OVWF g) true).setFld (F.GQ_STAT_NCL g) (s.gqN g - 1)
  let s := s.modGq g fun x => { x with rd := (x.rd + 1) % s.gqSlots g }
  if s.gqN g = 0 then s.modGq g fun x => { x with loss := true }
  else
    let a := s.gqTag g (s.gq g).rd
    s.writeBytes a [s.byte a ||| 0x80#8]

/-- Makes one slot free when none is (R751). -/
def State.gqRoom (s : State) (g : Nat) : State := s.when (s.gqFree g == 0 && s.gqN g != 0) (·.gqDiscard g)

/-- Writes bytes into the open slot. -/
def State.gqFill (s : State) (g : Nat) (bs : List Byte) : State :=
  (s.writeBytes (s.gqData g (s.gq g).wr + s.gqVB g) bs).setFld (F.GQ_STAT_OVB g) (s.gqVB g + bs.length)

/-- The free slots that an entry needs ("Full Gallery"). -/
def State.gqNeed (s : State) (g : Nat) : GqEntry → Nat
  | .item v => if 8 ≤ s.gqVB g + v.length then 1 else 0
  | .itemEnd _ => 1
  | .tq _ _ _ _ fin v => if fin || 8 ≤ s.gqVB g + v.length then 1 else 0
  | .end_ => 1
  | .mark .. => if s.gqVB g = 0 then 1 else 2

/-- Packs one entry that has room (R747, R749, R750). -/
def State.gqPackEntry (s : State) (g : Nat) : GqEntry → State
  | .item v =>
    let s := s.gqFill g v
    s.when (decide (8 ≤ s.gqVB g)) (·.gqClose g false false false)
  | .itemEnd v => (s.gqFill g v).gqClose g false false true
  | .tq _ _ _ _ fin v =>
    let s := s.gqFill g v
    s.when (fin || decide (8 ≤ s.gqVB g)) (·.gqClose g false false fin)
  | .end_ => s.gqClose g false false true
  | .mark arg trk pc =>
    let s := s.when (s.gqVB g != 0) fun s => ((s.gqRoom g).gqClose g true false false).gqRoom g
    (s.gqFill g (leBytes 2 arg ++ leBytes 1 trk ++ [0#8] ++ leBytes 4 pc)).gqClose g false true false

/-- The Gallery packs the oldest entry of its input buffer (R746, R747, R751). -/
def State.gqPackHead (s : State) (g : Nat) : State :=
  match (s.gq g).buf with
  | [] => s
  | x :: rest =>
    let e := x.e
    let s := s.modGq g fun x => { x with buf := rest, packAt := some s.now }
    let need := s.gqNeed g e
    if need ≤ s.gqFree g then s.gqPackEntry g e
    else if !s.flag (F.GQ_CFG_OVW g) then s.gqDropEntry g e
    else (s.gqRoom g).gqPackEntry g e

/-- An entry is packed in this cycle: it arrived in an earlier one, and none has been packed yet (R746). -/
def State.gqDue (s : State) (g : Nat) : Bool :=
  ((s.gq g).buf.head?.any fun x => decide (x.came < s.now)) && (s.gq g).packAt != some s.now

/-- The Gallery packs the entry of this cycle (R746). -/
def State.gqPack (s : State) (g : Nat) : State := s.when (s.gqDue g) (·.gqPackHead g)

/-- The data bytes of a slot for a pop: a byte at or beyond `n` and a byte that fails parity latch as 0 (R754, R756). -/
def State.gqLatch (s : State) (a n : Nat) : List Nat → List Byte × Bool × State
  | [] => ([], false, s)
  | k :: ks =>
    if n ≤ k then
      let (bs, e, s) := s.gqLatch a n ks
      (0#8 :: bs, e, s)
    else
      match s.readByte reqGallery (a + k) with
      | (some b, s) =>
        let (bs, e, s) := s.gqLatch a n ks
        (b :: bs, e, s)
      | (none, s) =>
        let (bs, _, s) := s.gqLatch a n ks
        (0#8 :: bs, true, s)

def State.setLatch (s : State) (g : Nat) (bs : List Byte) : State :=
  (s.setReg (Reg.GQ_LD0 g) (BitVec.ofNat 32 (leNat (bs.take 4)))).setReg (Reg.GQ_LD1 g) (BitVec.ofNat 32 (leNat (bs.drop 4)))

/-- The tag register's `IDLE` and `PERR` bits. -/
def tagIdle : Nat := 0x8000
def tagPerr : Nat := 0x4000

/-- A read of `GQ_POPTAG` by the service port pops a slot, after the cycle's entry has been packed (R753 to R757). -/
def State.gqPop (s : State) (g : Nat) : Word × State :=
  let s := s.gqPack g
  let x := s.gq g
  if s.gqN g = 0 then
    let vb := s.gqVB g
    if vb = 0 then (BitVec.ofNat 32 tagIdle, s.setLatch g (List.replicate 8 0#8))
    else
      let (bs, perr, s) := s.gqLatch (s.gqData g x.wr) vb (List.range 8)
      let s := ((s.setLatch g bs).setFld (F.GQ_STAT_OVB g) 0).modGq g fun x => { x with loss := false }
      let s := s.when perr (·.raiseGq Ev.GQ_PERR g)
      (BitVec.ofNat 32 (b2n perr * tagPerr + b2n x.loss * 128 + 64 + vb), s)
  else
    let (tag, s) := s.readByte reqGallery (s.gqTag g x.rd)
    let tagN := (tag.map BitVec.toNat).getD 0
    let (bs, perr, s) := s.gqLatch (s.gqData g x.rd) (tagN % 16) (List.range 8)
    let perr := perr || tag.isNone
    let s := (s.setLatch g bs).setFld (F.GQ_STAT_NCL g) (s.gqN g - 1)
    let s := s.modGq g fun x => { x with rd := (x.rd + 1) % s.gqSlots g }
    let s := s.when (bitOf tagN 4) (·.incMod (F.GQ_PKT_PKT_OUT g))
    let s := s.when perr (·.raiseGq Ev.GQ_PERR g)
    (BitVec.ofNat 32 (b2n perr * tagPerr + tagN), s)

/-- A read of `GQ_POPTAG` by any other means (R753). -/
def State.gqPeekTag (s : State) (g : Nat) : Word :=
  if s.gqN g = 0 then BitVec.ofNat 32 tagIdle else BitVec.ofNat 32 (s.byte (s.gqTag g (s.gq g).rd)).toNat

/-- The reset of a Gallery: what it held is lost, and the entries of its input buffer count as dropped (R752, R759). -/
def State.gqReset (s : State) (g : Nat) : State :=
  let old := (s.gq g).buf
  let s := s.modGq g fun x => { Gq.reset with rstAt := x.rstAt }
  let s := ((s.setFld (F.GQ_STAT_NCL g) 0).setFld (F.GQ_STAT_OVB g) 0).setFld (F.GQ_PKT_PKT_OUT g) (s.fld (F.GQ_PKT_PKT_IN g))
  let s := s.each old fun s x => s.gqDropEntry g x.e
  let s := ((s.incSat (F.GQ_CNT2_RST_CNT g)).setFlag (F.GQ_STAT_PTRERR g) true).raiseGq Ev.GQ_PTRERR g
  s.modGq g fun x => { x with loss := true }

/-- The pointer copies disagree: the Gallery resets in the next cycle (R758, R759). DEDUCED, unsafe (log entry 59). -/
def State.gqMismatch (s : State) (g : Nat) : State := s.when (s.gqRuns g) (·.modGq g fun x => { x with rstAt := some (s.now + 1) })

/-- The Galleries that have an entry to pack, and those that reset. -/
def State.gqBusy (s : State) : List Nat := (List.range 64).filter fun g => !(s.gq g).buf.isEmpty
def State.gqRsts (s : State) : List Nat := (List.range 64).filter fun g => (s.gq g).rstAt.any (s.now ≤ ·)

/-- The cycles in which the Galleries act by themselves. -/
def State.gqAt (s : State) : List Nat :=
  (if s.gqBusy == [] then [] else [s.now + 1]) ++ s.gqRsts.filterMap fun g => (s.gq g).rstAt

/-- The Galleries whose reset falls in this cycle. -/
def State.gqDo (s : State) : State := s.each (s.gqRsts.filter fun g => (s.gq g).rstAt == some s.now) State.gqReset

/-- What ends a cycle: each Gallery has packed its entry (R746). -/
def State.gqEnd (s : State) : State := s.each s.gqBusy State.gqPack

/-- An `OUT` write to a push register: the value pushed as an item (R745). -/
def State.gqItemBytes (s : State) (g : Nat) (w : Word) : List Byte := leBytes (s.gqWidth g) w.toNat

def State.gqPushWord (s : State) (g : Nat) (w : Word) : State :=
  (s.setReg (Reg.GQ_PUSH g) w).gqPush g rankEngine (.item (s.gqItemBytes g w))
def State.gqPushEndWord (s : State) (g : Nat) (w : Word) : State :=
  (s.setReg (Reg.GQ_PUSHE g) w).gqPush g rankEngine (.itemEnd (s.gqItemBytes g w))
def State.gqEndWord (s : State) (g : Nat) (w : Word) : State := (s.setReg (Reg.GQ_END g) w).gqPush g rankEngine .end_

end Sys2Proof.Machine
end

