-- ==== Sys2Proof/Machine/Position.lean ====
section
/-! DEFINITION. The position and speed interfaces (R451 to R492): resolver and sin/cos interfaces, quadrature decoders, Hall triplets. -/

namespace Sys2Proof.Machine

def State.rs (s : State) (i : Nat) : Rs := vget s.rss i Rs.reset
def State.modRs (s : State) (i : Nat) (f : Rs → Rs) : State := { s with rss := vmod s.rss i f }
def State.qd (s : State) (q : Nat) : Qd := vget s.qds q Qd.reset
def State.modQd (s : State) (q : Nat) (f : Qd → Qd) : State := { s with qds := vmod s.qds q f }
def State.hl (s : State) (h : Nat) : Hl := vget s.hls h Hl.reset
def State.modHl (s : State) (h : Nat) (f : Hl → Hl) : State := { s with hls := vmod s.hls h f }

/-- The source codes of the interfaces (R51). -/
def srcRs (i : Nat) : Nat := 1 + i
def srcQd (q : Nat) : Nat := 8 + q
def srcHl (h : Nat) : Nat := 0x10 + h

/-- A source's quality becomes `v`; a change raises its event, and a source that becomes FAILED reports it to its domains (R64, R455). -/
def State.setQ (s : State) (f : Fld) (v : Nat) (good degr fail : Ev.Src) (conv inst src : Nat) : State :=
  if s.fld f == v then s
  else
    let s := s.setFld f v
    if v == qGood then s.raise good conv inst
    else if v == qDegraded then s.raise degr conv inst
    else if v == qFailed then (s.raise fail conv inst).sourceFailed src
    else s

/-- R452: the measured angle of a position. -/
def measAngle (ps ks : Nat) (aofs : Word) : Word := BitVec.ofNat 32 (ps * ks / 2 ^ 40) + aofs

/-! ### Resolver and sin/cos interfaces -/

def State.rsQ (s : State) (i : Nat) : Nat := s.fld (F.RS_STAT_Q i)
def State.setRsQ (s : State) (i v : Nat) : State :=
  s.setQ (F.RS_STAT_Q i) v Ev.RS_GOOD Ev.RS_DEGR Ev.RS_FAIL (s.fld (F.RS_CFG_CONV i)) i (srcRs i)
def State.rsKs (s : State) (i : Nat) : Nat := s.fld (F.RS_KSH_KSH i) * 2 ^ 32 + (s.reg (Reg.RS_KSL i)).toNat
/-- The interface needs a reference (R466). -/
def State.rsNeedsRef (s : State) (i : Nat) : Bool := s.rsKs i % 2 ^ 40 != 0
def State.rsSinCos (s : State) (i : Nat) : Bool := s.flag (F.RS_CFG_MODE i)

/-- The start of an enabled interface (R461, R465, R467). -/
def State.rsStart (s : State) (i : Nat) : State :=
  s.when (s.flag (F.RS_CFG_EN i)) fun s =>
    let mid := wordOf (signed 17 (s.fld (F.RS_OFS_MID i)) * 256)
    let s := (s.setReg (Reg.RS_OSS i) mid).setReg (Reg.RS_OSC i) mid
    if s.rsSinCos i && s.rsNeedsRef i then s else (s.setFlag (F.RS_STAT_REF i) true).setRsQ i qDegraded

/-- The interface takes a result of its sine or cosine entry (R457). -/
def State.rsTake (s : State) (i : Nat) (isSin : Bool) (code : Int) (flagged : Bool) : State :=
  let r : RsRes := ⟨s.now, code, flagged⟩
  s.modRs i fun x => if isSin then { x with sin := some r } else { x with cos := some r }

/-- A bad sample waits for its cycle (R458). -/
def State.rsBad (s : State) (i : Nat) (f : Fld) : State :=
  let w := max (((s.rs i).sin.map RsRes.at_).getD 0) (((s.rs i).cos.map RsRes.at_).getD 0)
  ((s.setFlag f true).markAt .rsSample i w).modRs i fun x => { x with sin := none, cos := none, sample := some ⟨false, 0, 0⟩ }

/-- Judges a sample from the two results of one run (R458 to R463). DEDUCED, unsafe (log entry 36). -/
def State.rsJudge (s : State) (i : Nat) (a b : RsRes) : State :=
  if a.flagged || b.flagged then s.rsBad i (F.RS_STAT_RFLG i)
  else
    let w := max a.at_ b.at_
    let delta := w - min a.at_ b.at_
    let back := s.now - (w - 50 - delta / 2)
    let x := s.dom (s.fld (F.RS_CFG_EDOM i))
    let eps := angleOf (x.acc - BitVec.ofNat 48 back * x.rate)
    let phc := BitVec.ofNat 32 (s.fld (F.RS_EXC_PHC i) * 65536)
    let res := !s.rsSinCos i
    let p : Int := if res && 2 ^ 31 ≤ (eps - phc).toNat then -1 else 1
    let oss := s.sreg (Reg.RS_OSS i)
    let osc := s.sreg (Reg.RS_OSC i)
    let sv := p * (a.code * 256 - oss)
    let cv := p * (b.code * 256 - osc)
    let a2 := sv * sv + cv * cv
    let s := s.setFld (F.RS_AMP_AMPM i) (isqrt a2.toNat)
    let amin : Int := s.fld (F.RS_WIN_AMIN i)
    let amax : Int := s.fld (F.RS_WIN_AMAX i)
    if a2 < amin * amin * 65536 || amax * amax * 65536 < a2 then s.rsBad i (F.RS_STAT_AMPF i)
    else
      let phi := vectorAngle cv sv
      let step := angDiff phi (s.reg (Reg.RS_PHI i))
      let r := s.rs i
      if !res && r.hasPs && 2 ^ 30 < step.natAbs then s.rsBad i (F.RS_STAT_SPD i)
      else
        let nmod := s.fld (F.RS_NMOD_NMOD i)
        let ps := if res || !r.hasPs then phi.toNat else (((r.ps : Int) + step) % (nmod * 2 ^ 32 : Nat)).toNat
        let s := (s.setReg (Reg.RS_PHI i) phi).setFld (F.RS_N_N i) (ps / 2 ^ 32)
        let osh := s.fld (F.RS_OFS_OSH i)
        let s := s.when (res && osh != 0) fun s =>
          (s.setReg (Reg.RS_OSS i) (wordOf (oss + rnd (a.code * 256 - oss) osh))).setReg (Reg.RS_OSC i)
            (wordOf (osc + rnd (b.code * 256 - osc) osh))
        (s.markAt .rsSample i w).modRs i fun x =>
          { x with sin := none, cos := none, ps := ps, hasPs := true, sample := some ⟨true, ps, 74 + delta / 2⟩ }

/-- A run of the interface's sequence has written what it writes of the two entries (R457, R458). -/
def State.rsRunEnd (s : State) (i : Nat) : State :=
  match (s.rs i).sin, (s.rs i).cos with
  | some a, some b => s.rsJudge i a b
  | none, none => s
  | _, _ => s.rsBad i (F.RS_STAT_PAIR i)

/-- Cycle w + 24: a good sample is delivered, and the quality follows (R464, R465). An interface with an index out of the window stays DEGRADED
(R467, R484). DEDUCED, unsafe (log entry 36). -/
def State.rsDeliver (s : State) (i : Nat) : State :=
  match (s.rs i).sample with
  | none => s
  | some m =>
    if !s.past .rsSample i 24 then s
    else
      let s := s.modRs i fun x => { x with sample := none }
      let q0 := s.rsQ i
      if m.good then
        let s := (s.setFld (F.RS_STAT_BCNT i) 0).incSat (F.RS_STAT_GCNT i)
        let s := s.when (q0 == qDegraded && (s.rs i).oowc == 0 && s.fld (F.RS_QCTL_GOODN i) ≤ s.fld (F.RS_STAT_GCNT i)) (·.setRsQ i qGood)
        s.when (q0 == qGood || q0 == qDegraded) fun s =>
          (s.incSat (F.RS_CNT_DLV_CNT i)).deliver (srcRs i) (measAngle m.ps (s.rsKs i) 0) m.age (s.rsQ i == qGood)
      else
        let s := ((s.incSat (F.RS_CNT_BAD_CNT i)).incSat (F.RS_STAT_BCNT i)).setFld (F.RS_STAT_GCNT i) 0
        if s.fld (F.RS_QCTL_BADN i) ≤ s.fld (F.RS_STAT_BCNT i) then s.setRsQ i qFailed
        else s.when (q0 == qGood) (·.setRsQ i qDegraded)

/-- The signed offset of a count from the expected count (R479). -/
def idxOffset (c exp nmod : Nat) : Int := (((c : Int) - exp + (nmod / 2 : Nat)) % nmod) - (nmod / 2 : Nat)

/-- An index reaches a sin/cos interface that is referenced by it (R467). -/
def State.rsIndex (s : State) (i itol : Nat) : State :=
  let nmod := s.fld (F.RS_NMOD_NMOD i)
  let n := s.fld (F.RS_N_N i)
  let r := s.rs i
  let ni := if (s.reg (Reg.RS_PHI i)).toNat < 2 ^ 31 then n else (n + 1) % nmod
  let setN (s : State) : State :=
    let n' := (n + nmod - ni % nmod) % nmod
    (s.setFld (F.RS_N_N i) n').modRs i fun x => { x with ps := n' * 2 ^ 32 + x.ps % 2 ^ 32 }
  if !r.hasPs then s
  else if !r.seenIx then
    ((setN s).modRs i fun x => { x with seenIx := true }).setFlag (F.RS_STAT_REF i) true |>.setRsQ i qDegraded
  else
    let o := idxOffset ni 0 nmod
    let s := (s.setFld (F.RS_IDX_LASTOFS i) (code 16 o)).incSat (F.RS_ICNT_IDXN i)
    if o.natAbs ≤ itol then
      let s := s.modRs i fun x => { x with oowc := 0 }
      s.when (o != 0) fun s => (setN s).incSat (F.RS_ICNT_SNAP_CNT i)
    else if r.oowc == 0 then
      (s.modRs i fun x => { x with oowc := 1, pendO := o }).when (s.rsQ i == qGood) (·.setRsQ i qDegraded)
    else if o != r.pendO then s.setRsQ i qFailed
    else if r.oowc + 1 < 3 then s.modRs i fun x => { x with oowc := r.oowc + 1 }
    else ((setN s).setFld (F.RS_IDX_REBOFS i) (code 16 o)).modRs i fun x => { x with oowc := 0 }

/-! ### Quadrature decoders -/

def State.qdConv (s : State) (q : Nat) : Nat := s.fld (F.QD_CFG_CONV q)
def State.qdQ (s : State) (q : Nat) : Nat := s.fld (F.QD_STAT_Q q)
def State.setQdQ (s : State) (q v : Nat) : State :=
  s.setQ (F.QD_STAT_Q q) v Ev.QD_GOOD Ev.QD_DEGR Ev.QD_FAIL (s.qdConv q) q (srcQd q)
def State.qdKs (s : State) (q : Nat) : Nat := s.fld (F.QD_KSH_KSH q) * 2 ^ 32 + (s.reg (Reg.QD_KSL q)).toNat
def State.qdMod (s : State) (q : Nat) : Nat := s.fld (F.QD_NMOD_NMOD q)
def State.qdC (s : State) (q : Nat) : Nat := s.fld (F.QD_CNT_COUNT q)
def State.qdAngle (s : State) (q ps : Nat) : Word := measAngle ps (s.qdKs q) (s.reg (Reg.QD_AOFS q))

/-- The quality of a decoder (R476, R484). -/
def State.qdQuality (s : State) (q : Nat) : State :=
  if s.qdQ q == qFailed then s
  else if !s.flag (F.QD_STAT_REF q) then s.setQdQ q qNone
  else if s.fld (F.QD_STAT_OOWC q) != 0 || s.fld (F.QD_STAT_ILLC q) != 0 || (s.qd q).missed
      || (s.fld (F.QD_STAT_REFBY q) == 1 && s.flag (F.QD_CFG_IDXEN q)) then s.setQdQ q qDegraded
  else s.setQdQ q qGood

/-- The start of an enabled decoder, from which its hold counts (R474, R476). -/
def State.qdStart (s : State) (q : Nat) : State :=
  s.when (s.flag (F.QD_CFG_EN q)) fun s =>
    (s.mark .qdHold q).when (!s.flag (F.QD_CFG_IDXEN q) && !s.flag (F.QD_CFG_HREN q)) fun s =>
      (s.setFlag (F.QD_STAT_REF q) true).qdQuality q

/-- The place of (A, B) in the forward sequence 00, 10, 11, 01 (R469). -/
def quadPhase (a b : Bool) : Nat := if !a && !b then 0 else if a && !b then 1 else if a && b then 2 else 3

/-- The compare of a count (R485, R486). Its input is recognised before any commit of the same cycle takes effect (R487). -/
def State.qdCompare (s : State) (q c : Nat) (fwd : Bool) : State :=
  if !s.flag (F.QD_CMPC_CMPEN q) || c != s.fld (F.QD_CMPV_CMPV q) then s
  else
    let s := (((s.mark .qdMatch q).modQd q fun x => { x with cmpOn := some (s.now + 2) }).incSat (F.QD_ECNT_CMP_CNT q)).setFlag (F.QD_STAT_CMP q) true
    let s := s.when (s.flag (F.QD_CMPC_CMPEV q)) (·.raise Ev.QD_CMP (s.qdConv q) q)
    let n := s.qdMod q
    let st := s.fld (F.QD_CMPC_CMPSTEP q)
    s.when (s.flag (F.QD_CMPC_AUTO q)) fun s =>
      s.setFld (F.QD_CMPV_CMPV q) (if fwd then (c + st) % n else (c + n - st % n) % n)

/-- The index rules at an index of a decoder (R478 to R483), and of the sin/cos interfaces that use it (R467).
DEDUCED, unsafe (log entry 36). -/
def State.qdIndex (s : State) (q : Nat) : State :=
  let s := s.each [0, 1] fun s i =>
    s.when (s.flag (F.RS_CFG_EN i) && s.rsSinCos i && s.rsNeedsRef i && s.flag (F.RS_NMOD_IXEN i) && s.fld (F.RS_NMOD_IXQD i) == q)
      (·.rsIndex i (s.fld (F.QD_IDXCFG_ITOL q)))
  if !s.flag (F.QD_CFG_IDXEN q) then s
  else
    let exp := s.fld (F.QD_NMOD_IDXEXP q)
    let x := s.qd q
    let s := s.modQd q fun x => { x with seenIx := true, since := 0, missed := false }
    if !x.seenIx then
      let s := (s.setFld (F.QD_CNT_COUNT q) exp).setReg (Reg.QD_AOFS q) 0
      (((s.setFld (F.QD_STAT_REFBY q) 2).setFlag (F.QD_STAT_REF q) true).raise Ev.QD_REF (s.qdConv q) q).qdQuality q
    else
      let o := idxOffset (s.qdC q) exp (s.qdMod q)
      let s := (s.setFld (F.QD_IDX_LASTOFS q) (code 16 o)).incSat (F.QD_ICNT_IDXN q)
      if o.natAbs ≤ s.fld (F.QD_IDXCFG_ITOL q) then
        let s := s.setFld (F.QD_STAT_OOWC q) 0
        (s.when (o != 0) fun s => (s.setFld (F.QD_CNT_COUNT q) exp).incSat (F.QD_ICNT_SNAP_CNT q)).qdQuality q
      else
        let s := (s.setFlag (F.QD_STAT_IDXERR q) true).raise Ev.QD_IDXERR (s.qdConv q) q
        let n := s.fld (F.QD_STAT_OOWC q)
        if n == 0 then ((s.setFld (F.QD_STAT_OOWC q) 1).modQd q fun x => { x with pendO := o }).qdQuality q
        else if o != x.pendO then s.setQdQ q qFailed
        else if n + 1 < 3 then (s.setFld (F.QD_STAT_OOWC q) (n + 1)).qdQuality q
        else
          let s := ((s.setFld (F.QD_CNT_COUNT q) exp).setFld (F.QD_IDX_REBOFS q) (code 16 o)).setFld (F.QD_STAT_OOWC q) 0
          ((s.setFlag (F.QD_STAT_REBASE q) true).raise Ev.QD_REBASE (s.qdConv q) q).qdQuality q

/-- The recognised index input and the gate (R479). -/
def State.qdGate (s : State) (q : Nat) (i : Bool) : State :=
  let x := s.qd q
  let g := i && (2 * b2n x.a + b2n x.b == s.fld (F.QD_CFG_IGATE q))
  let s := s.modQd q fun x => { x with i := i, gate := g }
  s.when (g && !x.gate) (·.qdIndex q)

/-- A legal count (R469, R470, R472, R473, R475, R483). -/
def State.qdCount (s : State) (q : Nat) (fwd : Bool) : State :=
  let n := s.qdMod q
  let c := if fwd then (s.qdC q + 1) % n else (s.qdC q + n - 1) % n
  let x := s.qd q
  let same := x.edgeAt.isSome && s.flag (F.QD_CNT_DIR q) == !fwd
  let edge := s.now - (2 + 4 * s.fld (F.QD_CFG_QFILT q))
  let s := match x.edgeAt with
    | some e => if same then (s.setReg (Reg.QD_PER q) (BitVec.ofNat 32 (min (edge - e) (2 ^ 32 - 1)))).setFlag (F.QD_CNT_PERV q) true
      else s.setFlag (F.QD_CNT_PERV q) false
    | none => s
  let s := ((s.setReg (Reg.QD_TEDGE q) (BitVec.ofNat 32 edge)).setFlag (F.QD_CNT_DIR q) (!fwd)).setFld (F.QD_CNT_COUNT q) c
  let legal := x.legal + 1
  let since := x.since + (if fwd then 1 else -1)
  let s := s.modQd q fun x => { x with edgeAt := some edge, legal := legal, since := since }
  let s := s.when (s.fld (F.QD_QCTL_GOODN q) ≤ legal) (·.setFld (F.QD_STAT_ILLC q) 0)
  let miss := s.flag (F.QD_CFG_IDXEN q) && s.fld (F.QD_IDXCFG_IMISS q) * n ≤ since.natAbs
  let s := s.when (miss && !x.missed) fun s =>
    ((s.setFlag (F.QD_STAT_IDXMISS q) true).raise Ev.QD_IDXMISS (s.qdConv q) q).modQd q fun x => { x with missed := true }
  let due := match x.lastDlv with | some t => decide (s.fld (F.QD_TIME_QDEL q) ≤ s.now - t) | none => true
  let ps := if fwd then c * 2 ^ 32 else (c + 1) % n * 2 ^ 32
  let s := (s.mark .qdCount q).mark .qdHold q
  (s.when due fun s => s.modQd q fun x => { x with dlv := some ps }).qdQuality q

/-- A recognised change of the inputs of a decoder: the count, then the index, then the compare (R469 to R471). A decoder that is not enabled counts
nothing (R494). -/
def State.qdInput (s : State) (q : Nat) (a b i : Bool) : State :=
  if !(s.flag (F.QD_CFG_EN q) && s.loaded) then
    s.modQd q fun x => { x with a := a, b := b, i := i, gate := i && (2 * b2n a + b2n b == s.fld (F.QD_CFG_IGATE q)) }
  else
    let x := s.qd q
    let s := s.modQd q fun x => { x with a := a, b := b }
    let d := (quadPhase a b + 4 - quadPhase x.a x.b) % 4
    let fwd := (d == 1) != s.flag (F.QD_CFG_SWAP q)
    if d == 0 then s.qdGate q i
    else if d == 2 then
      let s := ((s.incSat (F.QD_STAT_ILLC q)).incSat (F.QD_ECNT_ILL_CNT q)).setFlag (F.QD_STAT_ILL q) true
      let s := (s.raise Ev.QD_ILL (s.qdConv q) q).modQd q fun x => { x with legal := 0 }
      let s := if s.fld (F.QD_QCTL_ILLMAX q) ≤ s.fld (F.QD_STAT_ILLC q) then s.setQdQ q qFailed else s.qdQuality q
      s.qdGate q i
    else
      let s := s.qdCount q fwd
      let c := s.qdC q
      (s.qdGate q i).qdCompare q c fwd

/-- A decoder delivers a position (R453, R473, R474). -/
def State.qdSend (s : State) (q ps age : Nat) : State :=
  s.when (s.flag (F.QD_STAT_REF q) && (s.qdQ q == qGood || s.qdQ q == qDegraded)) fun s =>
    (s.modQd q fun x => { x with lastDlv := some s.now }).deliver (srcQd q) (s.qdAngle q ps) age (s.qdQ q == qGood)

/-- The delivery in the cycle after a count (R473). -/
def State.qdDeliver (s : State) (q : Nat) : State :=
  match (s.qd q).dlv with
  | none => s
  | some ps => s.when (s.past .qdCount q 1) fun s => (s.modQd q fun x => { x with dlv := none }).qdSend q ps (3 + 4 * s.fld (F.QD_CFG_QFILT q))

/-- The hold delivery: the centre of the state (R474). -/
def State.qdHold (s : State) (q : Nat) : State :=
  s.when (s.past .qdHold q (s.fld (F.QD_TIME_QHOLD q) * cyclesPerUs)) fun s => (s.mark .qdHold q).qdSend q (s.qdC q * 2 ^ 32 + 2 ^ 31) 0

/-- The compare pulse of a match begins (R485). -/
def State.qdPulse (s : State) (q : Nat) : State :=
  match (s.qd q).cmpOn with
  | some c => s.when (c ≤ s.now) (·.modQd q fun x => { x with cmpOut := true, cmpOn := none })
  | none => s

/-- The time of a compare pulse, which begins in the second cycle after the count, runs out (R485). -/
def State.qdPulseEnd (s : State) (q : Nat) : State :=
  s.when (s.past .qdMatch q (2 + 4 * s.fld (F.QD_CMPV_CMPW q))) (·.modQd q fun x => { x with cmpOut := false })

/-! ### Hall triplets -/

def State.hlConv (s : State) (h : Nat) : Nat := s.fld (F.HL_CFG_CONV h)
def State.hlQ (s : State) (h : Nat) : Nat := s.fld (F.HL_STAT_Q h)
def State.setHlQ (s : State) (h v : Nat) : State :=
  s.setQ (F.HL_STAT_Q h) v Ev.HL_GOOD Ev.HL_DEGR Ev.HL_FAIL (s.hlConv h) h (srcHl h)
/-- The sector of a code (R488). -/
def State.hlSector (s : State) (h code : Nat) : Nat :=
  let v := bitsOf (s.fld (F.HL_CFG_HMAP h)) (3 * code) 3
  if v ≤ 5 then v else 7

/-- The quality of a triplet (R491). -/
def State.hlQuality (s : State) (h : Nat) : State :=
  if s.hlQ h == qFailed then s
  else if s.fld (F.HL_QCTL_ABNMAX h) ≤ s.fld (F.HL_STAT_ABNC h) && s.fld (F.HL_STAT_ABNC h) != 0 then s.setHlQ h qFailed
  else if !(s.hl h).seen then s.setHlQ h qNone
  else if s.fld (F.HL_STAT_ABNC h) != 0 || s.fld (F.HL_STAT_SECT h) == 7 then s.setHlQ h qDegraded
  else s.setHlQ h qGood

/-- An abnormal change (R489). -/
def State.hlAbnormal (s : State) (h : Nat) (flag cnt : Fld) (e : Ev.Src) : State :=
  (((s.setFlag flag true).incSat cnt).incSat (F.HL_STAT_ABNC h)).raise e (s.hlConv h) h |>.modHl h fun x => { x with normal := 0 }

/-- A decoder that waits for a Hall reference takes it (R477). -/
def State.qdHallRef (s : State) (h : Nat) (edge : Word) : State :=
  s.each (List.range 8) fun s q =>
    if s.flag (F.QD_CFG_EN q) && s.flag (F.QD_CFG_HREN q) && s.fld (F.QD_CFG_HSEL q) == h && !s.flag (F.QD_STAT_REF q) then
      let raw := measAngle (s.qdC q * 2 ^ 32 + 2 ^ 31) (s.qdKs q) 0
      let s := ((s.setReg (Reg.QD_AOFS q) (edge - raw)).setFld (F.QD_STAT_REFBY q) 1).setFlag (F.QD_STAT_REF q) true
      (s.raise Ev.QD_REF (s.qdConv q) q).qdQuality q
    else s

/-- A normal transition into sector `b`, forward or reverse (R488, R491, R492). -/
def State.hlNormal (s : State) (h a b : Nat) (fwd : Bool) : State :=
  let x := s.hl h
  let edge := s.reg (Reg.HL_EDGE h (if fwd then b else a))
  let at_ := s.now - (2 + 16 * s.fld (F.HL_TIME_HFILT h))
  let s := match x.edgeAt with
    | some e => if s.flag (F.HL_STAT_DIR h) == !fwd then
        (s.setReg (Reg.HL_PER h) (BitVec.ofNat 32 (min (at_ - e) (2 ^ 32 - 1)))).setFlag (F.HL_STAT_PERV h) true
      else s.setFlag (F.HL_STAT_PERV h) false
    | none => s
  let n := x.normal + 1
  let s := ((s.setFlag (F.HL_STAT_DIR h) (!fwd)).mark .hlEdge h).modHl h fun x => { x with edgeAt := some at_, normal := n, dlv := some edge }
  (s.when (6 ≤ n) (·.setFld (F.HL_STAT_ABNC h) 0)).qdHallRef h edge

/-- The recognised code of a triplet changes (R488 to R492). -/
def State.hlChange (s : State) (h code : Nat) : State :=
  if !(s.flag (F.HL_CFG_EN h) && s.loaded) then s.setFld (F.HL_STAT_CODE h) code
  else
    let a := s.fld (F.HL_STAT_SECT h)
    let b := s.hlSector h code
    let s := ((s.setFld (F.HL_STAT_CODE h) code).setFld (F.HL_STAT_SECT h) b).when (a != b) (·.mark .hlHold h)
    let s := s.when (b != 7) fun s => s.modHl h fun x => { x with seen := true }
    let s :=
      if b == 7 then s.hlAbnormal h (F.HL_STAT_INV h) (F.HL_CNT_INV_CNT h) Ev.HL_INV
      else if a == 7 || a == b then s
      else if b == (a + 1) % 6 then s.hlNormal h a b true
      else if b == (a + 5) % 6 then s.hlNormal h a b false
      else s.hlAbnormal h (F.HL_STAT_SEQ h) (F.HL_CNT_SEQ_CNT h) Ev.HL_SEQ
    s.hlQuality h

/-- The start of an enabled triplet: the code at its pins is recognised, when it is valid, and the hold counts (R490, R491). -/
def State.hlStart (s : State) (h : Nat) : State :=
  s.when (s.flag (F.HL_CFG_EN h)) fun s =>
    let k := s.fld (F.HL_STAT_CODE h)
    (s.mark .hlHold h).when (s.hlSector h k != 7) (·.hlChange h k)

def State.hlSend (s : State) (h : Nat) (th : Word) (age : Nat) : State :=
  s.when (s.hlQ h == qGood || s.hlQ h == qDegraded) (·.deliver (srcHl h) th age (s.hlQ h == qGood))

/-- The delivery in the cycle after a normal transition (R488). -/
def State.hlDeliver (s : State) (h : Nat) : State :=
  match (s.hl h).dlv with
  | none => s
  | some th => s.when (s.past .hlEdge h 1) fun s => (s.modHl h fun x => { x with dlv := none }).hlSend h th (3 + 16 * s.fld (F.HL_TIME_HFILT h))

/-- The hold delivery: the centre of the sector (R490). -/
def State.hlHold (s : State) (h : Nat) : State :=
  let k := s.fld (F.HL_STAT_SECT h)
  if k == 7 || !s.past .hlHold h (s.fld (F.HL_TIME_HHOLD h) * cyclesPerUs) then s
  else
    let s := s.mark .hlHold h
    let e0 := s.reg (Reg.HL_EDGE h k)
    let e1 := s.reg (Reg.HL_EDGE h ((k + 1) % 6))
    s.hlSend h (e0 + BitVec.ofNat 32 ((e1 - e0).toNat / 2)) 0

end Sys2Proof.Machine
end

