-- ==== Sys2Proof/Machine/Conversion.lean ====
section
/-! DEFINITION. The conversion subsystem (R102 to R158): sequences and windows, correction and scaling, results, open-wire tests,
cross-checks, the tagged queue and the estimator. -/

namespace Sys2Proof.Machine

def State.adc (s : State) (n : Nat) : Adc := vget s.adcs n Adc.reset
def State.modAdc (s : State) (n : Nat) (f : Adc → Adc) : State := { s with adcs := vmod s.adcs n f }
def State.fit (s : State) (f : Nat) : Fit := vget s.fits f Fit.reset
def State.modFit (s : State) (f : Nat) (g : Fit → Fit) : State := { s with fits := vmod s.fits f g }

/-- `FIRST`, `COUNT` and `WLEN` of a sequence. -/
def State.seqFirst (s : State) (n q : Nat) : Nat := s.fld (F.ADC_SEQ_FIRST n q)
def State.seqCount (s : State) (n q : Nat) : Nat := s.fld (F.ADC_SEQ_COUNT n q)
def State.seqWlen (s : State) (n q : Nat) : Nat := s.fld (F.ADC_SEQ_WLEN n q)
/-- The input code of an entry, and whether its codes are those of a differential pair (R109). -/
def State.entInput (s : State) (n j : Nat) : Nat := s.fld (F.ADC_ENT_INPUT n j)
def State.inputDiff (s : State) (i : Nat) : Bool := i < 0x60 && s.flag (F.AIN_CFG_DIFF i)
/-- The latency of a corrected code (R105). -/
def codeLatency : Nat := 50

/-- The last instant of a time grid of `k` cycles at or before `t`. -/
def gridAt (k t : Nat) : Nat := t / k * k

/-- The instants counted up to now, of the mode that holds since `instAt` (R102, R106, R107). -/
def State.instNow (s : State) (n : Nat) : Nat :=
  let a := s.adc n
  match a.win with
  | some w => a.insts + (s.now / 20 - max (a.instAt / 20) ((w.c0 + 39) / 20 - 1))
  | none => a.insts + (s.now / 5 - a.instAt / 5)

/-- The instants up to now are counted; those of the next mode follow cycle `t`. -/
def State.adcCount (s : State) (n t : Nat) : State :=
  let k := s.instNow n
  s.modAdc n fun a => { a with insts := k, instAt := t }

/-- The converter samples its internal references, while no sequence runs and no window is open (R115). -/
def State.adcIdle (s : State) (n : Nat) : Bool := (s.adc n).run.isNone && (s.adc n).win.isNone

/-- The internal reference that an idle converter samples at an instant `t`: the two in turn, 64 instants each, counted on the common grid
(R102, R115). DESIGN CHOICE, unsafe (log entry 64). -/
def State.refInput (s : State) (n t : Nat) : Option Nat :=
  if s.sys == sysReset || (s.adc n).failed || !s.adcIdle n then none else some (0x60 + t / 5 / 64 % 2)

/-- `ADC_STAT` shows what the converter does, and its idle time begins or ends (R115). -/
def State.adcSync (s : State) (n : Nat) : State :=
  let a := s.adc n
  let running := (a.win.map (·.run)).or a.run
  let s := (s.setFld (F.ADC_STAT_SEQ n) ((running.map (·.seq)).getD 0)).setFlag (F.ADC_STAT_BUSY n) running.isSome
  let s := (s.setFlag (F.ADC_STAT_WIN n) a.win.isSome).setFlag (F.ADC_STAT_QUEUED n) a.queued.isSome
  let s := (s.setFld (F.ADC_STAT_QSEQ n) ((a.queued.map (·.seq)).getD 0)).setFlag (F.ADC_STAT_SUSP n) a.susp.isSome
  match a.idleAt, s.adcIdle n with
  | none, true => s.modAdc n fun a => { a with idleAt := some s.now }
  | some c, false => s.modAdc n fun a => { a with idleAt := none, refAt := if c ≤ gridAt 5 s.now then some (gridAt 5 s.now) else a.refAt }
  | _, _ => s

/-! ### Instants -/

/-- The first interleaved instant at or after `t` whose slice is not excluded (R102, R121). -/
def State.sampleAt (s : State) (n t : Nat) : Nat :=
  let t := (t + 4) / 5 * 5
  ([t, t + 5, t + 10, t + 15].find? fun u => !bitOf (s.fld (F.ADC_STAT_SLEX n)) (u / 5 % 4)).getD t

/-- The instants of `k` consecutive samples taken from cycle `t` on (R102, R121, R130). -/
def State.samplesFrom (s : State) (n t : Nat) : Nat → List Nat
  | 0 => []
  | k + 1 => s.sampleAt n t :: s.samplesFrom n (s.sampleAt n t + 5) k

/-- The slice that takes an interleaved sample ("Converters and slices"). -/
def sliceAt (u : Nat) : Nat := u / 5 % 4

/-- An entry of a run that is an ordinary single sample: a window-list entry run by `SEQ_START` (R128). -/
def State.entPlain (s : State) (n : Nat) (r : SeqRun) : Bool := r.pos < s.seqWlen n r.seq
def State.runEntry (s : State) (n : Nat) (r : SeqRun) : Nat := s.seqFirst n r.seq + r.pos

/-- The number of samples of an entry (R130). -/
def State.entAvg (s : State) (n j : Nat) : Nat := 2 ^ s.fld (F.ADC_ENT_AVG n j)

/-- The sample instants of the entry at the position of a run: after its `DWELL` instants without a sample, `AVG` consecutive ones (R128,
R130). -/
def State.entTimes (s : State) (n : Nat) (r : SeqRun) : List Nat :=
  let j := s.runEntry n r
  if s.entPlain n r then s.samplesFrom n r.at_ 1
  else s.samplesFrom n ((r.at_ + 4) / 5 * 5 + 5 * s.fld (F.ADC_ENT_DWELL n j)) (s.entAvg n j)

/-- The cycle of the last sample of the entry that the converter takes. -/
def State.adcEnd (s : State) (n : Nat) : Option Nat := (s.adc n).run.map fun r => ((s.entTimes n r).getLast?).getD r.at_

/-- The pull current of converter `n` in the present cycle: the input, its direction (true: toward 1.8 V) and the `PULL` code. It is applied
during the `DWELL` instants and the samples of an open-wire test entry, and at no other time (R145, R158). -/
def State.adcPull (s : State) (n : Nat) : Option (Nat × Bool × Nat) :=
  match (s.adc n).run with
  | none => none
  | some r =>
    let j := s.runEntry n r
    let on := s.loaded && !s.entPlain n r && s.flag (F.ADC_ENT_OWT n j) && decide ((r.at_ + 4) / 5 * 5 ≤ s.now)
      && decide (s.now ≤ (s.adcEnd n).getD 0)
    if on then some (s.entInput n j, s.flag (F.ADC_ENT_OWDIR n j), s.fld (F.AIN_CFG_PULL (s.entInput n j))) else none

/-- The pull currents at the pins `AIN_00` to `AIN_95`: a differential pair has its negative side pulled in the other direction (R145). -/
def State.pinPulls (s : State) : List (Nat × Bool × Nat) :=
  ((List.range 6).filterMap s.adcPull).flatMap fun p =>
    if s.inputDiff p.1 then [p, (p.1 + 1, !p.2.1, p.2.2)] else [p]

/-! ### Starting, windows and concurrency -/

/-- A sequence overrun (R139, R141, R142). -/
def State.adcSovr (s : State) (n conv : Nat) : State :=
  (((s.setFlag (F.ADC_STAT_SOVR n) true).incSat (F.ADC_CNT_SOVR_CNT n)).raise Ev.ADC_SOVR conv n)

/-- A descriptor or entry whose parity fails (R155, R156). -/
def State.adcPerr (s : State) (n conv : Nat) : State := (s.setFlag (F.ADC_STAT_PERR n) true).raise Ev.ADC_PERR conv n

/-- The converter takes starts: it is in use and has not failed (R123). -/
def State.adcTakes (s : State) (n : Nat) : Bool := s.flag (F.ADC_CTRL_EN n) && !(s.adc n).failed

/-- What the converter runs after the samples of a sequence have ended: the suspended one, then the queued one (R143), from cycle `t` on; a
queued sequence never before its own cycle c + 10 (R104, R131). DEDUCED, unsafe (log entry 48). -/
def State.adcNext (s : State) (n t : Nat) : State :=
  let a := s.adc n
  let s := if a.win.isSome then s else match a.susp, a.queued with
    | some r, _ => s.modAdc n fun a => { a with run := some { r with at_ := t }, susp := none }
    | none, some r => s.modAdc n fun a => { a with run := some { r with at_ := max t r.at_ }, queued := none }
    | none, none => s
  s.adcSync n

/-- Consecutive interleaved samples of one external input are followed, for the skew estimate (R117). -/
def State.adcFollow (s : State) (n i : Nat) (ts : List Nat) : State :=
  s.each ts fun s u => s.modAdc n fun a =>
    let k := match a.lastIn with
      | some (i', u', k) => if i' = i && u' + 5 = u then k + 1 else 1
      | none => 1
    { a with lastIn := some (i, u, k), ran4 := if 4 ≤ k && i < 0x60 then some u else a.ran4 }

/-- In the cycle of its last sample, an entry leaves the converter: its result follows, and the run goes on with its next entry or ends (R130,
R133). -/
def State.adcSampled (s : State) (n : Nat) : State :=
  match (s.adc n).run with
  | none => s
  | some r =>
    let ts := s.entTimes n r
    let e := (ts.getLast?).getD r.at_
    if s.now < e then s
    else
      let s := s.adcFollow n (s.entInput n (s.runEntry n r)) ts
      let fin := decide (s.seqCount n r.seq ≤ r.pos + 1)
      let s := s.modAdc n fun a => { a with dues := a.dues ++ [⟨r, r.pos, e, ts.map sliceAt, b2n fin⟩] }
      if fin then (s.modAdc n fun a => { a with run := none }).adcNext n (e + 5)
      else s.modAdc n fun a => { a with run := some { r with pos := r.pos + 1, at_ := e + 5 } }

/-- `SEQ_START` on one converter (R128, R131, R137, R139, R156). -/
def State.seqStart (s : State) (n trk pc q : Nat) (perr : Bool) : State :=
  let a := s.adc n
  let conv := s.trkConv trk
  if !s.adcTakes n then s
  else if perr then s.adcPerr n conv
  else if s.seqCount n q = 0 then s
  else
    let r : SeqRun := ⟨q, pc, trk, 0, s.now, s.now + 10⟩
    if a.run.isSome || a.win.isSome then
      if a.queued.isSome then s.adcSovr n conv
      else (s.modAdc n fun a => { a with queued := some r }).adcSync n
    else (s.modAdc n fun a => { a with run := some r }).adcSync n

/-- The states of the phase channels of a fitter now (R165). -/
def State.phaseStates (s : State) (f : Nat) : List Nat :=
  [s.fld (F.FIT_PG_PG0 f), s.fld (F.FIT_PG_PG1 f), s.fld (F.FIT_PG_PG2 f)].map fun c =>
    let h := s.flag (F.PG_STAT_PINH c)
    let l := s.flag (F.PG_STAT_PINL c)
    if h && !l then 1 else if l && !h then 0 else 2

/-- The fit buffer of a parity (R173). -/
def fitBuf (f p : Nat) : Nat := 0x7F0000 + f * 0x400 + p * 0x200
def isFitBuf (a : Nat) : Bool := 0x7F0000 ≤ a && a < 0x7F0000 + 6 * 0x400
def bufF (f p : Nat) : Fld := if p = 1 then F.FIT_STAT_BUF1 f else F.FIT_STAT_BUF0 f
def State.hold (s : State) (f p : Nat) : Option Hold := if p = 1 then (s.fit f).hold1 else (s.fit f).hold0
def State.setHold (s : State) (f p : Nat) (h : Option Hold) : State :=
  (s.modFit f fun x => if p = 1 then { x with hold1 := h } else { x with hold0 := h }).setFlag (bufF f p) h.isSome

/-- The fitter opens a window: the buffer is held, `DONE` cleared, `PTAG` written, the model ports snapped (R93, R174, R177). -/
def State.fitOpen (s : State) (f trk pc q : Nat) : State :=
  s.when (s.flag (F.FIT_CFG_EN f)) fun s =>
    let p := pc % 2
    let s := s.setHold f p (some ⟨trk, pc, [], false⟩)
    let hdr := s.peek32 (fitBuf f p)
    let s := s.write32 (fitBuf f p) (Word.put (Word.put hdr 28 4 pc) 27 1 0)
    let ports := [s.sreg (Reg.FIT_MEMF f 0), s.sreg (Reg.FIT_MEMF f 1), s.sreg (Reg.FIT_MEMF f 2), s.sreg (Reg.FIT_MVDC f)]
    let w : FitWin := ⟨s.now, none, false, pc, q, ports.zip (s.fit f).fresh, [], [⟨s.now, s.phaseStates f⟩]⟩
    s.modFit f fun x => { x with wins := x.wins ++ [w], fresh := [false, false, false, false] }

/-- The fitter learns of the close of the window that opened in `c0`. -/
def State.fitClose (s : State) (f c0 : Nat) (wtmo : Bool) : State :=
  s.modFit f fun x => { x with
    wins := x.wins.map fun w => if w.c0 = c0 && w.c1.isNone then { w with c1 := some s.now, wtmo := wtmo } else w }

/-- The interface that takes its signals from a run that ends (R457, R458). -/
def State.rsEnd (s : State) (n : Nat) : State :=
  s.each [0, 1] fun s i => s.when (s.flag (F.RS_CFG_EN i) && s.fld (F.RS_CFG_ADC i) == n) (·.rsRunEnd i)

/-- A window interrupts the running once-entries: the entry in progress is aborted, and the sequence is suspended at it, or abandoned when a
suspended sequence is already held (R140, R141). The results of entries whose samples are all taken still follow. -/
def State.interrupt (s : State) (n conv : Nat) : State :=
  match (s.adc n).run with
  | none => s
  | some r =>
    if (s.adc n).susp.isNone then s.modAdc n fun a => { a with run := none, susp := some r }
    else
      let s := (s.adcSovr n conv).modAdc n fun a => { a with run := none }
      match (s.adc n).dues.getLast? with
      | some d =>
        if d.run.fired == r.fired && d.run.seq == r.seq then s.modAdc n fun a => { a with dues := a.dues.dropLast ++ [{ d with fin := 2 }] }
        else s.rsEnd n
      | none => s.rsEnd n

/-- Whether a start of a window on converter `n` meets a held buffer (R94, R144). -/
def State.bufHeld (s : State) (n pc : Nat) : Bool := s.flag (F.FIT_CFG_EN n) && (s.hold n (pc % 2)).isSome

/-- `WIN_OPEN` on one converter whose buffer is free (R106, R129, R137, R140 to R142, R156). -/
def State.winOpen (s : State) (n trk pc q : Nat) (perr : Bool) : State :=
  let conv := s.trkConv trk
  if !s.adcTakes n then s
  else if perr then s.adcPerr n conv
  else if s.seqCount n q = 0 then s
  else if (s.adc n).win.isSome then s.adcSovr n conv
  else
    let s := (s.adcCount n s.now).interrupt n conv
    let r : SeqRun := ⟨q, pc, trk, 0, s.now, s.now + 10⟩
    let s := s.modAdc n fun a => { a with win := some ⟨r, s.now, 0⟩ }
    (s.adcSync n).fitOpen n trk pc q

/-- The last window instant of a window, if it has had one (R106, R107). -/
def lastInstant (c0 c1 : Nat) : Option Nat :=
  if (c0 + 39) / 20 * 20 ≤ c1 then some (c1 / 20 * 20) else none

/-- The window of a converter closes (R107, R129, R143). A window that closes before its first instant counts the last multiple of 20 as w.
DESIGN CHOICE, unsafe (log entry 64). -/
def State.winClose (s : State) (n : Nat) (wtmo : Bool) : State :=
  match (s.adc n).win with
  | none => s
  | some w =>
    let t := (lastInstant w.c0 s.now).getD (s.now / 20 * 20) + 20
    let s := (s.adcCount n (t - 1)).modAdc n fun a => { a with win := none, lastWin := some { w with c1 := s.now } }
    let s := s.fitClose n w.c0 wtmo
    let r := { w.run with pos := s.seqWlen n w.run.seq, at_ := t }
    if r.pos < s.seqCount n r.seq then (s.modAdc n fun a => { a with run := some r }).adcSync n
    else s.adcNext n t

/-- Converters in a mask. -/
def maskAdcs (mask : Nat) : List Nat := bitList mask 6

def State.actSeqStart (s : State) (trk pc mask q perr : Nat) : State :=
  s.each (maskAdcs mask) fun s n => s.seqStart n trk pc (q % 32) (bitOf perr n)

/-- Sets `OVR` of a track, with `DL_OVR` and its count (R83, R94 to R96). -/
def State.dlOvr (s : State) (t : Nat) : State :=
  ((s.setFlag (F.DL_TRK_FLAG_OVR t) true).incSat F.DL_CNT_OVR_CNT).raise Ev.DL_OVR (s.trkConv t) t

/-- `WIN_OPEN` on the converters of a mask. The converters whose buffer is held refuse the window, and the others start it.
DESIGN CHOICE, unsafe (log entry 62). -/
def State.actWinOpen (s : State) (trk pc mask q perr : Nat) : State :=
  let held := (maskAdcs mask).filter fun n => s.bufHeld n pc
  let s := s.when (held != []) (·.dlOvr trk)
  s.each ((maskAdcs mask).filter fun n => !held.contains n) fun s n => s.winOpen n trk pc (q % 32) (bitOf perr n)

def State.actWinClose (s : State) (mask : Nat) : State := s.each (maskAdcs mask) fun s n => s.winClose n false

/-- `WIN_MAX` closes a window (R136). -/
def State.winTimeout (s : State) (n : Nat) : State :=
  match (s.adc n).win with
  | none => s
  | some w =>
    let m := s.fld (F.ADC_CTRL_WIN_MAX n)
    s.when (m != 0 && s.now == w.c0 + m) fun s =>
      (((s.winClose n true).setFlag (F.ADC_STAT_WTMO n) true).raise Ev.ADC_WTMO (s.trkConv w.run.trk) n)

/-! ### Correction and scaling -/

/-- The code range of an input (R110). -/
def codeMin (diff : Bool) : Int := if diff then -32768 else 0
def codeMax (diff : Bool) : Int := if diff then 32767 else 65535
def atEnd (diff : Bool) (x : Int) : Bool := x = codeMin diff || x = codeMax diff
/-- A raw 16-bit code as the input's mode reads it. -/
def rawCode (diff : Bool) (r : Nat) : Int := if diff then signed 16 r else (r % 65536 : Nat)

/-- c2 of R113. -/
def State.adcC2 (s : State) (n i : Nat) (r : Int) : Int :=
  let c1 := r * 16 - s.sfld (F.ADC_SL_OFS_SL_OFS n i)
  c1 + c1 * s.sfld (F.ADC_SL_GERR_SL_GERR n i) / 2 ^ 20

/-- The corrected code of c3 (R113). -/
def codeOf3 (diff : Bool) (c3 : Int) : Int := clampI (codeMin diff) (codeMax diff) ((c3 + 8) / 16)

/-- The corrected codes of the consecutive samples of one entry, each a slice and a raw code; a sample is corrected for skew when its
neighbours on both sides are samples of the entry at the adjacent instants (R113). -/
def State.corrected (s : State) (n : Nat) (diff : Bool) : Option (Nat × Int) → List (Nat × Nat) → List Int
  | _, [] => []
  | prev, (i, r) :: rest =>
    let c2 := s.adcC2 n i (rawCode diff r)
    let c3 := match prev, rest with
      | some (pi, pc2), (ni, nr) :: _ =>
        if i = (pi + 1) % 4 && ni = (i + 1) % 4 then
          c2 - (s.adcC2 n ni (rawCode diff nr) - pc2) * s.sfld (F.ADC_SL_SKEW_SL_SKEW n i) / 2 ^ 17
        else c2
      | _, _ => c2
    codeOf3 diff c3 :: s.corrected n diff (some (i, c2)) rest

/-- The signal of a code (R111), with the input's active scale. -/
def State.scaleCode (s : State) (i : Nat) (x : Int) : Int :=
  clampI (-sMax) sMax (scaleK (x - s.sfld (F.AIN_OFS_OFS i)) (s.sreg (Reg.AIN_GM i)) (31 - s.sfld (F.AIN_GS_GS i)).toNat)

/-- The signal of a result. The internal inputs have no scale, so that their signal is open. DESIGN CHOICE, safe (log entry 49). -/
def State.resultValue (s : State) (i : Nat) (x : Int) : Word × State :=
  if i < 0x60 then (wordOf (s.scaleCode i x), s) else s.free

/-! ### Results -/

/-- Writes a result register pair (R126, R127). -/
def State.writeResult (s : State) (n j pc : Nat) (code : Int) (clip opened : Bool) : State :=
  let b := pc % 2
  let i := s.entInput n j
  let (v, s) := s.resultValue i code
  let w := pc % 16 * 2 ^ 28 + 2 ^ 27 + b2n clip * 2 ^ 26 + b2n opened * 2 ^ 25 + i * 2 ^ 16 + Machine.code 16 code
  let s := (s.setReg (Reg.ADC_RESV n b j) v).setReg (Reg.ADC_RESC n b j) (BitVec.ofNat 32 w)
  s.modAdc n fun a => { a with bank1 := if b = 1 then insertNat j a.bank1 else a.bank1.erase j }

/-- A result of an entry that could not be read: the previous value, with `PERR` (R155). DEDUCED, unsafe (log entry 48). -/
def State.writePerr (s : State) (n j pc conv : Nat) : State :=
  let b := pc % 2
  let w := s.reg (Reg.ADC_RESC n b j)
  let w' := pc % 16 * 2 ^ 28 + 2 ^ 27 + 2 ^ 23 + bitsOf w.toNat 0 23
  let s := s.setReg (Reg.ADC_RESC n b j) (BitVec.ofNat 32 w')
  (s.modAdc n fun a => { a with bank1 := if b = 1 then insertNat j a.bank1 else a.bank1.erase j }).adcPerr n conv

/-- A clipped result or window sample (R110). -/
def State.adcClip (s : State) (n conv : Nat) : State :=
  ((s.setFlag (F.ADC_STAT_CLIP n) true).incSat (F.ADC_CNT_CLIP_CNT n)).raise Ev.ADC_CLIP conv n

/-! ### Cross-checks -/

/-- A resolver sample that waits for its delivery becomes bad when one of its results gets `XERR` (R458). -/
def State.rsSpoil (s : State) (n j : Nat) : State :=
  s.each [0, 1] fun s i =>
    s.when (s.flag (F.RS_CFG_EN i) && s.fld (F.RS_CFG_ADC i) == n && (s.fld (F.RS_CFG_SENT i) == j || s.fld (F.RS_CFG_CENT i) == j)
        && (s.rs i).sample.isSome) (·.rsBad i (F.RS_STAT_RFLG i))

/-- The comparison of two codes (R150, R151). The mismatch that reaches `XC_CNT` raises, and later ones only after a match.
DESIGN CHOICE, unsafe (log entry 64). -/
def State.xcCompare (s : State) (n : Nat) (x y : XcCode) : State :=
  let k := n / 2
  let m := if n % 2 = 0 then n + 1 else n - 1
  let thr : Int := s.fld (F.XC_CFG_XC_THR k)
  let d := x.code - y.code
  if -thr ≤ d ∧ d ≤ thr then { s with xcRun := vmod s.xcRun k fun _ => 0 }
  else
    let s := (s.setFlag (F.ADC_RESC_XERR n x.bank x.entry) true).setFlag (F.ADC_RESC_XERR m y.bank y.entry) true
    let s := ((s.setFlag (F.ADC_STAT_XERR n) true).setFlag (F.ADC_STAT_XERR m) true).incSat (F.XC_STAT_XC_MIS k)
    let s := (s.rsSpoil n x.entry).rsSpoil m y.entry
    let c := vget s.xcRun k 0 + 1
    let s := { s with xcRun := vmod s.xcRun k fun _ => c }
    s.when (c == s.fld (F.XC_CFG_XC_CNT k)) fun s =>
      let s := (s.setFlag (F.XC_STAT_XERR k) true).setFld (F.XC_STAT_XIN k) x.input
      (s.raise Ev.ADC_XERR (s.trkConv x.trk) n).raise Ev.ADC_XERR (s.trkConv y.trk) m

/-- A cross-checked entry gives its code: it waits for its partner's, or is compared with it in the next cycle (R148, R149). The entry index is
that of the entry store. DESIGN CHOICE, unsafe (log entry 64). -/
def State.xcCode (s : State) (n : Nat) (r : SeqRun) (j : Nat) (code : Int) : State :=
  s.when (s.flag (F.ADC_ENT_XCHK n j) && s.fld (F.XC_CFG_XC_THR (n / 2)) != 0) fun s =>
    let m := if n % 2 = 0 then n + 1 else n - 1
    let x : XcCode := ⟨j, r.seq, r.trk, r.fired, s.entInput n j, code, r.pcount % 2⟩
    let isMate (y : XcCode) : Bool := y.entry == j && y.seq == x.seq && y.trk == x.trk && y.fired == x.fired && y.input == x.input
    match (s.adc m).xc.find? isMate with
    | some y => (s.modAdc m fun a => { a with xc := a.xc.filter fun z => z.entry != j }).modAdc n fun a =>
        { a with xcDues := a.xcDues ++ [⟨s.now + 1, n, x, y⟩] }
    | none => s.modAdc n fun a => { a with xc := (a.xc.filter fun z => z.entry != j) ++ [x] }

/-! ### Open-wire tests and the tagged queue -/

/-- An open-wire test judges its input (R146, R147); the flag is `OPEN` of the result. The finding that reaches `OW_CNT` raises; later ones set
`OPEN` and raise again only after a connected test. DEDUCED, unsafe (log entry 48). DESIGN CHOICE, unsafe (log entry 64). -/
def State.owTest (s : State) (n j conv : Nat) (code : Int) : Bool × State :=
  if !s.flag (F.ADC_ENT_OWT n j) then (false, s)
  else
    let i := s.entInput n j
    let c := if s.inputDiff i then code + 32768 else code
    let found := if s.flag (F.ADC_ENT_OWDIR n j) then decide ((s.fld F.ADC_OW_OW_HI : Int) ≤ c) else decide (c ≤ (s.fld F.ADC_OW_OW_LO : Int))
    let home := n - n % 2
    let cnt := (mapGet (s.adc home).openCnt i).getD 0
    if !found then (false, s.modAdc home fun a => { a with openCnt := mapSet a.openCnt i none })
    else
      let need := s.fld F.ADC_OWCNT_OW_CNT
      let s := s.modAdc home fun a => { a with openCnt := mapSet a.openCnt i (some (cnt + 1)) }
      let opened := decide (need ≤ cnt + 1)
      let s := s.when opened (·.setFlag (F.ADC_STAT_OPEN n) true)
      (opened, s.when (cnt + 1 == need) (·.raise Ev.ADC_OPEN conv n))

/-- The tagged-queue items that a run has written. -/
def State.tqCount (s : State) (n : Nat) (r : SeqRun) : Nat :=
  (((s.adc n).items.find? fun x => x.1 == r.seq && x.2.1 == r.fired).map (·.2.2)).getD 0

/-- A word goes to the tagged-queue Gallery, or is dropped (R152, R154). -/
def State.tqWrite (s : State) (n : Nat) (r : SeqRun) (fin : Bool) (w : Nat) : State :=
  let g := s.fld (F.ADC_CTRL_TQ_GQ n)
  let conv := s.trkConv r.trk
  if !s.gqRuns g || s.flag (F.GQ_STAT_SEAL g) then s.tqDropped n conv
  else
    let k := s.tqCount n r
    let s := s.when (!fin) fun s => s.modAdc n fun a =>
      { a with items := (r.seq, r.fired, k + 1) :: a.items.filter fun x => !(x.1 == r.seq && x.2.1 == r.fired) }
    s.gqPush g (rankAdc n) (.tq n conv r.seq r.fired fin (leBytes 4 w))

/-- The item of a result (R152). -/
def State.tqItem (s : State) (n : Nat) (r : SeqRun) (j : Nat) (code : Int) (clip opened : Bool) : State :=
  s.when (s.flag (F.ADC_CTRL_TQ_EN n) && s.flag (F.ADC_ENT_TQ n j) && s.seqWlen n r.seq ≤ r.pos) fun s =>
    s.tqWrite n r false
      (2 ^ 30 + s.entInput n j * 2 ^ 23 + r.seq * 2 ^ 18 + b2n clip * 2 ^ 17 + b2n opened * 2 ^ 16 + Machine.code 16 code)

/-- A run has written its last result: its end item follows in the next cycle, if it has written an item (R153). -/
def State.tqEnd (s : State) (n : Nat) (r : SeqRun) : State :=
  s.when (s.tqCount n r != 0) fun s => s.modAdc n fun a => { a with tqEnds := a.tqEnds ++ [(s.now + 1, r)] }

/-- The end items that are due enter the Gallery, each as an item that ends its packet (R152, R153, R745). -/
def State.tqEndsDue (s : State) (n : Nat) : State :=
  let due := (s.adc n).tqEnds.filter fun x => x.1 ≤ s.now
  let s := s.modAdc n fun a => { a with tqEnds := a.tqEnds.filter fun x => !(x.1 ≤ s.now) }
  s.each due fun s x =>
    let r := x.2
    let k := s.tqCount n r
    let s := s.when (k != 0) fun s => s.tqWrite n r true (2 ^ 31 + r.seq * 2 ^ 18 + k % 65536)
    s.modAdc n fun a => { a with items := a.items.filter fun y => !(y.1 == r.seq && y.2.1 == r.fired) }

/-- The comparisons that are due (R149). -/
def State.xcDo (s : State) (n : Nat) : State :=
  let due := (s.adc n).xcDues.filter fun x => x.at_ ≤ s.now
  (s.modAdc n fun a => { a with xcDues := a.xcDues.filter fun x => !(x.at_ ≤ s.now) }).each due fun s x => s.xcCompare x.n x.x x.y

/-- The cycles in which converter `n` does by itself what no command of the table stands for: the last sample of an entry, a comparison
(R149), an end item (R153). -/
def State.adcAt (s : State) (n : Nat) : List Nat :=
  (s.adcEnd n).toList ++ (s.adc n).xcDues.map (·.at_) ++ (s.adc n).tqEnds.map (·.1)
/-- What converter `n` does by itself in this cycle. -/
def State.adcDo (s : State) (n : Nat) : State := ((s.adcSampled n).xcDo n).tqEndsDue n

/-! ### Resolver entries -/

/-- The position interfaces take a result that they name (R457). -/
def State.rsResult (s : State) (n j : Nat) (code : Int) (flagged : Bool) : State :=
  s.each [0, 1] fun s i =>
    if s.flag (F.RS_CFG_EN i) && s.fld (F.RS_CFG_ADC i) == n && (s.fld (F.RS_CFG_SENT i) == j || s.fld (F.RS_CFG_CENT i) == j) then
      let s := s.rsTake i (s.fld (F.RS_CFG_SENT i) == j) code flagged
      match (s.rs i).sin, (s.rs i).cos with
      | some a, some b => s.rsJudge i a b
      | _, _ => s
    else s

/-! ### Once-entries -/

/-- The result of an entry of a run (R130 to R133, R145 to R155). An entry that could not be read pushes no tagged-queue item.
DESIGN CHOICE, unsafe (log entry 64). -/
def State.onceResult (s : State) (n : Nat) (r : SeqRun) (samples : List (Nat × Nat)) (perr : Bool) : State :=
  let j := s.runEntry n r
  let conv := s.trkConv r.trk
  let i := s.entInput n j
  let diff := s.inputDiff i
  if perr then (s.writePerr n j r.pcount conv).rsResult n j 0 true
  else
    let codes := s.corrected n diff none samples
    let a := codes.length
    let code : Int := (codes.foldl (· + ·) 0 + (a / 2 : Nat)) / a
    let clip := (samples.any fun x => atEnd diff (rawCode diff x.2)) || codes.any (atEnd diff)
    let (opened, s) := s.owTest n j conv code
    let s := s.writeResult n j r.pcount code clip opened
    let s := s.when clip (·.adcClip n conv)
    let s := (s.tqItem n r j code clip opened).xcCode n r j code
    s.rsResult n j code (clip || opened)

/-- `ONCE_ENTRY_RESULT`: the oldest entry whose samples are all taken writes its result, 50 cycles after its last sample (R105, R133);
`samples` are the slices of its instants with their raw codes, or the entry could not be read (R155). After its last one, the run has
ended. -/
def State.onceEntry (s : State) (n : Nat) (samples : List (Nat × Nat)) (perr : Bool) : State :=
  match (s.adc n).dues with
  | [] => s
  | d :: rest =>
    if s.now != d.last + codeLatency || !(perr || samples.map (·.1) == d.slices) then s
    else
      let r := { d.run with pos := d.pos }
      let s := (s.modAdc n fun a => { a with dues := rest }).onceResult n r samples perr
      (s.when (d.fin == 1) (·.tqEnd n r)).when (d.fin != 0) (·.rsEnd n)

/-! ### Window samples -/

/-- The window to which the instant `t` belongs. -/
def State.winAt (s : State) (n t : Nat) : Option (AdcWin × Bool) :=
  match (s.adc n).win, (s.adc n).lastWin with
  | some w, l =>
    if w.c0 + 20 ≤ t then some (w, false)
    else l.bind fun l => if t ≤ l.c1 && l.c0 + 20 ≤ t then some (l, true) else none
  | none, some l => if t ≤ l.c1 && l.c0 + 20 ≤ t then some (l, true) else none
  | none, none => none

/-- `WINDOW_SAMPLE_RESULT`: the codes of the instant 50 cycles ago; `raws` by slice (R114, R122, R133, R134). -/
def State.windowSample (s : State) (n : Nat) (raws : List Nat) (perr : Nat) : State :=
  let t := s.now - codeLatency
  if s.now < codeLatency || t % 20 != 0 || (s.adc n).failed || (s.adc n).winAt == some t then s
  else match s.winAt n t with
    | none => s
    | some (w, closed) =>
      let r := w.run
      let conv := s.trkConv r.trk
      let last := closed && lastInstant w.c0 w.c1 == some t
      let s := s.modAdc n fun a => { a with winAt := some t }
      s.each (List.range (min 4 (s.seqWlen n r.seq))) fun s e =>
        let j := s.seqFirst n r.seq + e
        if bitOf (s.fld (F.ADC_STAT_SLEX n)) e then s
        else if bitOf perr e then s.writePerr n j r.pcount conv
        else
          let diff := s.inputDiff (s.entInput n j)
          let raw := rawCode diff (raws.getD e 0)
          let code := codeOf3 diff (s.adcC2 n e raw)
          let clip := atEnd diff raw || atEnd diff code
          let s := s.writeResult n j r.pcount code clip false
          let s := s.when clip (·.adcClip n conv)
          let s := s.modFit n fun x => { x with
            wins := x.wins.map fun v => if v.c0 = w.c0 then { v with samples := v.samples ++ [⟨t, e, code, clip⟩] } else v }
          s.when last (·.xcCode n r j code)

/-! ### The estimator -/

/-- The three coefficients of a slice, with their fields, limits and the flags of R120. -/
def State.coeffs (s : State) (n i : Nat) : List (Fld × Int × Fld) :=
  [(F.ADC_SL_OFS_SL_OFS n i, (s.fld (F.ADC_CORR_LIM_OFS_LIM n) : Int), F.ADC_SL_STAT_LIM_OFS n i),
   (F.ADC_SL_GERR_SL_GERR n i, (s.fld (F.ADC_CORR_LIM_GERR_LIM n) : Int) * 16, F.ADC_SL_STAT_LIM_GERR n i),
   (F.ADC_SL_SKEW_SL_SKEW n i, (s.fld (F.ADC_CORR_LIM_SKEW_LIM n) : Int), F.ADC_SL_STAT_LIM_SKEW n i)]

/-- All twelve coefficients, slice by slice. -/
def State.allCoeffs (s : State) (n : Nat) : List Int :=
  (List.range 4).flatMap fun i => (s.coeffs n i).map fun c => s.sfld c.1

/-- The converter fails: everything that it runs ends (R123). -/
def State.adcFail (s : State) (n : Nat) : State :=
  let s := s.modAdc n fun a =>
    { a with run := none, queued := none, susp := none, dues := [], items := [], tqEnds := [],
             win := none, lastWin := none, xc := [], xcDues := [], failed := true }
  (s.adcSync n).raiseAll Ev.ADC_FAIL (s.adcConvs n) n

/-- A slice is excluded (R120, R123). -/
def State.excludeSlice (s : State) (n i : Nat) (why : Fld) : State :=
  let s := ((s.setFlag why true).setFlag (F.ADC_SL_STAT_EXCL n i) true).setBit (F.ADC_STAT_SLEX n) i true
  let s := s.raiseAll Ev.ADC_SLEX (s.adcConvs n) n
  s.when ((bitList (s.fld (F.ADC_STAT_SLEX n)) 4).length == 2) (·.adcFail n)

/-- The instants over which `CONV` is judged (R118). -/
def convSpan : Nat := 65536

/-- `CONV` after an update (R118). DEDUCED, unsafe (log entry 48). -/
def State.adcConv (s : State) (n : Nat) : State :=
  let now := s.instNow n
  match (s.adc n).hist.find? fun e => e.1 + convSpan ≤ now with
  | none => s
  | some (_, old) =>
    let moved := (List.range 12).any fun k =>
      !bitOf (s.fld (F.ADC_STAT_SLEX n)) (k / 3) && decide (2 < ((s.allCoeffs n).getD k 0 - old.getD k 0).natAbs)
    if moved then s.setFlag (F.ADC_STAT_CONV n) false
    else (s.when (!s.flag (F.ADC_STAT_CONV n)) fun s => s.raiseAll Ev.ADC_CONV (s.adcConvs n) n).setFlag (F.ADC_STAT_CONV n) true

/-- The history keeps what the last 65 536 instants need. -/
def keepHist (now : Nat) : List (Nat × List Int) → List (Nat × List Int)
  | [] => []
  | e :: es => if e.1 + convSpan ≤ now then [e] else e :: keepHist now es

/-- The instants between two updates of an estimator: 256 in TEST and 4 096 in READY (R116). -/
def State.estimateGap (s : State) : Nat := if s.sys == sysTest then 256 else 4096

/-- An update falls in this cycle: an instant of the converter that is a whole number of gaps after the last update (R116). -/
def State.estimateDue (s : State) (n : Nat) : Bool :=
  let k := s.instNow n - (s.adc n).updInst
  (if (s.adc n).win.isSome then s.now % 20 == 0 else s.now % 5 == 0) && k != 0 && k % s.estimateGap == 0

/-- Samples of an internal reference have been taken since the last update, for the estimate of offset and gain (R115, R117). -/
def State.refSampled (s : State) (n : Nat) : Bool :=
  let a := s.adc n
  (match a.refAt with | some u => decide (a.updAt < u) | none => false)
    || (match a.idleAt with | some c => decide (max c (a.updAt + 1) ≤ gridAt 5 s.now) | none => false)

/-- Four consecutive samples of one external input have been taken since the last update, for the estimate of skew (R117). -/
def State.skewSampled (s : State) (n : Nat) : Bool :=
  match (s.adc n).ran4 with
  | some u => decide ((s.adc n).updAt < u)
  | none => false

/-- An update of the estimator (R116 to R120): `deltas` by slice and coefficient, each −1, 0 or 1; a coefficient whose samples give no estimate
is held. DEDUCED, unsafe (log entry 48). DESIGN CHOICE, unsafe (log entry 64). -/
def State.estimate (s : State) (n : Nat) (deltas : List Int) : State :=
  if !(s.loaded && s.flag (F.ADC_CTRL_EN n)) || (s.adc n).failed || !s.estimateDue n then s
  else
    let s := s.when ((s.adc n).hist == []) fun s => s.modAdc n fun a => { a with hist := [(a.updInst, s.allCoeffs n)] }
    let gives (k : Nat) : Bool := if k % 3 == 2 then s.skewSampled n else s.refSampled n
    let s := if s.flag (F.ADC_CORR_FREEZE n) then s else
      s.each ((List.range 12).filter gives) fun s k =>
        let i := k / 3
        let d := clampI (-1) 1 (deltas.getD k 0)
        if bitOf (s.fld (F.ADC_STAT_SLEX n)) i || d = 0 then s
        else match (s.coeffs n i)[k % 3]? with
          | none => s
          | some (f, lim, why) =>
            let v := s.sfld f + d
            if v.natAbs ≤ lim.natAbs then s.setFld f (Machine.code f.width v) else s.excludeSlice n i why
    let s := s.adcConv n
    let k := s.instNow n
    s.modAdc n fun a => { a with hist := keepHist k ((k, s.allCoeffs n) :: a.hist), updInst := k, updAt := s.now }

/-- The estimators start with the entry into TEST (step 1 of R767). -/
def State.adcTestStart (s : State) : State :=
  s.each (List.range 6) fun s n => let k := s.instNow n; s.modAdc n fun a => { a with updInst := k, updAt := s.now }

end Sys2Proof.Machine
end

