-- ==== Sys2Proof/Machine/TractionControl.lean ====
section
/-! DEFINITION. The traction field controllers (R420 to R446). -/

namespace Sys2Proof.Machine

def State.tc (s : State) (t : Nat) : Tc := vget s.tcs t Tc.reset
def State.modTc (s : State) (t : Nat) (f : Tc → Tc) : State := { s with tcs := vmod s.tcs t f }

/-- The codes of `TC_STAT.STATE` (R433). -/
def tcOff : Nat := 0
def tcCatch : Nat := 1
def tcPrefw : Nat := 2
def tcRun : Nat := 3
def tcStop : Nat := 4
def tcZero : Nat := 5
def tcRecap : Nat := 6
def tcAsc : Nat := 7
def tcFree : Nat := 8

/-- The address of an exchange word (R223). -/
def xwAddr (w : Nat) : Nat := 0x7E0000 + 4 * w

/-- Cycles of the 100 µs unit. -/
def cycles100us : Nat := 40000

def State.tcRdom (s : State) (t : Nat) : Nat := s.fld (F.TC_CFG_RDOM t)
/-- The observer is in use (R436). -/
def State.obsInUse (s : State) (t : Nat) : Bool := s.activeSrc (s.tcRdom t) == 0x40
/-- The selected observer (R436). -/
def State.obsSel (s : State) (t : Nat) : Nat :=
  let st := s.fld (F.TC_STAT_STATE t)
  if st == tcOff || st == tcFree || (st == tcCatch && s.fld (F.TC_STAT_SREQ t) == 1) then 0 else 1

/-- The delivery of an observer's angle, in the cycle after its write while the observer was selected (R436). -/
def State.obsDeliver (s : State) (t : Nat) : State :=
  match (s.tc t).obs with
  | none => s
  | some o =>
    if !s.past .obsWrite t 1 then s
    else if s.obsInUse t then
      let s := s.modTc t fun x => { x with obs := none }
      let a := if o == 0 then s.reg (Reg.TC_OBS0A t) else s.reg (Reg.TC_OBS1A t)
      let g := if o == 0 then s.fld (F.TC_OBS0G_OAGE t) else s.fld (F.TC_OBS1G_OAGE t)
      s.portDeliver (s.tcRdom t) a (g + 1)
    else s.modTc t fun x => { x with obs := none }

/-! ### Inputs (R423) -/

/-- V, E, Veff and F of a step. -/
structure TcIn where
  v    : Int
  e    : Int
  veff : Int
  f    : Int
  deriving DecidableEq, Repr

def State.tcIn (s : State) (t : Nat) : TcIn :=
  let v := s.sreg (Reg.TM_VDCU t)
  let r : Int := max 1 (s.rate (s.tcRdom t) / 65536).natAbs
  let e := min (2 ^ 31 - 1) (r * (s.reg (Reg.TC_KE t)).toNat / 65536)
  let veff := max v 0 * s.fld (F.TC_KV_KV t) / 65536
  ⟨v, e, veff, min (2 ^ 31 - 1) (veff * 256 / r)⟩

/-- E ≥ V − `VMARG` × 2⁸ (R434). -/
def State.tcNearV (s : State) (t : Nat) (i : TcIn) : Bool := decide (i.v - s.fld (F.TC_MARG_VMARG t) * 256 ≤ i.e)

/-! ### Tables (R428, R429) -/

/-- Reads words for a form of a step, through the field controller's port. -/
def State.tcRead (s : State) : List Nat → Option (List Int) × State
  | [] => (some [], s)
  | a :: as_ =>
    match s.read32 reqTc a with
    | (none, s) => (none, s)
    | (some w, s) =>
      match s.tcRead as_ with
      | (none, s) => (none, s)
      | (some ws, s) => (some (w.toInt :: ws), s)

def lerp (a b x : Int) : Int := a + rnd ((b - a) * x) 16

/-- What a form reads of the table block: its header, and for a flux the two torque limits. -/
structure TcTab where
  base : Nat
  nt   : Int
  tstep : Int
  istep : Int
  kf   : Nat
  rf   : Int
  tl   : Int
  tcon : Int
  deriving DecidableEq, Repr

def State.tcTable (s : State) (base : Nat) (f : Int) : Option TcTab × State :=
  match s.tcRead [base, base + 4, base + 8, base + 12, base + 16] with
  | (some [h, tstep, fmin, fstep, istep], s) =>
    let nt := h % 256
    let nf := h / 256 % 256
    let ff := clampI 0 ((nf - 1) * fstep) (f - fmin)
    let kf := min (nf - 2) (ff / fstep)
    let rf := (ff - kf * fstep) * 65536 / fstep
    let a := base + 0x60 + kf.toNat * (8 + 8 * nt.toNat)
    let b := a + 8 + 8 * nt.toNat
    match s.tcRead [a, a + 4, b, b + 4] with
    | (some [tl0, tc0, tl1, tc1], s) => (some ⟨base, nt, tstep, istep, kf.toNat, rf, lerp tl0 tl1 rf, lerp tc0 tc1 rf⟩, s)
    | (_, s) => (none, s)
  | (_, s) => (none, s)

/-- id* and iq* of the table at torque `tq` (R429). -/
def State.tcRefs (s : State) (tb : TcTab) (tq : Int) : Option (Int × Int) × State :=
  let t := clampI 0 ((tb.nt - 1) * tb.tstep) (tq.natAbs : Int)
  let jt := min (tb.nt - 2) (t / tb.tstep)
  let rt := (t - jt * tb.tstep) * 65536 / tb.tstep
  let rs := 8 + 8 * tb.nt.toNat
  let a (k j : Nat) : Nat := tb.base + 0x68 + k * rs + j * 8
  let j := jt.toNat
  let k := tb.kf
  match s.tcRead [a k j, a k (j + 1), a (k + 1) j, a (k + 1) (j + 1), a k j + 4, a k (j + 1) + 4, a (k + 1) j + 4, a (k + 1) (j + 1) + 4] with
  | (some [d00, d10, d01, d11, q00, q10, q01, q11], s) =>
    let id := lerp (lerp d00 d10 rt) (lerp d01 d11 rt) tb.rf
    let iq := lerp (lerp q00 q10 rt) (lerp q01 q11 rt) tb.rf
    (some (id, if tq < 0 then -iq else iq), s)
  | (_, s) => (none, s)

/-- The steady junction rise at a current (R444). -/
def State.tcRise (s : State) (tb : TcTab) (i : Int) : Option Int × State :=
  let ki := min 14 (i / tb.istep)
  let ri := min 65536 ((i - ki * tb.istep) * 65536 / tb.istep)
  match s.tcRead [tb.base + 0x20 + 4 * ki.toNat, tb.base + 0x24 + 4 * ki.toNat] with
  | (some [r0, r1], s) => (some (r0 + rnd ((r1 - r0) * ri) 16), s)
  | (_, s) => (none, s)

/-! ### Transitions (R434 to R437) -/

/-- The catch is complete (R435). -/
def State.tcCaught (s : State) (t : Nat) (o : TcData) : Bool :=
  let d := s.tcRdom t
  let x := s.dom d
  let (at_, n) := if x.lockAt ≤ o.enter then (o.enter, o.enterBnd) else (x.lockAt, x.lockBnd)
  s.domState d == dsLocked && ((s.flag (F.AD_STAT_STILL d) && !s.obsInUse t) || n + 2 ≤ x.bnds
    || at_ + s.fld (F.TC_TMO0_CATCHMIN t) * cycles100us ≤ s.now)

/-- A time of a state has elapsed since its entry step, in units of 100 µs (R434). -/
def State.tcPast (s : State) (o : TcData) (units : Nat) : Bool := decide (o.enter + units * cycles100us ≤ s.now)

/-- The state of the step and the step of R434 that was taken (0 none). `conf` counts the confident steps, this one included. -/
def State.tcNext (s : State) (t : Nat) (o : TcData) (i : TcIn) (lowM : Bool) (conf : Nat) : Nat × Nat :=
  let st := o.state
  let d := s.tcRdom t
  let ds := s.domState d
  let mode := s.fld (F.TC_CMD_MODE t)
  let sto := s.flag F.PG_STOSTAT_STOREQ
  let last := s.flag (F.TC_CTL_LAST t)
  let near := s.tcNearV t i
  let choice := if near then tcAsc else tcFree
  let use := s.obsInUse t
  let confident := decide ((s.fld (F.TC_STEPS_RCNT t)) ≤ conf)
  if st != tcFree && sto then (tcFree, 1)
  else if st != tcAsc && st != tcFree && last then (choice, 2)
  else if (st == tcOff || st == tcAsc || st == tcFree) && mode != 0 && o.mode == 0 && !last && !sto then (tcCatch, 3)
  else if st == tcCatch && mode == 0 then (tcOff, 4)
  else if st == tcCatch && (s.tcPast o (s.fld (F.TC_TMO0_CATCHTMO t)) || (s.flag (F.AD_STAT_STILL d) && use)) then (tcOff, 5)
  else if st == tcCatch && s.tcCaught t o && decide (i.veff < i.e) then (tcPrefw, 6)
  else if st == tcCatch && s.tcCaught t o then (tcRun, 7)
  else if (st == tcRun || st == tcStop || st == tcPrefw)
      && ((use && decide (s.sreg (Reg.TC_OBSCONF t) < s.fld (F.TC_CONF_CONF_LO t) * 256)) || ds == dsCoast || ds == dsLost) then (tcZero, 8)
  else if st == tcPrefw && lowM && o.lowM then (tcRun, 9)
  else if st == tcPrefw && s.tcPast o (s.fld (F.TC_TMO1_PFWTMO t)) then (choice, 10)
  else if st == tcRun && mode == 0 then (tcStop, 11)
  else if st == tcStop && mode != 0 then (tcRun, 12)
  else if st == tcStop && o.tr == 0 && decide (i.e ≤ i.veff) then (tcOff, 13)
  else if st == tcZero && s.fld (F.TC_STEPS_ZSTEPS t) ≤ o.zk then (tcRecap, 14)
  else if st == tcRecap && near then (tcAsc, 15)
  else if st == tcRecap && ds == dsLocked && (!use || confident) then
    (if mode == 0 then tcStop else if i.veff < i.e then tcPrefw else tcRun, 16)
  else if st == tcRecap && s.tcPast o (s.fld (F.TC_TMO1_RECTMO t)) then (choice, 17)
  else if st == tcFree && near && !sto then (tcAsc, 18)
  else if st == tcAsc && ds == dsLocked
      && decide (i.e < i.v - ((s.fld (F.TC_MARG_VMARG t) + s.fld (F.TC_MARG_VHYS t)) * 256 : Nat)) then (tcFree, 19)
  else (st, 0)

/-- The safe command that a state requests (R433). -/
def State.tcSreq (s : State) (t : Nat) (o : TcData) (st why : Nat) : Nat :=
  if st == tcOff || st == tcFree then 1
  else if st == tcAsc then 2
  else if st == tcCatch then
    if why == 3 then if s.fld ⟨Reg.PG_SAFE, 4 * t, 2⟩ == 2 then 2 else 1 else o.sreq
  else 0

/-! ### A form of a step -/

/-- The DC-link factors gM and gV of R431. -/
def State.tcTaper (s : State) (t : Nat) (v : Int) : Int × Int :=
  let vmin : Int := s.fld (F.TC_VMOT_VMOT_MIN t) * 256
  let vlo : Int := s.fld (F.TC_VMOT_VMOT_LO t) * 256
  let vmax : Int := s.fld (F.TC_VREG_VREG_MAX t) * 256
  let vhi : Int := s.fld (F.TC_VREG_VREG_HI t) * 256
  (clampI 0 65536 ((v - vmin) * 65536 / (vlo - vmin)), clampI 0 65536 ((vmax - v) * 65536 / (vmax - vhi)))

/-- One form of a step over the table bank at `bank` (R421 to R446); `none` after a bus error. The form reads the table currents only in the
states whose references come from them (R430). "The previous step" is the last written one.
DEDUCED, unsafe (log entry 36). -/
def State.tcForm (s : State) (t bank : Nat) : Option (TcData × Nat) × State :=
  let o := (s.tc t).last
  let i := s.tcIn t
  let var := s.fld (F.TC_STAT_VAR t)
  let seten := s.fld (F.TC_VBS_SETEN t var)
  let sets := bitList seten 2
  let d := s.tcRdom t
  match s.tcTable (bank + s.fld (F.TC_VBT_TAB t var)) i.f with
  | (none, s) => (none, s)
  | (some tb, s) =>
    -- the peak budget, on the references of the previous step (R443 to R446)
    let ref (n : Nat) : Int := ((o.words.getD n 0).toInt)
    let mags := sets.map fun k => q (addA (prod (ref (2 * k)) (ref (2 * k))) (prod (ref (2 * k + 1)) (ref (2 * k + 1))))
    let sm := mags.foldl max 0
    let icon := s.sreg (Reg.TC_ICON t)
    let c2 := q (prod icon icon)
    let qv := clampI 0 (2 ^ 48 - 1) ((o.q : Int) + sm - c2)
    let qmax : Int := (s.reg (Reg.TC_QMAX t)).toNat
    match s.tcRise tb (isqrt (sm * 2 ^ 24).toNat) with
    | (none, s) => (none, s)
    | (some tss, s) =>
      let dT := (clampI 0 (2 ^ 32 - 1) ((o.dt : Int) + (tss * 65536 - o.dt) * s.fld (F.TC_TH2_KTH t) / 2 ^ 24)).toNat
      let ntc := s.fld (F.TC_TH_NTC t)
      let valid := s.flag (F.TS_VAL_VALID ntc)
      let tj := signed 16 (s.fld (F.TS_VAL_READ ntc)) + (dT / 65536 : Nat)
      let tjmax := signed 16 (s.fld (F.TC_TH_TJMAX t))
      let exhausted := decide (qmax * 65536 ≤ qv) || !valid || decide (tjmax ≤ tj)
      let recovered := decide (qv ≤ qmax * 32768) && valid && decide (tj ≤ tjmax - s.fld (F.TC_TH2_TJHYS t))
      let der := s.fld (F.TC_DER_DERSTEPS t)
      let dg := (2 ^ 24 + der - 1) / der
      let g := if exhausted then o.g - dg else if recovered then min (2 ^ 24) (o.g + dg) else o.g
      let derate := decide (g < 2 ^ 24)
      -- the state (R434)
      let mfw := s.fld (F.TC_KV_MFW t)
      let lowM := sets.all fun k => s.fld (F.TM_SM_M t k) ≤ mfw
      let conf := if s.fld (F.TC_CONF_CONF_OK t) * 256 ≤ s.sreg (Reg.TC_OBSCONF t) then min 255 (o.conf + 1) else 0
      let (st, why) := s.tcNext t o i lowM conf
      let sreq := s.tcSreq t o st why
      let mode := s.fld (F.TC_CMD_MODE t)
      -- the allowance (R441, R442)
      let steps := s.fld (F.TC_STEPS_SETSTEPS t)
      let starts := decide ((bitList seten 2).length < (bitList o.seten 2).length)
      let a0 := if starts then if steps == 0 then 0 else max 0 ((o.tr.natAbs : Int) - tb.tl) else o.a0
      let ak := if starts then 0 else o.ak + 1
      let a := if a0 ≤ 0 || steps ≤ ak then 0 else a0 * ((steps : Int) - ak) / steps
      -- the limits (R431, R432)
      let (gM, gV) := s.tcTaper t i.v
      let lt := tb.tcon + (tb.tl - tb.tcon) * g / 2 ^ 24 + a
      let lm := min (s.sreg (Reg.TC_TMOT t)) (min (s.sreg (Reg.TC_SLIM t)) (lt * gM / 65536))
      let lg := min (s.sreg (Reg.TC_TGEN t)) (lt * gV / 65536)
      -- the ramps (R424, R427)
      let rate := (s.dom d).rate
      let sr := if mode == 2 then
          o.sr + clampI (-(s.sreg (Reg.TC_SRAMP t))) (s.sreg (Reg.TC_SRAMP t)) (s.sreg (Reg.TC_SSET t) - o.sr)
        else (rate.extractLsb' 8 32).toInt
      let ramp := s.sreg (Reg.TC_TRAMP t)
      let goal := if mode == 2 then s.sreg (Reg.TC_TREQ t) else s.sreg (Reg.TC_TSET t)
      let off := s.fld ⟨Reg.PG_SAFE, 4 * t, 2⟩ != sreq
      let tr0 := if off then 0
        else if st == tcRun then o.tr + clampI (-ramp) ramp (goal - o.tr)
        else if st == tcStop then o.tr + clampI (-ramp) ramp (0 - o.tr)
        else 0
      let motoring := decide (0 < tr0 * rate.toInt) || s.flag (F.AD_STAT_STILL d)
      let tr := if motoring then clampI (-lm) lm tr0 else clampI (-lg) lg tr0
      -- the references (R425, R430, R438)
      let zk := if st == tcZero then (if why == 8 then 1 else o.zk + 1) else 0
      let ref0 := if why == 8 then [ref 0, ref 1, ref 2, ref 3] else o.ref0
      let zs := s.fld (F.TC_STEPS_ZSTEPS t)
      let driving := st == tcPrefw || st == tcRun || st == tcStop
      match (if driving then s.tcRefs tb (if st == tcPrefw then 0 else tr) else (some (0, 0), s)) with
      | (none, s) => (none, s)
      | (some (id, iq), s) =>
        let refs : List Int :=
          if off then [0, 0, 0, 0]
          else if driving then [id, iq, id, iq]
          else if st == tcZero then ref0.map fun r => sgn r * ((r.natAbs : Int) * ((zs : Int) - zk) / zs)
          else [0, 0, 0, 0]
        let refs := [0, 1, 2, 3].map fun n => if bitOf seten (n / 2) then refs.getD n 0 else 0
        let ulim := s.sreg (Reg.TC_ULIM t)
        let limits : List Int := if off || sreq != 0 then [0, 0] else [ulim, -ulim]
        let changed := why != 0
        (some ({
          words := (refs ++ limits ++ [sr, tr]).map wordOf
          tr := tr
          sr := sr
          state := st
          sreq := sreq
          g := g
          q := qv.toNat
          dt := dT
          mode := mode
          seten := seten
          enter := if changed then s.now else o.enter
          enterBnd := if changed then (s.dom d).bnds else o.enterBnd
          zk := zk
          ref0 := ref0
          a0 := a0
          ak := ak
          conf := conf
          lt := lt
          f := i.f
          e := i.e
          tj := tj
          lowM := lowM
          vlimM := decide (gM < 65536)
          vlimG := decide (gV < 65536)
          setalw := decide (0 < a)
          derate := derate }, why), s)

/-- A step at a domain boundary: both forms, and their compare (R420 to R422). It follows the boundary, and the commits that take effect
in it, in the same cycle. `defect` says that the hardware made the second form differ.
DESIGN CHOICE, safe (log entry 22). -/
def State.tcStep (s : State) (t : Nat) (defect : Bool) : State :=
  if !s.flag (F.TC_CFG_EN t) || !(s.inForce || s.sys == sysTest) || !s.justNow .boundary (s.fld (F.TC_CFG_CDOM t)) || s.justNow .tcStep t then s
  else
    let o := (s.tc t).last
    let v := (s.tcIn t).v
    let (a, s) := s.tcForm t tabA
    let (b, s) := s.tcForm t tabB
    let p : TcPend := match a, b with
      | some (x, why), some (y, _) => if x == y && !defect then ⟨x, why, v, 0⟩ else ⟨o, 0, v, 1⟩
      | _, _ => ⟨o, 0, v, 2⟩
    (s.modTc t fun x => { x with pend := some p }).mark .tcStep t

def State.raiseTc (s : State) (e : Ev.Src) (t : Nat) : State := s.raise e t t

/-- A step is held (R422). -/
def State.tcHold (s : State) (t cause : Nat) : State :=
  let s := if cause == 1 then (s.setFlag (F.TC_FLAG_MIS t) true).raiseTc Ev.TC_MIS t
    else (s.setFlag (F.TC_FLAG_RDERR t) true).raiseTc Ev.TC_RDERR t
  (s.incSat (F.TC_CNT_HOLD_CNT t)).setFld (F.TC_STAT_HOLDHIST t) (s.fld (F.TC_STAT_HOLDHIST t) * 2 + 1)

/-- The events and flags of the transition that a written step has made (R434, R447). -/
def State.tcTransition (s : State) (t why : Nat) : State :=
  let s := s.when (why != 0) (·.raiseTc Ev.TC_STATE t)
  match why with
  | 5 => (s.setFlag (F.TC_FLAG_CATCHF t) true).raiseTc Ev.TC_CATCHF t
  | 8 => (s.setFlag (F.TC_FLAG_POSLOSS t) true).raiseTc Ev.TC_POSLOSS t
  | 10 => (s.setFlag (F.TC_FLAG_PFWF t) true).raiseTc Ev.TC_PFWF t
  | 16 => (s.incSat (F.TC_CNT_RECAP_CNT t)).raiseTc Ev.TC_RECAP t
  | 17 => (s.setFlag (F.TC_FLAG_RECAPF t) true).raiseTc Ev.TC_RECAPF t
  | _ => s

/-- The compared results of a step are written (R421). -/
def State.tcCommitStep (s : State) (t : Nat) (p : TcPend) : State :=
  let o := (s.tc t).last
  let n := p.data
  let xwb := s.fld (F.TC_CFG_XWB t)
  let s := s.each ((List.range 8).zip n.words) fun s w => s.write32 (xwAddr (xwb + w.1)) w.2
  let s := s.modTc t fun x => { x with last := n, vLast := p.v }
  let s := ((s.setFld (F.TC_STAT_STATE t) n.state).setFld (F.TC_STAT_SREQ t) n.sreq).setFld (F.TC_STAT_CONFCNT t) n.conf
  let s := ((s.setFlag (F.TC_STAT_DERATE t) n.derate).setFlag (F.TC_STAT_SETALW t) n.setalw)
  let s := (s.setFlag (F.TC_STAT_VLIMM t) n.vlimM).setFlag (F.TC_STAT_VLIMG t) n.vlimG
  let s := s.setFld (F.TC_STAT_HOLDHIST t) (s.fld (F.TC_STAT_HOLDHIST t) * 2)
  let s := (((s.setReg (Reg.TC_TR t) (wordOf n.tr)).setReg (Reg.TC_LT t) (wordOf n.lt)).setReg (Reg.TC_F t) (wordOf n.f)).setReg
    (Reg.TC_E t) (wordOf n.e)
  let s := ((s.setFld (F.TC_BUD_G t) n.g).setFld (F.TC_TJ_TJ t) (code 16 n.tj)).setFld (F.TC_TJ_DTI t) (n.dt / 65536)
  let s := s.setReg (Reg.TC_QACC t) (BitVec.ofNat 32 (n.q / 65536))
  let s := s.tcTransition t p.why
  let s := s.when (n.vlimM && !o.vlimM) (·.raiseTc Ev.TC_VLIM t)
  let s := s.when (n.vlimG && !o.vlimG) (·.raiseTc Ev.TC_VLIM t)
  let s := s.when (n.setalw && n.ak == 0) (·.raiseTc Ev.TC_SETCLIP t)
  let s := s.when (n.derate && !o.derate) (·.raiseTc Ev.TC_DERATE t)
  s.when (!n.derate && o.derate) (·.raiseTc Ev.TC_RESTORE t)

/-- Cycle c + 48 of a step: the write of its results, or the hold (R421, R422). DEDUCED, unsafe (log entry 36). -/
def State.tcWrite (s : State) (t : Nat) : State :=
  match (s.tc t).pend with
  | none => s
  | some p =>
    if !s.past .tcStep t 48 then s
    else
      let s := s.modTc t fun x => { x with pend := none }
      let s := if p.hold == 0 then s.tcCommitStep t p else s.tcHold t p.hold
      if 2 ≤ (bitList (s.fld (F.TC_STAT_HOLDHIST t)) 8).length then
        ((s.setFlag (F.TC_FLAG_HOLDESC t) true).setFld (F.TC_STAT_HOLDHIST t) 0).raiseTc Ev.TC_HOLDESC t
      else s

/-- A timeout of the state `st` of a field controller: the step that finds its time, `units` × 100 µs, elapsed (R434). -/
def State.tcTimeout (s : State) (t st units : Nat) : State :=
  s.when (s.fld (F.TC_STAT_STATE t) == st && s.tcPast (s.tc t).last units) (·.tcStep t false)

/-- Whether the last written step of a field controller had E above V − `VMARG` × 2⁸ (R47). Before the first step E and V are 0, which the
manual does not state: then the machine goes to active short-circuit.
DESIGN CHOICE, unsafe (log entry 63). -/
def State.tcAxleAsc (s : State) (t : Nat) : Bool := decide ((s.tc t).vLast - s.fld (F.TC_MARG_VMARG t) * 256 < (s.tc t).last.e)

/-- Whether the last written step of a field controller had E ≥ V − `VMARG` × 2⁸ (R611). -/
def State.tcAscWanted (s : State) (t : Nat) : Bool :=
  s.tcNearV t ⟨(s.tc t).vLast, (s.tc t).last.e, 0, 0⟩

end Sys2Proof.Machine
end

