-- ==== Sys2Proof/Machine/Outputs.lean ====
section
/-! DEFINITION. The writes of `OUT` stages to their targets (R236, R238 to R240). -/

namespace Sys2Proof.Machine

/-- Whether the target is the first word of a measurement port, which takes its age from operand B (R240). -/
def isPort (a : Nat) : Bool := 0x010400 ≤ a && a < 0x010480 && a % 8 == 0

/-- Whether the target takes an angle word (R236). -/
def angleTarget (a : Nat) : Bool :=
  isPort a || (0x040000 ≤ a && a < 0x040000 + 40 * 0x80 && 0x18 ≤ a % 0x80 && a % 0x80 ≤ 0x28)
    || [0, 1].any fun t => a == Reg.TC_OBS0A t || a == Reg.TC_OBS1A t

/-- The bits of a target register that are not reserved. -/
def outMask (a : Nat) : Nat :=
  if 0x040000 ≤ a && a < 0x040000 + 40 * 0x80 && a % 0x80 == 0x2C then 0x331
  else if [0, 1].any fun t => a == Reg.TC_OBS0G t || a == Reg.TC_OBS1G t then 0xFFF
  else 0xFFFFFFFF

/-- Exchange words. -/
def isXw (a : Nat) : Bool := 0x7E0000 ≤ a && a < 0x7E0800

/-- The index of the first instance whose register is `a`. -/
def findInst (n a : Nat) (r : Nat → Nat) : Option Nat := (List.range n).find? fun i => r i == a

/-- One value reaches its target; `age` is B[11:0] of a measurement port. -/
def State.outStore (s : State) (a : Nat) (w : Word) (age : Nat) : State :=
  if isXw a then s.write32 a w
  else if isPort a then
    let d := (a - 0x010400) / 8
    s.portDeliver d w (age % 4096)
  else if 0x028000 ≤ a && a < 0x028600 then
    let f := (a - 0x028000) / 0x100
    let x := (a % 0x100 - 0x30) / 4
    (s.setReg a w).modFit f fun v => { v with fresh := v.fresh.set x true }
  else if let some g := findInst 64 a Reg.GQ_PUSH then s.gqPushWord g w
  else if let some g := findInst 64 a Reg.GQ_PUSHE then s.gqPushEndWord g w
  else if let some g := findInst 64 a Reg.GQ_END then s.gqEndWord g w
  else if let some t := findInst 2 a Reg.TC_OBS0A then
    (s.setReg a w).when (s.obsSel t == 0) fun s => (s.mark .obsWrite t).modTc t fun x => { x with obs := some 0 }
  else if let some t := findInst 2 a Reg.TC_OBS1A then
    (s.setReg a w).when (s.obsSel t == 1) fun s => (s.mark .obsWrite t).modTc t fun x => { x with obs := some 1 }
  else
    match (List.range 4).find? fun n => a == Reg.AC_DUTY n || a == Reg.AC_UA n || a == Reg.AC_UB n with
    | some n => s.acWriteTarget n a w
    | none => s.setRegNoted a (w &&& BitVec.ofNat 32 (outMask a))

/-- The writes that one cycle makes, in order; a write to a voltage reference starts one computation of its set, at the end of the cycle
(R377, R549). -/
def State.outWrites (s : State) (l : List (Nat × Word × Nat)) : State :=
  let s := s.each l fun s x => s.outStore x.1 x.2.1 x.2.2
  let hit (a b : Nat) : Bool := l.any fun x => x.1 == a || x.1 == b
  let s := s.each [(0, 0), (0, 1), (1, 0), (1, 1)] fun s mk =>
    s.when (hit (Reg.TM_UA mk.1 mk.2) (Reg.TM_UB mk.1 mk.2)) (·.tmWant mk.1 mk.2)
  s.when (hit Reg.CH_UA Reg.CH_UB) (·.pfcWant)

/-- The writes of a pair of voltage references, each given or not. -/
def refWrites (aA aB : Nat) (ua ub : Option Word) : List (Nat × Word × Nat) :=
  (ua.map fun w => (aA, w, 0)).toList ++ (ub.map fun w => (aB, w, 0)).toList

end Sys2Proof.Machine
end

