-- ==== Sys2Proof/Machine/Sine.lean ====
section
/-! DEFINITION. The sine of an angle word (R230). The entries of `SINT` follow from its formula, rounded under R8. -/

namespace Sys2Proof.Machine

def sint0 : List Nat := [
  0, 3294197, 6588387, 9882561, 13176712, 16470832, 19764913, 23058947, 26352928, 29646846, 32940695, 36234466,
  39528151, 42821744, 46115236, 49408620, 52701887, 55995030, 59288042, 62580914, 65873638, 69166208, 72458615, 75750851,
  79042909, 82334782, 85626460, 88917937, 92209205, 95500255, 98791081, 102081675, 105372028, 108662134, 111951983, 115241570,
  118530885, 121819921, 125108670, 128397125, 131685278, 134973122, 138260647, 141547847, 144834714, 148121241, 151407418, 154693240,
  157978697, 161263783, 164548489, 167832808, 171116732, 174400254, 177683365, 180966058, 184248325, 187530159, 190811551, 194092494,
  197372981, 200653003, 203932553, 207211623]

def sint1 : List Nat := [
  210490206, 213768293, 217045877, 220322951, 223599506, 226875535, 230151030, 233425983, 236700388, 239974235, 243247517, 246520228,
  249792358, 253063900, 256334847, 259605190, 262874923, 266144037, 269412525, 272680379, 275947592, 279214155, 282480061, 285745302,
  289009871, 292273760, 295536961, 298799466, 302061269, 305322361, 308582734, 311842381, 315101294, 318359466, 321616889, 324873555,
  328129457, 331384586, 334638936, 337892498, 341145265, 344397229, 347648383, 350898719, 354148229, 357396906, 360644742, 363891729,
  367137860, 370383127, 373627523, 376871039, 380113669, 383355404, 386596237, 389836160, 393075166, 396313247, 399550396, 402786604,
  406021864, 409256170, 412489512, 415721883]

def sint2 : List Nat := [
  418953276, 422183684, 425413098, 428641510, 431868915, 435095303, 438320667, 441545000, 444768293, 447990541, 451211734, 454431865,
  457650927, 460868912, 464085813, 467301621, 470516330, 473729932, 476942419, 480153784, 483364019, 486573116, 489781069, 492987869,
  496193509, 499397981, 502601279, 505803393, 509004318, 512204045, 515402566, 518599875, 521795963, 524990823, 528184448, 531376831,
  534567963, 537757837, 540946445, 544133781, 547319836, 550504604, 553688076, 556870245, 560051103, 563230644, 566408860, 569585743,
  572761285, 575935480, 579108319, 582279796, 585449903, 588618632, 591785976, 594951927, 598116478, 601279622, 604441351, 607601658,
  610760535, 613917975, 617073970, 620228514]

def sint3 : List Nat := [
  623381597, 626533214, 629683357, 632832018, 635979190, 639124865, 642269036, 645411696, 648552837, 651692453, 654830534, 657967075,
  661102068, 664235505, 667367379, 670497682, 673626408, 676753549, 679879097, 683003045, 686125386, 689246113, 692365218, 695482694,
  698598533, 701712728, 704825272, 707936157, 711045377, 714152924, 717258790, 720362968, 723465451, 726566232, 729665303, 732762657,
  735858287, 738952185, 742044345, 745134758, 748223418, 751310318, 754395449, 757478805, 760560379, 763640163, 766718151, 769794334,
  772868706, 775941259, 779011986, 782080880, 785147934, 788213140, 791276492, 794337981, 797397602, 800455346, 803511207, 806565176,
  809617248, 812667415, 815715670, 818762005]

def sint4 : List Nat := [
  821806413, 824848888, 827889421, 830928007, 833964637, 836999305, 840032003, 843062725, 846091463, 849118210, 852142959, 855165703,
  858186434, 861205146, 864221832, 867236484, 870249095, 873259658, 876268167, 879274614, 882278991, 885281293, 888281511, 891279640,
  894275670, 897269597, 900261412, 903251109, 906238681, 909224120, 912207419, 915188572, 918167571, 921144410, 924119082, 927091578,
  930061894, 933030020, 935995952, 938959680, 941921200, 944880502, 947837582, 950792431, 953745043, 956695410, 959643527, 962589385,
  965532978, 968474299, 971413341, 974350098, 977284561, 980216725, 983146583, 986074127, 988999351, 991922247, 994842809, 997761031,
  1000676905, 1003590423, 1006501581, 1009410370]

def sint5 : List Nat := [
  1012316784, 1015220815, 1018122458, 1021021705, 1023918549, 1026812985, 1029705003, 1032594599, 1035481765, 1038366495, 1041248781, 1044128617,
  1047005996, 1049880911, 1052753356, 1055623324, 1058490807, 1061355800, 1064218296, 1067078287, 1069935767, 1072790730, 1075643168, 1078493075,
  1081340445, 1084185270, 1087027543, 1089867259, 1092704410, 1095538990, 1098370992, 1101200410, 1104027236, 1106851464, 1109673088, 1112492101,
  1115308496, 1118122266, 1120933406, 1123741907, 1126547765, 1129350972, 1132151521, 1134949406, 1137744620, 1140537157, 1143327011, 1146114174,
  1148898640, 1151680403, 1154459455, 1157235791, 1160009404, 1162780288, 1165548435, 1168313839, 1171076495, 1173836395, 1176593532, 1179347901,
  1182099495, 1184848308, 1187594332, 1190337561]

def sint6 : List Nat := [
  1193077990, 1195815611, 1198550419, 1201282406, 1204011566, 1206737894, 1209461381, 1212182023, 1214899812, 1217614743, 1220326808, 1223036002,
  1225742318, 1228445749, 1231146290, 1233843934, 1236538675, 1239230506, 1241919421, 1244605413, 1247288477, 1249968606, 1252645793, 1255320033,
  1257991319, 1260659645, 1263325005, 1265987391, 1268646799, 1271303222, 1273956652, 1276607086, 1279254515, 1281898934, 1284540337, 1287178717,
  1289814068, 1292446384, 1295075658, 1297701886, 1300325059, 1302945173, 1305562221, 1308176197, 1310787095, 1313394908, 1315999631, 1318601257,
  1321199780, 1323795194, 1326387493, 1328976672, 1331562722, 1334145640, 1336725418, 1339302051, 1341875532, 1344445856, 1347013016, 1349577007,
  1352137822, 1354695455, 1357249900, 1359801152]

def sint7 : List Nat := [
  1362349204, 1364894050, 1367435684, 1369974101, 1372509294, 1375041257, 1377569985, 1380095471, 1382617710, 1385136695, 1387652421, 1390164882,
  1392674071, 1395179983, 1397682613, 1400181953, 1402677999, 1405170744, 1407660183, 1410146309, 1412629117, 1415108601, 1417584755, 1420057573,
  1422527050, 1424993179, 1427455956, 1429915373, 1432371426, 1434824108, 1437273414, 1439719338, 1442161874, 1444601016, 1447036759, 1449469097,
  1451898025, 1454323536, 1456745625, 1459164286, 1461579513, 1463991301, 1466399644, 1468804537, 1471205973, 1473603948, 1475998455, 1478389489,
  1480777044, 1483161114, 1485541695, 1487918780, 1490292364, 1492662441, 1495029005, 1497392052, 1499751575, 1502107569, 1504460029, 1506808948,
  1509154322, 1511496144, 1513834410, 1516169113]

def sint8 : List Nat := [
  1518500249, 1520827812, 1523151796, 1525472196, 1527789006, 1530102222, 1532411836, 1534717845, 1537020243, 1539319024, 1541614182, 1543905714,
  1546193612, 1548477871, 1550758488, 1553035454, 1555308767, 1557578420, 1559844407, 1562106725, 1564365366, 1566620326, 1568871600, 1571119182,
  1573363067, 1575603250, 1577839726, 1580072488, 1582301533, 1584526854, 1586748446, 1588966305, 1591180425, 1593390801, 1595597427, 1597800298,
  1599999410, 1602194757, 1604386334, 1606574136, 1608758157, 1610938392, 1613114837, 1615287486, 1617456334, 1619621376, 1621782607, 1623940022,
  1626093615, 1628243382, 1630389318, 1632531417, 1634669675, 1636804086, 1638934646, 1641061349, 1643184190, 1645303165, 1647418268, 1649529495,
  1651636840, 1653740299, 1655839867, 1657935538]

def sint9 : List Nat := [
  1660027308, 1662115171, 1664199124, 1666279160, 1668355276, 1670427465, 1672495724, 1674560048, 1676620431, 1678676869, 1680729357, 1682777889,
  1684822463, 1686863071, 1688899710, 1690932375, 1692961061, 1694985764, 1697006478, 1699023199, 1701035921, 1703044642, 1705049354, 1707050055,
  1709046738, 1711039400, 1713028036, 1715012641, 1716993211, 1718969740, 1720942224, 1722910659, 1724875039, 1726835361, 1728791619, 1730743809,
  1732691927, 1734635967, 1736575926, 1738511798, 1740443580, 1742371266, 1744294852, 1746214334, 1748129706, 1750040965, 1751948106, 1753851125,
  1755750016, 1757644776, 1759535401, 1761421884, 1763304223, 1765182413, 1767056449, 1768926328, 1770792043, 1772653592, 1774510970, 1776364172,
  1778213194, 1780058031, 1781898680, 1783735137]

def sint10 : List Nat := [
  1785567395, 1787395453, 1789219304, 1791038945, 1792854372, 1794665579, 1796472564, 1798275322, 1800073848, 1801868138, 1803658188, 1805443994,
  1807225552, 1809002857, 1810775906, 1812544693, 1814309215, 1816069469, 1817825448, 1819577151, 1821324571, 1823067706, 1824806551, 1826541102,
  1828271355, 1829997306, 1831718951, 1833436285, 1835149305, 1836858007, 1838562387, 1840262440, 1841958164, 1843649552, 1845336603, 1847019311,
  1848697673, 1850371685, 1852041343, 1853706642, 1855367580, 1857024152, 1858676354, 1860324182, 1861967633, 1863606703, 1865241387, 1866871683,
  1868497585, 1870119090, 1871736195, 1873348896, 1874957188, 1876561069, 1878160534, 1879755579, 1881346201, 1882932396, 1884514160, 1886091490,
  1887664382, 1889232832, 1890796836, 1892356391]

def sint11 : List Nat := [
  1893911493, 1895462139, 1897008324, 1898550046, 1900087300, 1901620083, 1903148391, 1904672221, 1906191569, 1907706432, 1909216806, 1910722687,
  1912224072, 1913720957, 1915213339, 1916701215, 1918184580, 1919663432, 1921137766, 1922607580, 1924072870, 1925533632, 1926989863, 1928441560,
  1929888719, 1931331337, 1932769410, 1934202935, 1935631909, 1937056328, 1938476189, 1939891489, 1941302224, 1942708391, 1944109986, 1945507007,
  1946899450, 1948287311, 1949670588, 1951049278, 1952423376, 1953792880, 1955157787, 1956518093, 1957873795, 1959224890, 1960571374, 1961913246,
  1963250500, 1964583135, 1965911147, 1967234534, 1968553291, 1969867416, 1971176905, 1972481756, 1973781966, 1975077532, 1976368449, 1977654716,
  1978936330, 1980213287, 1981485584, 1982753219]

def sint12 : List Nat := [
  1984016188, 1985274488, 1986528117, 1987777072, 1989021349, 1990260945, 1991495859, 1992726086, 1993951624, 1995172470, 1996388621, 1997600075,
  1998806828, 2000008878, 2001206221, 2002398856, 2003586778, 2004769986, 2005948477, 2007122247, 2008291295, 2009455616, 2010615209, 2011770072,
  2012920200, 2014065591, 2015206244, 2016342154, 2017473320, 2018599738, 2019721407, 2020838322, 2021950483, 2023057886, 2024160528, 2025258407,
  2026351521, 2027439866, 2028523441, 2029602242, 2030676268, 2031745515, 2032809981, 2033869664, 2034924561, 2035974669, 2037019987, 2038060512,
  2039096240, 2040127171, 2041153301, 2042174627, 2043191149, 2044202862, 2045209766, 2046211856, 2047209132, 2048201591, 2049189230, 2050172047,
  2051150040, 2052123206, 2053091543, 2054055049]

def sint13 : List Nat := [
  2055013722, 2055967559, 2056916559, 2057860718, 2058800035, 2059734507, 2060664132, 2061588909, 2062508835, 2063423907, 2064334123, 2065239483,
  2066139982, 2067035620, 2067926393, 2068812301, 2069693341, 2070569510, 2071440807, 2072307230, 2073168776, 2074025445, 2074877232, 2075724138,
  2076566159, 2077403293, 2078235539, 2079062895, 2079885359, 2080702929, 2081515602, 2082323378, 2083126253, 2083924227, 2084717297, 2085505462,
  2086288719, 2087067067, 2087840504, 2088609028, 2089372637, 2090131330, 2090885104, 2091633959, 2092377891, 2093116900, 2093850984, 2094580141,
  2095304369, 2096023666, 2096738031, 2097447463, 2098151959, 2098851518, 2099546138, 2100235818, 2100920555, 2101600349, 2102275198, 2102945100,
  2103610053, 2104270056, 2104925108, 2105575207]

def sint14 : List Nat := [
  2106220351, 2106860539, 2107495769, 2108126040, 2108751351, 2109371699, 2109987084, 2110597504, 2111202958, 2111803443, 2112398959, 2112989505,
  2113575079, 2114155679, 2114731304, 2115301953, 2115867625, 2116428318, 2116984030, 2117534761, 2118080510, 2118621274, 2119157053, 2119687846,
  2120213650, 2120734466, 2121250291, 2121761125, 2122266966, 2122767813, 2123263665, 2123754521, 2124240379, 2124721239, 2125197099, 2125667959,
  2126133816, 2126594671, 2127050521, 2127501366, 2127947205, 2128388037, 2128823861, 2129254675, 2129680479, 2130101271, 2130517051, 2130927818,
  2131333571, 2131734308, 2132130029, 2132520733, 2132906419, 2133287086, 2133662733, 2134033360, 2134398965, 2134759547, 2135115106, 2135465641,
  2135811152, 2136151636, 2136487094, 2136817524]

def sint15 : List Nat := [
  2137142926, 2137463300, 2137778643, 2138088957, 2138394239, 2138694489, 2138989707, 2139279891, 2139565042, 2139845158, 2140120239, 2140390283,
  2140655292, 2140915263, 2141170196, 2141420091, 2141664947, 2141904763, 2142139540, 2142369275, 2142593970, 2142813623, 2143028233, 2143237801,
  2143442325, 2143641806, 2143836243, 2144025634, 2144209981, 2144389282, 2144563538, 2144732747, 2144896909, 2145056024, 2145210091, 2145359111,
  2145503082, 2145642005, 2145775879, 2145904704, 2146028479, 2146147204, 2146260880, 2146369504, 2146473079, 2146571602, 2146665075, 2146753496,
  2146836865, 2146915183, 2146988449, 2147056663, 2147119824, 2147177933, 2147230990, 2147278994, 2147321945, 2147359844, 2147392689, 2147420482,
  2147443221, 2147460907, 2147473541, 2147481120]

def sint16 : List Nat := [
  2147483647]

/-- The piece of `SINT` that holds the entries 64 p to 64 p + 63. -/
def sintPiece : Nat → List Nat
  | 0 => sint0
  | 1 => sint1
  | 2 => sint2
  | 3 => sint3
  | 4 => sint4
  | 5 => sint5
  | 6 => sint6
  | 7 => sint7
  | 8 => sint8
  | 9 => sint9
  | 10 => sint10
  | 11 => sint11
  | 12 => sint12
  | 13 => sint13
  | 14 => sint14
  | 15 => sint15
  | _ => sint16

/-- `SINT`[k], for k from 0 to 1 024. DEDUCED, safe (log entry 19). -/
def sint (k : Nat) : Int := ((sintPiece (k / 64)).getD (k % 64) 0 : Nat)

/-- f(u) of R230. -/
def sineF (u : Nat) : Int :=
  let i := u / 2 ^ 20
  if i = 1024 then sint 1024 else sint i + rnd ((sint (i + 1) - sint i) * (u / 16 % 65536 : Nat)) 16

/-- sin(θ) and cos(θ) as Q1.31 mantissas (R230). -/
def sinA (th : Word) : Int :=
  let u := th.toNat % 2 ^ 30
  match th.toNat / 2 ^ 30 with
  | 0 => sineF u
  | 1 => sineF (2 ^ 30 - u)
  | 2 => -sineF u
  | _ => -sineF (2 ^ 30 - u)
def cosA (th : Word) : Int := sinA (th + 0x40000000#32)

end Sys2Proof.Machine
end

