-- ==== Sys2Proof/Machine/View.lean ====
section
/-! DEFINITION. What a read of a register gives (R14, R836, R717, R817): the stored word, or what the block holds where the register is a
window on it. -/

namespace Sys2Proof.Machine

/-- `a` lies in an array of `n` blocks of `stride` bytes at `base`. -/
def inBlocks (a base n stride : Nat) : Bool := base ≤ a && a < base + n * stride

/-- The groups of events with an enabled pending bit (R831). -/
def State.evSum (s : State) : Nat :=
  ((List.range 32).filter fun g => Nat.land (s.fld (F.EV_PEND_PEND g)) (s.fld (F.EV_EN_IRQEN g)) != 0).foldl (fun n g => n + 2 ^ g) 0

/-- The state code of a CAN controller: bus-off becomes recovering when `BOHOLD` ms have passed (R693). -/
def State.canState (s : State) (k : Nat) : Nat :=
  let c := s.fld (F.CAN_STAT_CSTATE k)
  if c == 4 && (vget s.cans k Can.reset).boAt + s.fld (F.CAN_CFG_BOHOLD k) * cyclesPerMs ≤ s.now then 5 else c

/-- The word of a register that is a window on its block, the stored word otherwise. DEDUCED, safe (log entry 10). -/
def State.window (s : State) (a : Nat) : Word :=
  let w := s.reg a
  if inBlocks a 0x010000 16 0x40 && a % 0x40 == 0x2C then s.angle ((a - 0x010000) / 0x40)
  else if inBlocks a 0x010000 16 0x40 && a % 0x40 == 0x30 then ((s.dom ((a - 0x010000) / 0x40)).capRate >>> 16).setWidth 32
  else if inBlocks a 0x010000 16 0x40 && a % 0x40 == 0x34 then BitVec.ofNat 32 ((s.dom ((a - 0x010000) / 0x40)).capRate.toNat % 65536)
  else if inBlocks a 0x011000 32 0x20 && a % 0x20 == 0x10 then BitVec.ofNat 32 (s.trk ((a - 0x011000) / 0x20)).phi
  else if inBlocks a 0x028000 6 0x100 && a % 0x100 == 0x40 then
    let f := (a - 0x028000) / 0x100
    Word.put w 16 16 (s.fld (F.FIT_TIME_SETTLE f) + 20 * s.fld (F.FIT_TIME_NMIN f))
  else if a == Reg.TC_STAT 0 || a == Reg.TC_STAT 1 then
    let t := if a == Reg.TC_STAT 0 then 0 else 1
    Word.put (Word.put w 25 1 (b2n (s.obsInUse t))) 24 1 (s.obsSel t)
  else if inBlocks a 0x0B0000 4 0x100 && a % 0x100 == 0x10 then Word.put w 29 3 (s.canState ((a - 0x0B0000) / 0x100))
  else if a == Reg.EV_SUM then BitVec.ofNat 32 s.evSum
  else
    match (List.range 64).find? fun g => a == Reg.GQ_POPTAG g with
    | some g => s.gqPeekTag g
    | none => w

/-- Whether `a` is the address of a register. -/
def isReg (a : Nat) : Bool := a % 4 == 0 && (regRow a).isSome

/-- The word that a read of the register returns; write-only fields read as 0. DEDUCED, safe (log entry 10). -/
def State.view (s : State) (a : Nat) : Word :=
  match regRow a with
  | some r => s.window a &&& ~~~ BitVec.ofNat 32 r.wo
  | none => 0

/-- What a read does besides returning the word: a read of `AD_ANGLE` captures the rate of the same cycle, and a read of the service
port clears RC fields (R14). -/
def State.afterRead (s : State) (a : Nat) (clear : Bool) : State :=
  let s := s.when (inBlocks a 0x010000 16 0x40 && a % 0x40 == 0x2C) (·.modDom ((a - 0x010000) / 0x40) fun x => { x with capRate := x.rate })
  match regRow a with
  | some r => s.when (clear && r.rc != 0) (·.clearRead a r.rc)
  | none => s

end Sys2Proof.Machine
end

