-- ==== Sys2Proof/Machine/Engine.lean ====
section
/-! DEFINITION. The control engines (Flowstone) and their time-redundant second pass (Echo): stages, inputs, compares, releases, gain
schedules, supervision, and the profile generators (R205 to R301). -/

namespace Sys2Proof.Machine

/-- neg32 of "Time-Redundant Execution (Echo)". -/
def neg32 (w : Word) : Word := 0#32 - w

/-! ### Stages -/

/-- What a stage produces: its slot or target values, its new states (first word, whether 64 bits, value), and its `SATF` bit. -/
structure StageOut where
  outs : List Int
  sts  : List (Nat × Bool × Int)
  sat  : Bool
  deriving DecidableEq, Repr

/-- q and sat32 with whether they saturate (R215). -/
def qS (a : Int) : Int × Bool := (q a, decide (q a ≠ qRaw a))
def satS (v : Int) : Int × Bool := (sat32 v, decide (sat32 v ≠ v))
/-- A limit with whether it acts. -/
def limS (lo hi v : Int) : Int × Bool := (clampI lo hi v, decide (clampI lo hi v ≠ v))
/-- DEDUCED, unsafe (log entry 24). -/
def lim64 (v : Int) : Int × Bool := (sat64 v, decide (sat64 v ≠ v))

def coAt (co : List Coeff) (j : Nat) : Coeff := co.getD j ⟨0, 0⟩
/-- 1 ÷ 3 and 1 ÷ √3 (R235). -/
def k3 : Coeff := ⟨0x2AAAAAAB, 0⟩
def ks3 : Coeff := ⟨0x49E69D16, 0⟩

/-- `SUB`, `GAIN`, `SUM`, `SAT`, `RATE` (R231, R271). -/
def stageSub (a b : Int) : StageOut := let d := satS (a - b); ⟨[d.1], [], d.2⟩
def stageGain (co : List Coeff) (a : Int) : StageOut := let d := qS (term a (coAt co 0)); ⟨[d.1], [], d.2⟩
def stageSum (co : List Coeff) (a b c : Int) : StageOut :=
  let d := qS (addA (addA (term a (coAt co 0)) (term b (coAt co 1))) (term c (coAt co 2)))
  ⟨[d.1], [], d.2⟩
def stageSat (echo : Bool) (a b c : Int) : StageOut :=
  let hi := if echo then c else b
  let lo := if echo then b else c
  if hi < lo then ⟨[0], [], true⟩ else let d := limS lo hi a; ⟨[d.1], [], d.2⟩
def stageRate (echo : Bool) (a b c y : Int) : StageOut :=
  let up := max (if echo then -c else b) 0
  let dn := max (if echo then -b else c) 0
  let d := limS (-dn) up (a - y)
  let y' := satS (y + d.1)
  ⟨[y'.1], [(0, false, y'.1)], d.2 || y'.2⟩

/-- `PI` and `PID` (R232, R271). -/
def stagePi (pid echo : Bool) (co : List Coeff) (e b c i ep f : Int) : StageOut :=
  let hi := if echo then c else b
  let lo := if echo then b else c
  let keep (i ep f : Int) : List (Nat × Bool × Int) :=
    if pid then [(0, true, i), (2, false, ep), (3, true, f)] else [(0, true, i)]
  if hi < lo then ⟨[0], keep i ep f, true⟩
  else
    let i' := limS (lo * 2 ^ 24) (hi * 2 ^ 24) (addA i (term e (coAt co 1)))
    let u := addA (term e (coAt co 0)) i'.1
    let f' := if pid then lim64 (addA f (mulA (subA (term (e - ep) (coAt co 2)) f) (coAt co 3))) else (0, false)
    let d := qS (addA u f'.1)
    let d' := limS lo hi d.1
    ⟨[d'.1], keep i'.1 e f'.1, i'.2 || f'.2 || d.2 || d'.2⟩

/-- `RES` (R233, R271). -/
def stageRes (echo : Bool) (co : List Coeff) (h a : Int) (th phi : Word) (ic is : Int) : StageOut :=
  let sn (w : Word) : Coeff := ⟨if echo then -(sinA w) else sinA w, 0⟩
  let cs (w : Word) : Coeff := ⟨cosA w, 0⟩
  let thh := wordOf (h * th.toNat)
  let g := term a (coAt co 0)
  let m : Int := sMax * 2 ^ 24
  let ic' := limS (-m) m (addA ic (mulA g (cs thh)))
  let is' := limS (-m) m (addA is (mulA g (sn thh)))
  let tho := thh + phi
  let d := qS (addA (mulA ic'.1 (cs tho)) (mulA is'.1 (sn tho)))
  ⟨[d.1], [(0, true, ic'.1), (2, true, is'.1)], ic'.2 || is'.2 || d.2⟩

/-- `BIQ` and `LEAD` (R234). -/
def stageBiq (co : List Coeff) (x s1 s2 : Int) : StageOut :=
  let y := qS (addA (term x (coAt co 0)) s1)
  let s1' := lim64 (addA (subA (term x (coAt co 1)) (term y.1 (coAt co 3))) s2)
  let s2' := lim64 (subA (term x (coAt co 2)) (term y.1 (coAt co 4)))
  ⟨[y.1], [(0, true, s1'.1), (2, true, s2'.1)], y.2 || s1'.2 || s2'.2⟩
def stageLead (co : List Coeff) (x s : Int) : StageOut :=
  let y := qS (addA (term x (coAt co 0)) s)
  let s' := lim64 (subA (term x (coAt co 1)) (term y.1 (coAt co 2)))
  ⟨[y.1], [(0, true, s'.1)], y.2 || s'.2⟩

/-- `CLARKE`, `PARK`, `IPARK`, `DECPL` (R235, R271). -/
def stageClarke (opt : Nat) (a b c : Int) : StageOut :=
  let c := if bitOf opt 0 then -(a + b) else c
  let d := qS (term (2 * a - b - c) k3)
  let e := qS (term (b - c) ks3)
  ⟨[d.1, e.1], [], d.2 || e.2⟩
def stagePark (inv echo : Bool) (a b : Int) (th : Word) : StageOut :=
  let co : Coeff := ⟨cosA th, 0⟩
  let si : Coeff := ⟨if echo then -(sinA th) else sinA th, 0⟩
  let d := qS (if inv then subA (term a co) (term b si) else addA (term a co) (term b si))
  let e := qS (if inv then addA (term a si) (term b co) else subA (term b co) (term a si))
  ⟨[d.1, e.1], [], d.2 || e.2⟩
def stageDecpl (echo : Bool) (co : List Coeff) (id iq w : Int) : StageOut :=
  let wp := if echo then -w else w
  let d := qS (-(mulA (prod wp iq) (coAt co 1)))
  let e := qS (addA (mulA (prod wp id) (coAt co 0)) (term w (coAt co 2)))
  ⟨[d.1, e.1], [], d.2 || e.2⟩

/-- The index of a feed-forward table: i, j and f, and whether the pre-shift was limited (R252). -/
def ffIndex (mode sh : Nat) (w : Word) (a : Int) : Nat × Nat × Int × Bool :=
  let p := satS (a * 2 ^ sh)
  let u := if mode = 0 then w.toNat else ((p.1 + 2 ^ 31) % 2 ^ 32).toNat
  let i := u / 2 ^ 22
  (i, if mode = 0 then (i + 1) % 1024 else min (i + 1) 1023, (u / 64 % 65536 : Nat), mode != 0 && p.2)

/-- `FF` with its two table entries (R252, R271). -/
def stageFf (echo : Bool) (co : List Coeff) (ti tj f b : Int) (lim : Bool) : StageOut :=
  let v := satS (ti + rnd ((tj - ti) * f) 16)
  let v' := if echo then -v.1 else v.1
  let d := qS (addA (term v' (coAt co 0)) (b * 2 ^ 24))
  ⟨[d.1], [], lim || v.2 || d.2⟩

/-- The number of coefficients of a kind, and its states: first word and whether 64 bits (R228). -/
def kindCoeffs (k : Nat) : Nat := [0, 1, 3, 2, 4, 1, 5, 3, 0, 0, 1, 0, 0, 0, 3, 0].getD k 0
def kindStates (k : Nat) : List (Nat × Bool) :=
  match k with
  | 3 => [(0, true)]
  | 4 => [(0, true), (2, false), (3, true)]
  | 5 => [(0, true), (2, true)]
  | 6 => [(0, true), (2, true)]
  | 7 => [(0, true)]
  | 9 => [(0, false)]
  | _ => []
/-- The base cost of a kind (R228). -/
def kindCost (k : Nat) : Nat := [2, 3, 5, 6, 9, 10, 8, 5, 2, 3, 6, 4, 4, 4, 6, 2].getD k 0

/-- A stage descriptor. -/
structure Stage where
  kind : Nat
  a    : Nat
  b    : Nat
  c    : Nat
  d    : Nat
  k    : Nat
  t    : Nat
  opt  : Nat
  /-- `TARGET` of an `OUT` stage. -/
  target : Nat
  deriving DecidableEq, Repr

def Stage.ofWords (w0 w1 : Word) : Stage :=
  let kind := Word.get w0 28 4
  ⟨kind, Word.get w0 16 8, Word.get w0 8 8, Word.get w0 0 8, Word.get w1 24 8, Word.get w1 16 8, Word.get w1 8 8,
    if kind = 15 then Word.get w1 24 8 else Word.get w1 0 8, Word.get w1 0 24⟩

/-- The operands that a stage uses: the code, and whether it is an angle operand (R228, R252). -/
def Stage.operands (g : Stage) (ffMode : Nat → Nat) : List (Nat × Bool) :=
  match g.kind with
  | 0 => [(g.a, false), (g.b, false)]
  | 1 => [(g.a, false)]
  | 5 => [(g.a, false), (g.b, true), (g.c, true)]
  | 6 => [(g.a, false)]
  | 7 => [(g.a, false)]
  | 10 => [(g.a, ffMode (g.opt % 64) == 0), (g.b, false)]
  | 11 => if bitOf g.opt 0 then [(g.a, false), (g.b, false)] else [(g.a, false), (g.b, false), (g.c, false)]
  | 12 => [(g.a, false), (g.b, false), (g.c, true)]
  | 13 => [(g.a, false), (g.b, false), (g.c, true)]
  | 15 => if isPort g.target then [(g.a, true), (g.b, false)] else [(g.a, angleTarget g.target)]
  | _ => [(g.a, false), (g.b, false), (g.c, false)]

/-! ### Contexts, histories and flags -/

def State.ctxRun (s : State) (c : Nat) : CtxRun :=
  (s.ctxRuns.find? fun r => r.ctx == c).getD ⟨c, .none, false, false, false, 0, 0, 0, false, false, [], []⟩
def State.setCtxRun (s : State) (r : CtxRun) : State :=
  { s with ctxRuns := (s.ctxRuns.filter fun x => x.ctx < r.ctx) ++ [r] ++ (s.ctxRuns.filter fun x => r.ctx < x.ctx) }
def State.modCtxRun (s : State) (c : Nat) (f : CtxRun → CtxRun) : State := s.setCtxRun (f (s.ctxRun c))

/-- A field of a status word of a context, in loop context memory. -/
def State.cfld (s : State) (f : Fld) : Nat := Word.get (s.peek32 f.addr) f.lsb f.width
def State.setCfld (s : State) (f : Fld) (v : Nat) : State := s.write32 f.addr (Word.put (s.peek32 f.addr) f.lsb f.width v)

def State.ctxEng (s : State) (c : Nat) : Nat := s.cfld (F.CX_CFG_ENG c)
def State.ctxConv (s : State) (c : Nat) : Nat := s.cfld (F.CX_CFG_CONV c)
def State.engSplit (s : State) (n : Nat) : Bool := s.flag (F.FE_CFG_SPLIT n)
/-- A context that runs (R212, R263). -/
def State.ctxOn (s : State) (c : Nat) : Bool :=
  s.loaded && s.cfld (F.CX_CFG_EN c) == 1 && s.cfld (F.CX_CFG_NSTG c) != 0 && s.flag (F.FE_CFG_EN (s.ctxEng c))

/-- Lane `l` of engine `n`. -/
def State.lane (s : State) (n l : Nat) : Lane := vget s.lanes (2 * n + l) ⟨[], none, none⟩
def State.modLane (s : State) (n l : Nat) (f : Lane → Lane) : State := { s with lanes := vmod s.lanes (2 * n + l) f }
/-- The lane of a context (R206). -/
def State.ctxLane (s : State) (c : Nat) : Nat := if s.engSplit (s.ctxEng c) then s.cfld (F.CX_CFG_LANE c) else 0

/-- `FE_STAT` shows the lanes. -/
def State.feSync (s : State) (n : Nat) : State :=
  let a := s.lane n 0
  let b := s.lane n 1
  let ctx (l : Lane) : Nat := (l.run.map fun r => r.req.ctx).getD 0
  let s := (s.setFlag (F.FE_STAT_BUSY0 n) a.run.isSome).setFlag (F.FE_STAT_BUSY1 n) b.run.isSome
  let s := (s.setFld (F.FE_STAT_QLEN0 n) a.queue.length).setFld (F.FE_STAT_QLEN1 n) b.queue.length
  (s.setFld (F.FE_STAT_CTX1 n) (ctx b)).setFld (F.FE_STAT_CTX0 n) (ctx a)

/-- A flag of `FE_FLAG` with its event. -/
def State.feFlag (s : State) (c : Nat) (f : Nat → Fld) (e : Ev.Src) : State :=
  let n := s.ctxEng c
  ((s.setFlag (f n) true).setFld (F.FE_LASTCTX_LCTX n) c).raise e (s.ctxConv c) c

/-- The period of a start becomes held (R242, R243). -/
def State.ctxHeld (s : State) (c shift : Nat) : State :=
  let s := s.when (shift == 0) (·.setCfld (F.CX_ST0_HELD c) 1)
  if 8 ≤ shift then s
  else
    let h := putBits (s.cfld (F.CX_ST0_OVRHIST c)) shift 1 1
    if 2 ≤ (bitList h 8).length then (s.setCfld (F.CX_ST0_OVRHIST c) 0).feFlag c F.FE_FLAG_OVRESC Ev.FE_OVRESC
    else s.setCfld (F.CX_ST0_OVRHIST c) h

/-- The period of the latest started run of a context becomes held, once (R242). -/
def State.runHeld (s : State) (c : Nat) : State :=
  let r := s.ctxRun c
  if r.held then s else (s.setCtxRun { r with held := true }).ctxHeld c r.shift

/-- Whether a run is that of the latest start which its context has not skipped. A later one can be dispatched only when an `OUT_LOAD` has
found the run not complete (R95, R96). -/
def State.latestRun (s : State) (q : RunReq) : Bool := (s.ctxRun q.ctx).phase == .out && (s.ctxRun q.ctx).shift == q.shift

/-- A failed compare of a run enters the history (R284, R285). -/
def State.echoMiss (s : State) (c shift : Nat) : State :=
  if 8 ≤ shift then s
  else
    let h := putBits (s.fld (F.EC_HIST_ECHIST c)) shift 1 1
    if 2 ≤ (bitList h 8).length then
      ((s.setFld (F.EC_HIST_ECHIST c) 0).setFlag (F.EC_STAT_ESC (s.ctxEng c)) true).raise Ev.EC_ESC (s.ctxConv c) c
    else s.setFld (F.EC_HIST_ECHIST c) h

/-- The extra cost of an operand code (R229). -/
def State.operandCost (s : State) (c code : Nat) : Nat :=
  if 0x20 ≤ code && code < 0x40 then
    if Word.get (s.peek32 (ctxAddr c + 0x10 + 4 * (code - 0x20))) 28 4 == 7 then 4 else 2
  else 0

/-- The cost of stage `j` of a context (R229). -/
def State.stageCost (s : State) (c j : Nat) : Nat :=
  let g := Stage.ofWords (s.peek32 (ctxAddr c + 0x90 + 8 * j)) (s.peek32 (ctxAddr c + 0x94 + 8 * j))
  ((g.operands fun n => s.fld (F.FF_CFG_MODE n)).map fun o => s.operandCost c o.1).foldl (· + ·) (kindCost g.kind)

/-- The cost of the first `n` stages of a context (R229). -/
def State.stagesCost (s : State) (c n : Nat) : Nat := ((List.range n).map (s.stageCost c)).foldl (· + ·) 0

/-- The cost of the gain schedule of a context (R251). -/
def State.gsCost (s : State) (c : Nat) : Nat :=
  if s.cfld (F.CX_GS_GSEN c) == 1 then 4 + 2 * Word.get (s.peek32 (tabA + s.cfld (F.CX_GSADR_GSADR c) + 0x1C)) 0 6 else 0

/-- The run length L of a context (R210, R229, R251). -/
def State.runLength (s : State) (c : Nat) : Nat :=
  s.stagesCost c (s.cfld (F.CX_CFG_NSTG c)) + s.gsCost c + (if s.engSplit (s.ctxEng c) then 2 else 10)

/-! ### The work of a run -/

def CmpW.passes (c : CmpW) : Bool := c.lv == (if c.neg then (2 ^ c.width - c.ev) % 2 ^ c.width else c.ev)
/-- The low word of a copy with bits flipped. DEDUCED, unsafe (log entry 23). -/
def flipLow (v : Nat) (m : Word) : Nat := v - v % 2 ^ 32 + (BitVec.ofNat 32 v ^^^ m).toNat

/-- A run that works on the state. -/
structure EWork where
  s : State
  r : RunRec
  deriving DecidableEq, Repr

def EWork.ctx (w : EWork) : Nat := w.r.req.ctx
def EWork.eng (w : EWork) : Nat := w.s.ctxEng w.ctx
def EWork.split (w : EWork) : Bool := w.s.engSplit w.eng

/-- A read of a run; a bus error gives 0 (R259). A word of the commit group that a commit has replaced during the run is the old one
(R220). -/
def EWork.read (w : EWork) (a : Nat) : Word × EWork :=
  match w.r.old.find? fun p => p.1 == a with
  | some (_, some x) => (x, w)
  | some (_, none) => (0, { w with r := { w.r with busErr := true } })
  | none =>
    match w.s.read32 w.eng a with
    | (some x, s) => (x, { w with s := s })
    | (none, s) => (0, { s := s, r := { w.r with busErr := true } })

/-- The word of a register that a run reads: the outputs of a profile generator as they stood before this cycle (R255). -/
def State.viewRun (s : State) (a : Nat) : Word :=
  if inBlocks a 0x058000 16 0x40 && 0x20 ≤ a % 0x40 && a % 0x40 ≤ 0x28 then s.regBefore a else s.view a

/-- The value of an input descriptor (R223 to R226). -/
def EWork.input (w : EWork) (d : Word) : Word × EWork :=
  let x := d.toNat
  let pc := w.r.req.pcount
  let p := pc % 2
  let stale (w : EWork) (ok : Bool) : EWork := { w with r := { w.r with stale := w.r.stale || !ok } }
  let dom := w.r.req.latch.getD (bitsOf x 24 4) (0, 0)
  match bitsOf x 28 4 with
  | 1 =>
    let n := bitsOf x 16 3
    let j := bitsOf x 0 6
    (w.s.reg (Reg.ADC_RESV n p j), stale w (w.s.flag (F.ADC_RESC_VALID n p j) && w.s.fld (F.ADC_RESC_PTAG n p j) == pc % 16))
  | 2 =>
    let a := fitBuf (bitsOf x 16 3) p
    let i := bitsOf x 0 7
    let (hdr, w) := w.read a
    let w := stale w (Word.get hdr 27 1 == 1 && Word.get hdr 28 4 == pc % 16)
    let (v, w) := w.read (a + 4 * i)
    if 4 ≤ i && i < 20 && i % 4 != 3 then
      let (fl, w) := w.read (a + 4 * (i / 4 * 4 + 3))
      (v, { w with r := { w.r with refinv := w.r.refinv || Word.get fl 0 1 == 1 } })
    else (v, w)
  | 3 => (angleOf (dom.1 + dom.2 * BitVec.ofInt 48 (signed 17 (bitsOf x 0 17))), w)
  | 4 => ((dom.2 >>> 8).setWidth 32, w)
  | 5 =>
    let g := bitsOf x 24 4
    (match bitsOf x 0 2 with
      | 0 => w.s.viewRun (Reg.PF_POS g)
      | 1 => w.s.viewRun (Reg.PF_VEL g)
      | 2 => w.s.viewRun (Reg.PF_ACC g)
      | _ => 0, w)
  | 6 => w.read (xwAddr (bitsOf x 0 9))
  | 7 =>
    let a := bitsOf x 0 24
    (w.s.viewRun a, { w with s := w.s.afterRead a false })
  | _ => (0, w)

/-- The value of operand `code` in the lead pass, with R216 for a signal operand. -/
def EWork.leadOf (w : EWork) (code : Nat) (angle : Bool) : Word × EWork :=
  let (v, w) :=
    if code < 0x20 then (w.r.lead.getD code 0, w)
    else if code < 0x40 then
      let (d, w) := w.read (ctxAddr w.ctx + 0x10 + 4 * (code - 0x20))
      w.input d
    else if code < 0x60 then w.read (ctxAddr w.ctx + 0x150 + 4 * (code - 0x40))
    else (0, w)
  let (v, w) := if !angle && v == 0x80000000#32 then
      (0x80000001#32, { w with s := w.s.feFlag w.ctx F.FE_FLAG_NEGMAX Ev.FE_NEGMAX }) else (v, w)
  (v, { w with r := { w.r with reads := (code, v) :: w.r.reads } })

/-- Both passes' values of an operand (R265, R266). -/
def EWork.operand (w : EWork) (code : Nat) (angle : Bool) : (Word × Word) × EWork :=
  let (v, w) := w.leadOf code angle
  ((v, if code < 0x20 then w.r.echo.getD code 0 else neg32 v), w)

/-- The operands of a stage, in order. -/
def EWork.operands (w : EWork) : List (Nat × Bool) → List (Word × Word) × EWork
  | [] => ([], w)
  | (c, an) :: rest =>
    let (v, w) := w.operand c an
    let (vs, w) := w.operands rest
    (v :: vs, w)

/-- Reads words at the given addresses. -/
def EWork.readMany (w : EWork) : List Nat → List Word × EWork
  | [] => ([], w)
  | a :: as =>
    let (v, w) := w.read a
    let (vs, w) := w.readMany as
    (v :: vs, w)

def slotAddr (c j : Nat) : Nat := ctxAddr c + 0x1D0 + 8 * j
/-- The coefficients `k` to `k + n − 1` of the context. -/
def EWork.coeffs (w : EWork) (k n : Nat) : List Coeff × EWork :=
  let (ms, w) := w.readMany ((List.range n).map fun j => slotAddr w.ctx (k + j))
  let (ss, w) := w.readMany ((List.range n).map fun j => slotAddr w.ctx (k + j) + 4)
  ((ms.zip ss).map fun p => ⟨p.1.toInt, signed 6 (Word.get p.2 0 6)⟩, w)

/-- The states of a stage, read from `base`. -/
def EWork.states (w : EWork) (base t : Nat) : List (Nat × Bool) → List Int × EWork
  | [] => ([], w)
  | (j, wide) :: rest =>
    let a := base + 4 * (t + j)
    let (lo, w) := w.read a
    let (v, w) := if wide then let (hi, w) := w.read (a + 4); (signed 64 (lo.toNat + hi.toNat * 2 ^ 32), w) else (lo.toInt, w)
    let (vs, w) := w.states base t rest
    (v :: vs, w)

def leadState (c : Nat) : Nat := ctxAddr c + 0x320
def echoState (c : Nat) : Nat := ctxAddr c + 0x390

/-- One pass of one stage (R231 to R235, R252, R267 to R271). -/
def EWork.pass (w : EWork) (g : Stage) (echo : Bool) (ops : List Word) : StageOut × EWork :=
  let x (i : Nat) : Word := ops.getD i 0
  let v (i : Nat) : Int := (x i).toInt
  let (co, w) := w.coeffs g.k (kindCoeffs g.kind)
  let (st, w) := w.states (if echo then echoState w.ctx else leadState w.ctx) g.t (kindStates g.kind)
  let z (i : Nat) : Int := st.getD i 0
  match g.kind with
  | 0 => (stageSub (v 0) (v 1), w)
  | 1 => (stageGain co (v 0), w)
  | 2 => (stageSum co (v 0) (v 1) (v 2), w)
  | 3 => (stagePi false echo co (v 0) (v 1) (v 2) (z 0) 0 0, w)
  | 4 => (stagePi true echo co (v 0) (v 1) (v 2) (z 0) (z 1) (z 2), w)
  | 5 => (stageRes echo co (signed 8 g.opt) (v 0) (x 1) (x 2) (z 0) (z 1), w)
  | 6 => (stageBiq co (v 0) (z 0) (z 1), w)
  | 7 => (stageLead co (v 0) (z 0), w)
  | 8 => (stageSat echo (v 0) (v 1) (v 2), w)
  | 9 => (stageRate echo (v 0) (v 1) (v 2) (z 0), w)
  | 10 =>
    let n := g.opt % 64
    let (i, j, f, lim) := ffIndex (w.s.fld (F.FF_CFG_MODE n)) (w.s.fld (F.FF_CFG_SH n))
      (if echo then neg32 (x 0) else x 0) (if echo then -(v 0) else v 0)
    let base := tabA + w.s.fld (F.FF_CFG_BLK n) * 0x1000 + (if echo then bankSize else 0)
    let (ti, w) := w.read (base + 4 * i)
    let (tj, w) := w.read (base + 4 * j)
    (stageFf echo co ti.toInt tj.toInt f (v 1) lim, w)
  | 11 => (stageClarke g.opt (v 0) (v 1) (v 2), w)
  | 12 => (stagePark false echo (v 0) (v 1) (x 2), w)
  | 13 => (stagePark true echo (v 0) (v 1) (x 2), w)
  | 14 => (stageDecpl echo co (v 0) (v 1) (v 2), w)
  | _ => (⟨[v 0], [], false⟩, w)

def setSlots (l : List Word) (d : Nat) : List Int → List Word
  | [] => l
  | v :: vs => setSlots (l.set d (wordOf v)) (d + 1) vs

/-- The writes of a state value to its words. -/
def stateWords (base t : Nat) (j : Nat) (wide : Bool) (v : Int) : List (Nat × Word) :=
  let a := base + 4 * (t + j)
  if wide then [(a, wordOf v), (a + 4, wordOf (v / 2 ^ 32))] else [(a, wordOf v)]

/-- A compared write of stage `stg`. -/
def cmpW (wkind stg widx width : Nat) (neg : Bool) (lv ev : Nat) : CmpW := ⟨0, wkind, stg, widx, width, neg, lv, ev, false⟩

/-- The compared writes of a stage or of the gain schedule enter the compare buffer, with cycle `at_` of their compare, changed by the
armed injection and by the faults of the hardware (R277, R299, R300). No compare of a run is evaluated after a bus error, and none on a
split engine (R286, R289).
DEDUCED, unsafe (log entry 23). -/
def EWork.compare (w : EWork) (at_ : Nat) (l : List CmpW) : EWork :=
  if w.split || w.r.busErr then w
  else
    let mask := w.s.reg (Reg.EC_INJM w.eng)
    let hit (m : CmpW) : Bool :=
      w.r.armed && !w.r.flipped && mask != 0 && m.wkind != 3 && m.stg == w.s.fld (F.EC_INJ_STG w.eng)
    let inj := l.findIdx? hit
    let l := l.zipIdx.map fun (m, i) =>
      let m := { m with at_ := at_ }
      let m := if inj == some i then
          (if w.s.flag (F.EC_INJ_PASS w.eng) then { m with ev := flipLow m.ev mask, inj := true }
            else { m with lv := flipLow m.lv mask, inj := true }) else m
      match w.r.faults.find? fun x => x.1 == w.r.ncmp + i with
      | some x => { m with ev := flipLow m.ev x.2 }
      | none => m
    { w with r := { w.r with cmps := w.r.cmps ++ l, ncmp := w.r.ncmp + l.length, flipped := w.r.flipped || inj.isSome } }

/-- Nothing of a run that has become stale, or has met a bus error, is released any more, and after a bus error no compare is evaluated
(R227, R259, R286).
DEDUCED, unsafe (log entry 25). -/
def EWork.stop (w : EWork) : EWork :=
  if w.r.busErr then { w with r := { w.r with rel := [], cmps := [] } }
  else if w.r.stale then { w with r := { w.r with rel := [] } }
  else w

/-- One stage in both passes, with its compared writes (R268 to R277): it starts now and has the cost `k`. On a split engine there is no Echo
pass (R205).
DEDUCED, unsafe (log entry 24). DEDUCED, unsafe (log entry 21). -/
def EWork.stage (w : EWork) (idx k : Nat) (g : Stage) : EWork :=
  let (ops, w) := w.operands (g.operands fun n => w.s.fld (F.FF_CFG_MODE n))
  let (l, w) := w.pass g false (ops.map (·.1))
  let (e, w) := if w.split then (l, w) else w.pass g true (ops.map (·.2))
  let w := { w with r := { w.r with satf := if l.sat then w.r.satf + 2 ^ idx else w.r.satf } }
  let satCmp := cmpW 2 idx 0 32 false (b2n l.sat) (b2n e.sat)
  if g.kind = 15 then
    let j := w.r.nout
    let va := ops.getD 0 (0, 0)
    let vb := ops.getD 1 (0, 0)
    let age := if isPort g.target then [cmpW 0 idx j 32 true vb.1.toNat vb.2.toNat] else []
    let out : OutRel := ⟨w.s.now + k + (if w.split then 0 else 8), j, g.target, bitOf g.opt 0, va.1, Word.get vb.1 0 12⟩
    let w := w.compare (w.s.now + k + 7) ([cmpW 0 idx j 32 true va.1.toNat va.2.toNat] ++ age ++ [satCmp])
    ({ w with r := { w.r with nout := j + 1, rel := if w.r.mis then w.r.rel else w.r.rel ++ [out] } } : EWork).stop
  else
    let stCmp := (l.sts.zip e.sts).map fun (a, b) =>
      let n := if a.2.1 then 64 else 32
      cmpW 1 idx (g.t + a.1) n true (code n a.2.2) (code n b.2.2)
    let sw := l.sts.flatMap (fun a => stateWords (leadState w.ctx) g.t a.1 a.2.1 a.2.2)
      ++ (if w.split then [] else e.sts.flatMap (fun a => stateWords (echoState w.ctx) g.t a.1 a.2.1 a.2.2))
    let w := w.compare (w.s.now + k + 7) (stCmp ++ [satCmp])
    ({ w with r := { w.r with
        lead := setSlots w.r.lead g.d l.outs
        echo := setSlots w.r.echo g.d e.outs
        stateW := w.r.stateW ++ sw } } : EWork).stop

/-- The value of an operand at the run's end: as the lead pass has it, or read once when no stage has read it (R245). -/
def EWork.atEnd (w : EWork) (code : Nat) : Word × EWork :=
  if code < 0x20 then (w.r.lead.getD code 0, w)
  else match w.r.reads.find? fun p => p.1 == code with
    | some p => (p.2, w)
    | none => w.leadOf code false

/-- Whether the supervision condition is met at the run's end (R244, R245). -/
def EWork.supervise (w : EWork) : EWork :=
  let (sv, w) := w.read (Reg.CX_SUPV w.ctx)
  let watch := Word.get sv 16 8
  match Word.get sv 30 2 with
  | 1 => { w with r := { w.r with sup := bitOf w.r.satf watch } }
  | 2 =>
    let (v, w) := w.atEnd watch
    let (lim, w) := w.read (ctxAddr w.ctx + 0x150 + 4 * Word.get sv 24 5)
    { w with r := { w.r with sup := decide (lim.toInt < v.toInt.natAbs) } }
  | _ => { w with r := { w.r with sup := false } }

/-! ### Gain scheduling -/

/-- The new column or row (R248). -/
def gsMove (cur : Nat) (x : Int) (bs : List Int) (hys : Int) : Nat :=
  let up := (bs.filter fun b => b + hys ≤ x).length
  let down := (bs.filter fun b => b - hys ≤ x).length
  if cur < up then up else if down < cur then down else cur

/-- A read of `n` words of a gain-set block; `none` after a bus error (R260). -/
def EWork.block (w : EWork) (a n : Nat) : Option (List Word) × EWork :=
  let (ws, s) := w.s.readWords w.eng a n
  (ws, { w with s := s })

/-- What one pass makes of the gain schedule (R248, R249, R273); `none` after a bus error of a read of the block (R260). -/
def EWork.gsPass (w : EWork) (base : Nat) (x y : Int) (oldReg oldJ : Nat) (old : List Int) : Option GsRec × EWork :=
  match w.block base 8 with
  | (none, w) => (none, w)
  | (some h, w) =>
    let b (i : Nat) : Int := (h.getD i 0).toInt
    let nco := Word.get (h.getD 7 0) 0 6
    let first := Word.get (h.getD 7 0) 8 5
    let tb := Word.get (h.getD 7 0) 16 3
    let col := gsMove (oldReg % 4) x [b 0, b 1, b 2] (b 6)
    let row := gsMove (oldReg / 4) y [b 3, b 4, b 5] (b 6)
    let reg := 4 * row + col
    if reg ≠ oldReg then
      let (ws, w) := w.readMany ((List.range nco).map fun i => slotAddr w.ctx (first + i))
      (some ⟨[], reg, 0, true, ws.map (·.toInt)⟩, w)
    else if oldJ < 2 ^ tb then
      match w.block (base + 0x20 + reg * nco * 8) (2 * nco) with
      | (none, w) => (none, w)
      | (some ws, w) =>
        let j := oldJ + 1
        let m (i : Nat) : Int :=
          let o := old.getD i 0
          o + rnd (((ws.getD (2 * i) 0).toInt - o) * j) tb
        (some ⟨(List.range nco).map fun i => (slotAddr w.ctx (first + i), wordOf (m i)), reg, j, false, old⟩, w)
    else (some ⟨[], reg, oldJ, false, old⟩, w)

/-- The compared writes of the two gain-schedule updates. -/
def gsCmps (l e : GsRec) : List CmpW :=
  let one (a b : Nat) : CmpW := cmpW 3 0x1F 0 32 false a b
  [one (l.reg % 4) (e.reg % 4), one (l.reg / 4) (e.reg / 4), one l.j e.j]
    ++ (l.words.zip e.words).map fun p => one p.1.2.toNat p.2.2.toNat

/-- Both gain-schedule updates of a run, of cost `k` (R249, R251, R260, R273). -/
def EWork.schedule (w : EWork) (k : Nat) : EWork :=
  let (cx, w) := w.read (Reg.CX_GS w.ctx)
  if Word.get cx 31 1 != 1 then w
  else
    let gx := Word.get cx 16 8
    let gy := Word.get cx 8 8
    let (x, w) := w.atEnd gx
    let (y, w) := w.atEnd gy
    let ex (code : Nat) (v : Word) : Int := if code < 0x20 then (neg32 (w.r.echo.getD code 0)).toInt else v.toInt
    let ea := ex gx x
    let eb := ex gy y
    let (ga, w) := w.read (Reg.CX_GSADR w.ctx)
    let (st, w) := w.read (Reg.CX_ST0 w.ctx)
    let base := tabA + Word.get ga 0 21
    let reg := Word.get st 12 4
    let j := Word.get st 0 8
    let old := (w.s.ctxRun w.ctx).gsOld
    let (l, w) := w.gsPass base x.toInt y.toInt reg j old
    let (e, w) := if w.split then (l, w) else w.gsPass (base + bankSize) ea eb reg j old
    match l, e with
    | some l, some e =>
      let w := w.compare (w.s.now + k + 7) (gsCmps l e)
      ({ w with r := { w.r with gs := some l } } : EWork).stop
    | _, _ => ({ w with r := { w.r with gsErr := true } } : EWork).stop

/-! ### Starts -/

/-- The fit buffers of a period are held by the loops that it starts (R93). DEDUCED, unsafe (log entry 18). -/
def State.holdLoop (s : State) (trk pc c : Nat) : State :=
  s.each (List.range 6) fun s f => s.each [0, 1] fun s p =>
    match s.hold f p with
    | some h => s.when (h.trk == trk && h.pcount == pc) (·.setHold f p (some { h with loops := h.loops ++ [c], begun := true }))
    | none => s

/-- A loop of a period has fired its `OUT_LOAD` (R93). -/
def State.holdRelease (s : State) (trk pc c : Nat) : State :=
  s.each (List.range 6) fun s f => s.each [0, 1] fun s p =>
    match s.hold f p with
    | some h => s.when (h.trk == trk && h.pcount == pc) (·.setHold f p (some { h with loops := h.loops.erase c }))
    | none => s

/-- Among entry `j` and the delay entries that follow it, up to `hi`, is a `LOOP_START`. -/
def State.chainLoops (s : State) (j hi : Nat) : Bool :=
  match (List.range' j (hi - j)).map s.entry with
  | [] => false
  | e :: es => e.action == actLoop || (es.takeWhile (·.delay)).any fun e => e.action == actLoop

/-- Whether an entry of track `t` can still start a loop of the period with the count `pc`: an armed or a late entry of the period, or an
entry that the present period has not reached. -/
def State.loopsLeft (s : State) (t pc : Nat) : Bool :=
  let k := s.trk t
  let hi := (s.schedRange t).2
  ((k.armed ++ k.late).any fun a => a.pcount == pc && s.chainLoops a.entry a.hi)
    || (pc == s.fld (F.DL_TRK_PCOUNT_PCOUNT t) && (List.range' k.next (hi - k.next)).any fun j => (s.entry j).action == actLoop)

/-- A fit buffer is released when every loop started in its period has fired its `OUT_LOAD` and no entry can start another; where no loop
has started, when the period has ended (R93).
DEDUCED, unsafe (log entry 18). -/
def State.holdsSettle (s : State) : State :=
  s.each (List.range 6) fun s f => s.each [0, 1] fun s p =>
    match s.hold f p with
    | some h =>
      s.when (h.loops == [] && (h.begun || h.pcount != s.fld (F.DL_TRK_PCOUNT_PCOUNT h.trk)) && !s.loopsLeft h.trk h.pcount)
        (·.setHold f p none)
    | none => s

/-- The capacity of a lane queue (R208). -/
def laneQueueSize : Nat := 8

/-- Applies a change to the request of a run. -/
def RunRec.onReq (r : RunRec) (f : RunReq → RunReq) : RunRec := { r with req := f r.req }

/-- `LOOP_START` of context `c` by an entry of track `trk` with period count `pc` (R95, R207, R208, R212, R242, R284). -/
def State.loopStart (s : State) (trk pc c : Nat) : State :=
  if !s.ctxOn c then s
  else
    let n := s.ctxEng c
    let l := s.ctxLane c
    let s := s.setCfld (F.CX_ST0_OVRHIST c) (s.cfld (F.CX_ST0_OVRHIST c) * 2)
    let s := s.setCfld (F.CX_ST0_HELD c) 0
    let s := s.setFld (F.EC_HIST_ECHIST c) (s.fld (F.EC_HIST_ECHIST c) * 2)
    let up (r : RunReq) : RunReq := if r.ctx == c then { r with shift := r.shift + 1 } else r
    let s := s.modLane n l fun x =>
      { x with queue := x.queue.map up, run := x.run.map (·.onReq up), ended := x.ended.map (·.onReq up) }
    let r := { s.ctxRun c with shift := (s.ctxRun c).shift + 1 }
    let s := s.setCtxRun r
    let new : CtxRun := { r with phase := .out, released := false, mis := false, held := false, shift := 0, trk := trk, pcount := pc,
                                 loaded := false, skip := false }
    if (r.phase == .out || r.phase == .complete) && !r.loaded then ((s.setCtxRun { r with skip := true }).dlOvr trk).ctxHeld c 0
    else if laneQueueSize ≤ (s.lane n l).queue.length then
      let s := (s.incSat (F.FE_CNT_QOVR_CNT n)).feFlag c F.FE_FLAG_QOVR Ev.FE_QOVR
      (s.setCtxRun { new with phase := .skipped }).runHeld c
    else
      let latch := (List.range 16).map fun d => ((s.dom d).acc, (s.dom d).rate)
      let s := s.modLane n l fun x => { x with queue := x.queue ++ [⟨c, pc, trk, s.now, latch, 0, false⟩] }
      ((s.setCtxRun new).holdLoop trk pc c).feSync n

/-! ### Runs -/

/-- The eight lanes, as engine and lane. -/
def allLanes : List (Nat × Nat) := [(0, 0), (0, 1), (1, 0), (1, 1), (2, 0), (2, 1), (3, 0), (3, 1)]

/-- The first failed compare of a run is recorded (R283 to R285, R301). -/
def State.echoFail (s : State) (c shift : Nat) (m : CmpW) (noesc : Bool) : State :=
  let n := s.ctxEng c
  let s := s.when (!s.flag (F.EC_STAT_MIS n)) fun s =>
    let s := ((s.setFld (F.EC_LAST_WKIND n) m.wkind).setFld (F.EC_LAST_STG n) m.stg).setFld (F.EC_LAST_WIDX n) m.widx
    ((s.setFld (F.EC_LAST_CTX n) c).setReg (Reg.EC_LVAL n) (BitVec.ofNat 32 m.lv)).setReg (Reg.EC_EVAL n) (BitVec.ofNat 32 m.ev)
  let s := ((s.setFlag (F.EC_STAT_MIS n) true).incSat (F.EC_CNT_MIS_CNT n)).raise Ev.EC_MIS (s.ctxConv c) c
  s.when (!noesc) (·.echoMiss c shift)

/-- A compare of the run of a lane (R276, R280 to R283). -/
def State.compareDo (s : State) (n l : Nat) (m : CmpW) : State :=
  match (s.lane n l).run with
  | none => s
  | some r =>
    let s := s.when m.inj (·.setFlag (F.EC_STAT_INJD n) true)
    if r.mis || m.passes then s
    else
      let rel := (r.rel.filter fun o => o.due ≤ s.now).map fun o => { o with imm := false }
      let s := s.modLane n l fun x => { x with run := some { r with mis := true, rel := rel } }
      let s := s.when (s.latestRun r.req) (·.modCtxRun r.req.ctx fun x => { x with mis := true })
      s.echoFail r.req.ctx r.req.shift m (m.inj && s.flag (F.EC_INJ_NOESC n))

/-- The compares of this cycle (R277). -/
def State.laneCompares (s : State) (n l : Nat) : State :=
  match (s.lane n l).run with
  | none => s
  | some r =>
    (s.modLane n l fun x => { x with run := some { r with cmps := r.cmps.filter fun m => s.now < m.at_ } }).each
      (r.cmps.filter fun m => m.at_ ≤ s.now) fun s m => s.compareDo n l m

/-- The releases of this cycle: the values enter the released outputs, and the immediate ones their targets (R237, R239, R277, R280,
R281). A run can be dispatched only when the earlier one has been loaded or held, so R241 keeps no value out. -/
def State.laneReleases (s : State) (n l : Nat) : State :=
  match (s.lane n l).run with
  | none => s
  | some r =>
    let c := r.req.ctx
    (s.modLane n l fun x => { x with run := some { r with rel := r.rel.filter fun o => s.now < o.due } }).each
      (r.rel.filter fun o => o.due ≤ s.now) fun s o =>
        let s := s.write32 (ctxAddr c + 0x2E0 + 4 * o.j) o.val
        let s := s.when (isPort o.target) (·.modCtxRun c fun x => { x with ages := mapSet x.ages o.j (some o.age) })
        s.when o.imm (·.outWrites [(o.target, o.val, o.age)])

/-- The lead pass of a lane starts its next stage, or the gain schedule after the last one (R229, R251). -/
def State.laneStage (s : State) (n l : Nat) : State :=
  match (s.lane n l).run with
  | none => s
  | some r =>
    if s.now < r.nextAt || r.nstg < r.next then s
    else
      let c := r.req.ctx
      let w : EWork := ⟨s, r⟩
      let (k, w) :=
        if r.next < r.nstg then
          let k := s.stageCost c r.next
          let (w0, w) := w.read (ctxAddr c + 0x90 + 8 * r.next)
          let (w1, w) := w.read (ctxAddr c + 0x94 + 8 * r.next)
          (k, w.stage r.next k (Stage.ofWords w0 w1))
        else (s.gsCost c, if r.busErr then w else w.schedule (s.gsCost c))
      w.s.modLane n l fun x => { x with run := some { w.r with next := r.next + 1, nextAt := r.nextAt + k } }

/-- What the engines do in this cycle, lane by lane: compares, releases, then the stage that starts. DEDUCED, unsafe (log entry 21). -/
def State.engineDo (s : State) : State :=
  s.each allLanes fun s p => ((s.laneCompares p.1 p.2).laneReleases p.1 p.2).laneStage p.1 p.2

/-- The cycles in which the engines do something. -/
def State.engineAt (s : State) : List Nat :=
  if !s.loaded then []
  else allLanes.flatMap fun p =>
    let x := s.lane p.1 p.2
    match x.run, x.queue with
    | some r, _ => (if r.next ≤ r.nstg then [r.nextAt] else []) ++ r.cmps.map (·.at_) ++ r.rel.map (·.due) ++ [r.done]
    | none, q :: _ => [q.at_ + 1]
    | none, [] => []

/-- `SUPCNT` reaches `TLIM` (R246). -/
def State.supTimeout (s : State) (c : Nat) : State :=
  let t := s.cfld (F.CX_SUPV_TLIM c)
  if t = 0 || s.cfld (F.CX_ST2_SUPCNT c) < t then s
  else
    let s := s.setCfld (F.CX_ST2_SUPCNT c) 0
    match s.cfld (F.CX_SUPV_SMODE c) with
    | 1 => s.feFlag c F.FE_FLAG_SATTMO Ev.FE_SATTMO
    | 2 => s.feFlag c F.FE_FLAG_FOLLOW Ev.FE_FOLLOW
    | _ => s

/-- What a released run writes at its completion (R221, R244 to R249, R278). -/
def State.runWrites (s : State) (c : Nat) (r : RunRec) : State :=
  let s := s.each r.stateW fun s p => s.write32 p.1 p.2
  let s := s.setCfld (F.CX_ST1_SATF c) r.satf
  let on := s.cfld (F.CX_SUPV_SMODE c) == 1 || s.cfld (F.CX_SUPV_SMODE c) == 2
  let s := if on then s.setCfld (F.CX_ST2_SUPCNT c) (if r.sup then min 0xFFFF (s.cfld (F.CX_ST2_SUPCNT c) + 1) else 0) else s
  match r.gs with
  | none => s
  | some g =>
    let s := s.each g.words fun s p => s.write32 p.1 p.2
    let s := (s.setCfld (F.CX_ST0_GSREG c) g.reg).setCfld (F.CX_ST0_GSJ c) g.j
    let s := s.modCtxRun c fun x => { x with gsOld := g.old }
    s.when g.chg (·.raise Ev.FE_GSCHG (s.ctxConv c) c)

/-- The run of lane `l` of engine `n` completes: the lane is free, and the status words are written (R210, R226, R227, R245, R259, R260).
DEDUCED, unsafe (log entry 25). -/
def State.runComplete (s : State) (n l : Nat) : State :=
  match (s.lane n l).run with
  | none => s
  | some r =>
    if s.now < r.done then s
    else
      let c := r.req.ctx
      let w := (⟨s, r⟩ : EWork).supervise
      let r := w.r
      let s := w.s.modLane n l fun x => { x with run := none, ended := some r }
      let s := s.incMod (F.FE_RUNS_RUNS n)
      let s := s.setMax (F.FE_MAXLAT_MAXLAT n) (min 0xFFFF (s.now - r.req.at_))
      let s := s.when r.armed (·.setFlag (F.EC_INJ_ARM n) false)
      let s := s.setCfld (F.CX_ST0_PTAG c) r.req.pcount
      let s := (s.setCfld (F.CX_ST0_STALE c) (b2n r.stale)).setCfld (F.CX_ST0_BUSERR c) (b2n r.busErr)
      let s := s.setCfld (F.CX_ST3_RUNS c) (s.cfld (F.CX_ST3_RUNS c) + 1)
      let s := if r.refinv then s.setCfld (F.CX_ST2_RFVCNT c) (min 255 (s.cfld (F.CX_ST2_RFVCNT c) + 1)) else s.setCfld (F.CX_ST2_RFVCNT c) 0
      let s := s.when (r.refinv && s.cfld (F.CX_ST2_RFVCNT c) == 4) fun s => s.raise Ev.FE_REFINV (s.ctxConv c) c
      let s := s.when r.gsErr fun s => s.raise Ev.FE_BUSERR (s.ctxConv c) c
      let s := s.when r.stale fun s => s.feFlag c F.FE_FLAG_STALE Ev.FE_STALE
      let s := s.when r.busErr fun s => (s.incSat (F.FE_CNT_BUSERR_CNT n)).feFlag c F.FE_FLAG_BUSERR Ev.FE_BUSERR
      let s := s.when ((r.stale || r.busErr) && s.latestRun r.req) (·.runHeld c)
      s.feSync n

/-- At the end of the cycle in which it completes, a run is complete: a released one writes its state, and `CMPL` is set (R210, R221, R241,
R278, R279). -/
def State.runFinish (s : State) (n l : Nat) : State :=
  match (s.lane n l).ended with
  | none => s
  | some r =>
    let c := r.req.ctx
    let released := !(r.stale || r.busErr || r.mis || r.req.discard)
    let s := s.modLane n l fun x => { x with ended := none }
    let s := (s.when released (·.runWrites c r)).setCfld (F.CX_ST0_CMPL c) 1
    s.when (s.latestRun r.req) (·.modCtxRun c fun x => { x with phase := .complete, released := released })

/-- `RUN_START` on lane `l` of engine `n`: the oldest waiting run starts, in the first cycle after its dispatch in which the lane is free
(R205 to R211, R263).
DESIGN CHOICE, safe (log entry 22). DEDUCED, safe (log entry 27). -/
def State.runStart (s : State) (n l : Nat) (faults : List (Nat × Word)) : State :=
  let s := s.runComplete n l
  match (s.lane n l).run, (s.lane n l).queue with
  | none, req :: rest =>
    if !s.loaded || s.now ≤ req.at_ then s
    else
      let c := req.ctx
      let zero := List.replicate 32 (0#32 : Word)
      let armed := !s.engSplit n && s.flag (F.EC_INJ_ARM n) && s.fld (F.EC_INJ_CTX n) == c
      let r : RunRec := ⟨req, s.now + s.runLength c, 0, 0, s.now, zero, zero, [], [], false, false, false, false, 0, [], 0, [], [], 0, false,
        none, false, armed, false, faults⟩
      let (cfg, w) := (⟨s, r⟩ : EWork).read (Reg.CX_CFG c)
      let r := { w.r with nstg := min 24 (Word.get cfg 16 5) }
      ((w.s.modLane n l fun x => { x with queue := rest, run := some r }).laneStage n l).feSync n
  | _, _ => s

/-- The end of a cycle: the runs that complete in it complete, and the waiting runs whose lane is free start, where no command has named
them. DEDUCED, unsafe (log entry 21). -/
def State.cycleEnd (s : State) : State :=
  let s := s.each allLanes fun s p => s.runComplete p.1 p.2
  let s := s.each allLanes fun s p => s.runFinish p.1 p.2
  s.each allLanes fun s p => s.runStart p.1 p.2 []

/-- `OUT_LOAD` of context `c` by an entry of track `trk` (R96, R238, R241, R282). DEDUCED, unsafe (log entry 26). -/
def State.outLoad (s : State) (trk c : Nat) : State :=
  if !s.ctxOn c then s
  else
    let r := s.ctxRun c
    let n := s.ctxEng c
    let l := s.ctxLane c
    if r.phase == .none || r.phase == .skipped || r.loaded && r.skip then s.dlOvr trk
    else
      let first := !r.loaded
      let s := (s.setCtxRun { r with loaded := true }).holdRelease r.trk r.pcount c
      if r.mis then s.setCfld (F.CX_ST0_CMPL c) 0
      else if r.phase == .out then
        let mark (q : RunReq) : RunReq := if q.ctx == c && q.shift == r.shift then { q with discard := true } else q
        let s := s.modLane n l fun x =>
          { x with queue := x.queue.map mark, run := x.run.map (·.onReq mark), ended := x.ended.map (·.onReq mark) }
        (s.when first (·.runHeld c)).dlOvr trk
      else
        let s := s.setCfld (F.CX_ST0_CMPL c) 0
        if !r.released then s
        else
          let gs := (List.range (min 24 (s.cfld (F.CX_CFG_NSTG c)))).filterMap fun j =>
            let g := Stage.ofWords (s.peek32 (ctxAddr c + 0x90 + 8 * j)) (s.peek32 (ctxAddr c + 0x94 + 8 * j))
            if g.kind = 15 then some g else none
          s.outWrites (gs.zipIdx.filterMap fun (g, j) =>
            if bitOf g.opt 0 then none
            else some (g.target, s.peek32 (ctxAddr c + 0x2E0 + 4 * j), (mapGet r.ages j).getD 0))

/-! ### Profile generators -/

/-- The converters whose tracks tick the generator (R262). -/
def State.pfConvs (s : State) (g : Nat) : List Nat := s.schedConvs fun e => e.action == actProfile && e.target % 16 == g

/-- L48 of a limit (R253). -/
def limit48 (m sh : Int) : Int :=
  clampI 0 (2 ^ 63 - 1) (if 0 ≤ sh + 17 then m * 2 ^ (sh + 17).toNat else rnd m (-(sh + 17)).toNat)

/-- `PROFILE_TICK` of generator `g` by a track of one of the converters `ks`, where a track names it (R253 to R258, R263). The outputs
are read from the next cycle on (R255). -/
def State.profileTick (s : State) (g : Nat) (ks : List Nat) : State :=
  if !(s.loaded && s.flag (F.PF_CFG_EN g)) then s
  else
    let x := vget s.profs g ⟨0, 0, 0⟩
    let x : Prof := if s.flag (F.PF_STAT_PEND g) then ⟨s.sreg (Reg.PF_MEAS g) * 2 ^ 24, 0, 0⟩ else x
    let s := (s.setFlag (F.PF_STAT_PEND g) false).incMod (F.PF_STAT_TICKS g)
    let v48 := limit48 (s.sreg (Reg.PF_VM g)) (s.sfld (F.PF_SH_VS g))
    let a48 := limit48 (s.sreg (Reg.PF_AM g)) (s.sfld (F.PF_SH_AS g))
    let j48 := limit48 (s.sreg (Reg.PF_JM g)) (s.sfld (F.PF_SH_JS g))
    let tgt := s.sreg (Reg.PF_TGT g) * 2 ^ 24
    let e := tgt - x.p
    let was := s.flag (F.PF_STAT_DONE g)
    let near := decide ((e.natAbs : Int) ≤ s.sreg (Reg.PF_TOL g) * 2 ^ 24 ∧ (x.v.natAbs : Int) ≤ a48)
    let (y, lim) : Prof × Bool :=
      if near then (⟨sat64 tgt, 0, 0⟩, false)
      else
        let vb : Int := isqrt (2 * a48 * e.natAbs).toNat
        let vj := if j48 = 0 then 0 else a48 * a48 / (2 * j48)
        let vt0 := min v48 (max (vb - vj) 0)
        let vt := if e < 0 then -vt0 else vt0
        let at_ := clampI (-a48) a48 (vt - x.v)
        let a := sat64 (x.a + clampI (-j48) j48 (at_ - x.a))
        let v0 := sat64 (x.v + a)
        let v := clampI (-v48) v48 v0
        (⟨sat64 (x.p + v), v, a⟩, decide (v ≠ v0))
    let s := { s with profs := vmod s.profs g fun _ => y }
    let s := (s.setFlag (F.PF_STAT_DONE g) near).when lim (·.setFlag (F.PF_STAT_VLIM g) true)
    let out (v : Int) (n : Nat) : Word := wordOf (sat32 (rnd v n))
    let s := (s.setRegNoted (Reg.PF_POS g) (out y.p 24)).setRegNoted (Reg.PF_VEL g) (out y.v (24 - s.fld (F.PF_CFG_VSH g)))
    let s := s.setRegNoted (Reg.PF_ACC g) (out y.a (24 - s.fld (F.PF_CFG_ASH g)))
    s.when (near && !was) fun s => let ps := s.pfConvs g
      s.raiseAll Ev.PF_DONE (ks.filter (!ps.contains ·) ++ ps) g

end Sys2Proof.Machine
end

