-- ==== Sys2Proof/Machine/DcDc.lean ====
section
/-! DEFINITION. The DC/DC block (R497 to R523): cell states and gates, sharing, interleave, shedding, diode emulation, start-up. -/

namespace Sys2Proof.Machine

def State.modDc (s : State) (f : Dc → Dc) : State := { s with dc := f s.dc }
def State.modDcData (s : State) (f : DcData → DcData) : State := s.modDc fun d => { d with data := f d.data }

/-- The codes of `DC_CSTAT.CST` (R503). -/
def cellOff : Nat := 0
def cellIdle : Nat := 1
def cellAdding : Nat := 2
def cellRun : Nat := 3
def cellShedding : Nat := 4
/-- The codes of `DC_STAT.STATE` (R518). -/
def dcStop : Nat := 0
def dcStart : Nat := 1
def dcRun : Nat := 2

def fOne : Nat := 65536
def DcCell.inSet (c : DcCell) : Bool := c.cst == cellAdding || c.cst == cellRun || c.cst == cellShedding
def DcData.cell (d : DcData) (k : Nat) : DcCell := d.cells.getD k DcCell.reset
def DcData.modCell (d : DcData) (k : Nat) (f : DcCell → DcCell) : DcData := { d with cells := d.cells.modify k f }
/-- The interleave set, ascending (R503). -/
def DcData.set (d : DcData) : List Nat := (List.range 6).filter fun k => (d.cell k).inSet

def State.dcEnabled (s : State) : Bool := s.flag F.DC_CFG_EN && s.loaded
def State.dcPri (s : State) (k : Nat) : Nat := s.fld (F.DC_CCFG_PRI k)
def State.dcSr (s : State) (k : Nat) : Nat := s.fld (F.DC_CCFG_SR k)
def State.raiseDc (s : State) (e : Ev.Src) (inst : Nat) : State := s.raise e 2 inst

/-- The gates of a cell reach its two channels (R501). -/
def State.dcGates (s : State) (k : Nat) : State :=
  let c := s.dc.data.cell k
  (s.setGate (s.dcPri k) c.gate c.gate).setGate (s.dcSr k) (c.gate && c.eh) (c.gate && c.el)

/-- The status fields follow the block's data. -/
def State.dcSync (s : State) : State :=
  let d := s.dc.data
  let s := ((s.setFld F.DC_STAT_STATE d.state).setFld F.DC_STAT_NSET d.set.length).setFld F.DC_STAT_WIDX d.w
  let s := (s.setFlag F.DC_STAT_RESP d.resp.isSome).setFld F.DC_STAT_ATT d.att
  s.each (List.range 6) fun s k =>
    let c := d.cell k
    let s := ((s.setFld (F.DC_CSTAT_CST k) c.cst).setFlag (F.DC_CSTAT_GATE k) c.gate).setFlag (F.DC_CSTAT_DEACT k) c.deact
    (s.setFld (F.DC_CSTAT_J k) c.j).setFld (F.DC_CSTAT_F k) c.f

/-- A cell gate opens or closes. -/
def State.dcSetGate (s : State) (k : Nat) (open_ : Bool) : State :=
  ((s.modDcData fun d => d.modCell k fun c => { c with gate := open_ }).setFlag (F.DC_CSTAT_GATE k) open_).dcGates k

/-- The condition of R499. A domain that is off has no rate that could be too low. DEDUCED, unsafe (log entry 36). -/
def State.dcFrqBad (s : State) : Bool :=
  let d := s.fld F.DC_CFG_DDOM
  let m := s.fld (F.AD_CFG_MASTER d)
  s.domState d != dsOff && (decide ((s.rate d / 65536).natAbs < s.fld F.DC_FMIN_FMINR) || s.domState d == dsAcquire
    || (s.domState d == dsSlave && s.domState m == dsAcquire))

/-- R499 holds the cell gates closed: from the cycle after the one in which its condition began. -/
def State.dcFrqHeld (s : State) : Bool := s.dc.frq.any (· < s.now)

/-- Every cell gate closes. -/
def State.dcCloseAll (s : State) : State :=
  s.each ((List.range 6).filter fun k => (s.dc.data.cell k).gate) fun s k => s.dcSetGate k false

/-- Every cell gate closes in the next cycle (R498, R499). -/
def State.dcCloseNext (s : State) : State := s.modDc fun x => { x with closeAt := some (s.now + 1) }

/-- After every step: a jump of the domain or of its master, and a frequency out of band (R498, R499). -/
def State.dcWatch (s : State) : State :=
  if !s.dcEnabled then s
  else
    let d := s.fld F.DC_CFG_DDOM
    let s := s.when (s.jumped.contains d || (s.domState d == dsSlave && s.jumped.contains (s.fld (F.AD_CFG_MASTER d)))) State.dcCloseNext
    match s.dcFrqBad, s.dc.frq with
    | true, none => (((s.setFlag F.DC_FLAG_FRQ true).raiseDc Ev.DC_FRQ 0).dcCloseNext).modDc fun x => { x with frq := some s.now }
    | false, some _ => s.modDc fun x => { x with frq := none }
    | _, _ => s

/-- The cycle of a closing has come. -/
def State.dcCloseDo (s : State) : State :=
  s.when (s.dc.closeAt.any (· ≤ s.now)) fun s => (s.dcCloseAll).modDc fun x => { x with closeAt := none }

/-- The cell whose primary channel is `c`. -/
def State.dcCellOf (s : State) (c : Nat) : Option Nat :=
  if s.dcEnabled then (List.range 6).find? fun k => s.flag (F.DC_CCFG_EN k) && s.dcPri k == c else none

/-! ### Cells -/

/-- A DDOM boundary in cycle `t`, held or not, counts for a cell of the interleave set that entered it before (R511). -/
def DcCell.count (c : DcCell) (t : Nat) : DcCell := if c.inSet && decide (c.since < t) then { c with bnds := c.bnds + 1 } else c

/-- The ramp of a cell at a DDOM boundary in cycle `t` (R503, R511, R512, R514). -/
def DcCell.step (c : DcCell) (r t : Nat) : DcCell :=
  if c.cst == cellAdding && c.openAt.any (· < t) then
    let j := c.j + 1
    if r ≤ j then { c with cst := cellRun, j := 0, f := fOne, openAt := none } else { c with j := j, f := fOne * j / r }
  else if c.cst == cellShedding && c.j < r && decide (c.since < t) then { c with j := c.j + 1, f := fOne * (r - (c.j + 1)) / r }
  else if c.cst == cellRun then { c with f := fOne }
  else c

/-- A cell enters a state of the interleave set in cycle `t` (R510, R518). -/
def DcCell.enter (c : DcCell) (cst f t : Nat) : DcCell := { c with cst := cst, j := 0, f := f, bnds := 0, since := t, openAt := none }

/-- A cell leaves the interleave set (R512, R518, R521). -/
def DcCell.leave (c : DcCell) (cst : Nat) : DcCell := { c with cst := cst, j := 0, f := 0, bnds := 0, openAt := none }

/-! ### Load steps -/

/-- The condition of a load step (R513). -/
def State.dcStepSeen (s : State) : Bool :=
  s.dcEnabled && (decide (s.fld F.DC_TIME2_LSTH * 256 ≤ (s.sreg Reg.DC_VERR).natAbs)
    || (s.flag F.DC_CFG_LSCEN && s.flag (F.CMP_STAT_RAWO (s.fld F.DC_CFG_LSCMP))))

/-- The load step of this cycle, of which there is one at most (R514, R515). -/
def State.dcLoadStep (s : State) : State :=
  if !s.dcStepSeen || s.dc.stepAt == some s.now then s
  else
    let shed := s.dc.data.cells.any fun c => c.cst == cellShedding
    let s := s.modDc fun x => { x with stepAt := some s.now, data := { x.data with cells := x.data.cells.map fun c =>
      if c.cst == cellShedding then { c with cst := cellRun, j := 0 } else c } }
    let s := (((s.mark .dcHold 0).setFlag F.DC_STAT_HOLD (s.fld F.DC_TIME_SHHOLD != 0)).setFlag F.DC_FLAG_ABORT true).incSat F.DC_CNT_ABORT_CNT
    (s.when shed (·.raiseDc Ev.DC_ABORT 0)).dcSync

/-- The load steps of the `n` cycles before `t`, in which nothing else happens: each of them is one, while its condition stands (R513, R514). -/
def State.dcLoadRun (s : State) (t n : Nat) : State :=
  if n = 0 || !s.dcStepSeen then s
  else
    let s := ((s.markAt .dcHold 0 (t - 1)).setFlag F.DC_STAT_HOLD (s.fld F.DC_TIME_SHHOLD != 0)).setFlag F.DC_FLAG_ABORT true
    s.addSat F.DC_CNT_ABORT_CNT n

/-- A cell boundary: a load point of the cell's primary channel (R500, R502, R511, R512). A load step of the same cycle comes first (R515). -/
def State.dcCellBoundary (s : State) (k : Nat) : State :=
  let s := s.dcLoadStep
  let c := s.dc.data.cell k
  if c.gate then
    if c.cst == cellShedding && s.fld F.DC_TIME_SHRAMP ≤ c.j then
      let s := (s.dcSetGate k false).modDcData fun d => d.modCell k (·.leave cellIdle)
      ((s.incSat F.DC_CNT_SHED_CNT).raiseDc Ev.DC_CELLOFF k).dcSync
    else if !c.inSet then s.dcSetGate k false
    else s
  else if c.inSet && 2 ≤ c.bnds && !s.dcFrqHeld then
    (s.dcSetGate k true).modDcData fun d => d.modCell k fun c =>
      if c.cst == cellAdding && c.openAt.isNone then { c with openAt := some s.now } else c
  else s

/-! ### The DDOM boundary -/

/-- A voltage result: the value in use, whether it is good, and the state with the last good value and the report (R518). -/
def State.dcVolt (s : State) (conv ent : Nat) (last : Option Int) : Option Int × Bool :=
  let (v, good) := s.recentRes conv ent
  if good then (some v, true) else (last, false)

/-- The target angle of the cell at position `p` of `n` (R506). -/
def ilvTarget (p n : Nat) : Int := -(2 ^ 30) + ((p * 2 ^ 32 + n) / (2 * n) : Nat)

/-- Interleave at a boundary (R506, R507). -/
def DcData.interleave (d : DcData) : DcData :=
  let set := d.set
  if set == [] then { d with spSet := [], resp := none }
  else if set != d.spSet then
    let n := set.length
    let d' := ((List.range n).zip set).foldl (fun (x : DcData) pk =>
      let t := ilvTarget pk.1 n
      x.modCell pk.2 fun c => if d.spSet.contains pk.2 then { c with ilvS := c.ilv, ilvT := t } else { c with ilv := t, ilvS := t, ilvT := t }) d
    { d' with spSet := set, resp := some 0 }
  else
    match d.resp with
    | none => d
    | some m0 =>
      let m := m0 + 1
      let d' := set.foldl (fun (x : DcData) k => x.modCell k fun c => { c with ilv := c.ilvS + rnd ((c.ilvT - c.ilvS) * m) 4 }) d
      { d' with resp := if m < 16 then some m else none }

/-- `PCTMO` has elapsed since the entry into START (R518). -/
def State.dcStartLate (s : State) (d : DcData) : Bool := decide (d.startAt + s.fld F.DC_TIME2_PCTMO * cyclesPerMs ≤ s.now)

/-- The state transitions of R518 over the good voltages. -/
def State.dcNext (s : State) (d : DcData) (vout vin : Option Int) (goodO goodI : Bool) : DcData :=
  let runOk := s.flag F.DC_CMD_RUN && s.sys == sysReady && s.fld ⟨Reg.PG_SAFE, 8, 2⟩ == 0
  let vset : Int := s.fld F.DC_CMD_VSET * 256
  let vok : Int := s.fld F.DC_VRAMP_VOK * 256
  let vo := vout.getD 0
  let stop (d : DcData) : DcData :=
    { d with state := dcStop, cells := d.cells.map fun c => if c.cst == cellOff then c else c.leave cellIdle }
  let late := s.dcStartLate d
  if (d.state == dcStart || d.state == dcRun) && !runOk then stop d
  else if d.state == dcStart && late then { stop d with att := d.att + 1, retry := true }
  else if d.state == dcStart && d.vr == vset && decide ((vo - vset).natAbs ≤ vok.natAbs) then { d with state := dcRun, att := 0 }
  else if d.state == dcStop && runOk && !d.retry && d.att < 3 && goodI && decide (s.sreg Reg.DC_VMIN ≤ vin.getD 0) && goodO
      && d.cells.any (fun c => c.cst != cellOff) && !s.dcFrqBad then
    { d with
      state := dcStart, startAt := s.now, vr := max vo 0,
      cells := d.cells.map fun c => if c.cst == cellOff then c else c.enter cellRun fOne s.now }
  else d

/-- One computation of a DDOM boundary: the new data, and the register writes of cycle c + 16 (R504, R505, R507, R516, R519).
DEDUCED, unsafe (log entry 36). -/
def State.dcForm (s : State) (vout vin : Option Int) (goodO goodI : Bool) : DcData × List (Nat × Word) :=
  let d0 := s.dc.data
  let r := s.fld F.DC_TIME_SHRAMP
  let d1 := s.dcNext d0 vout vin goodO goodI
  let d2 := if d1.state == dcStart && d0.state != dcStart then d1 else { d1 with cells := d1.cells.map (·.step r s.now) }
  let vset : Int := s.fld F.DC_CMD_VSET * 256
  let vramp : Int := s.fld F.DC_VRAMP_VRAMP
  let vr := if d0.state != dcStop && d2.state != dcStop then d2.vr + clampI (-vramp) vramp (vset - d2.vr) else d2.vr
  let d3 := ({ d2 with vr := vr }).interleave
  let itot := s.sreg Reg.DC_ITOT
  let fsum : Int := (d3.cells.map fun c => c.f).foldl (· + ·) 0
  let ik (c : DcCell) : Int := if fsum = 0 then 0 else sgn itot * (((itot.natAbs : Int) * c.f + fsum / 2) / fsum)
  let d4 := { d3 with cells := (List.range 6).map fun k =>
    let c := d3.cell k
    let i := ik c
    let mode := s.fld (F.DC_CCFG_DEMODE k)
    let act := (mode == 1 && decide (0 ≤ i)) || (mode == 2 && decide (0 ≤ i ∧ i < s.fld (F.DC_CDE_DETH k) * 256))
    if act then { c with deact := true } else { c with deact := false, eh := true, el := true } }
  let zero := s.fld ⟨Reg.PG_SAFE, 8, 2⟩ != 0 || d4.state == dcStop
  let phlim := s.sreg Reg.DC_PHLIM
  let ilim : Int := if d4.state == dcStart then s.fld F.DC_ILIM_ISTART * 256 else s.fld F.DC_ILIM_ILIM * 256
  let w (z : Bool) (v : Int) : Word := if z then 0 else wordOf v
  let cells := (List.range 6).flatMap fun k =>
    let c := d4.cell k
    [(Reg.DC_IREF k, w zero (ik c)), (Reg.DC_PHI k, w (zero || !c.gate) phlim), (Reg.DC_PLO k, w (zero || !c.gate) (-phlim)),
     (Reg.DC_ILV k, wordOf c.ilv)]
  (d4, cells ++ [(Reg.DC_IHI, w zero ilim), (Reg.DC_ILO, w zero (-ilim)), (Reg.DC_VREF, wordOf d4.vr)])

/-- The computation at a DDOM boundary, which the boundary precedes in the same cycle (R504 to R523). `defect` says that the hardware made
the second computation differ; a held boundary changes nothing. -/
def State.dcBoundary (s : State) (defect : Bool) : State :=
  if !s.dcEnabled || !s.justNow .boundary (s.fld F.DC_CFG_DDOM) || s.justNow .dcStep 0 then s
  else
    let s := s.mark .dcStep 0
    let (vo, goodO) := s.dcVolt (s.fld F.DC_MEAS_VOCONV) (s.fld F.DC_MEAS_VOENT) s.dc.vout
    let (vi, goodI) := s.dcVolt (s.fld F.DC_MEAS_VICONV) (s.fld F.DC_MEAS_VIENT) s.dc.vin
    let s := s.when (!goodO || !goodI) fun s => (s.setFlag F.DC_FLAG_VBAD true).raiseDc Ev.DC_VBAD 0
    let s := s.modDc fun x => { x with vout := vo, vin := vi, data := { x.data with cells := x.data.cells.map (·.count s.now) } }
    if defect then s.modDc fun x => { x with pend := some none }
    else
      let old := s.dc.data
      let (d, ws) := s.dcForm vo vi goodO goodI
      let s := s.modDc fun x => { x with data := d, pend := some (some ws) }
      let s := s.when (d.att > old.att) fun s => ((s.mark .dcRetry 0).setFlag F.DC_FLAG_PCFAIL true).raiseDc Ev.DC_PCFAIL 0
      let s := s.when (d.state != old.state) (·.raiseDc Ev.DC_STATE 0)
      (s.each (List.range 6) fun s k =>
        s.when ((d.cell k).eh != (old.cell k).eh || (d.cell k).el != (old.cell k).el) (·.dcGates k)).dcSync

/-- Cycle c + 16 of a DDOM boundary (R504, R523). DEDUCED, unsafe (log entry 36). -/
def State.dcWrite (s : State) : State :=
  match s.dc.pend with
  | none => s
  | some p =>
    if !s.past .dcStep 0 16 then s
    else
      let s := s.modDc fun x => { x with pend := none }
      let s := match p with
        | some ws => (s.each ws fun s w => s.setReg w.1 w.2).setFld F.DC_STAT_HOLDHIST (s.fld F.DC_STAT_HOLDHIST * 2)
        | none =>
          ((s.setFlag F.DC_FLAG_MIS true).raiseDc Ev.DC_MIS 0).setFld F.DC_STAT_HOLDHIST (s.fld F.DC_STAT_HOLDHIST * 2 + 1)
      if 2 ≤ (bitList (s.fld F.DC_STAT_HOLDHIST) 8).length then
        ((s.setFlag F.DC_FLAG_HOLDESC true).setFld F.DC_STAT_HOLDHIST 0).raiseDc Ev.DC_HOLDESC 0
      else s

/-! ### Shedding and adding -/

/-- The thresholds TH1 to TH5, and the hysteresis, scaled to Q8.24. -/
def State.dcTh (s : State) : List Int :=
  [s.fld F.DC_TH12_TH1, s.fld F.DC_TH12_TH2, s.fld F.DC_TH34_TH3, s.fld F.DC_TH34_TH4, s.fld F.DC_TH5_TH5].map fun t => (t : Int) * 256

/-- The count index of R509. -/
def State.dcIndex (s : State) (w : Nat) : Nat :=
  let i : Int := (s.sreg Reg.DC_ITOT).natAbs
  let hys : Int := s.fld F.DC_TH5_HYS * 256
  let up := (s.dcTh.filter fun t => decide (t + hys ≤ i)).length
  let down := (s.dcTh.filter fun t => decide (t - hys ≤ i)).length
  if up > w then up else if down < w then down else w

/-- An evaluation (R508 to R510). -/
def State.dcEvaluate (s : State) : State :=
  if !s.dcEnabled then s
  else
    let s := s.modDcData fun d => { d with w := s.dcIndex d.w }
    let d := s.dc.data
    let busy := d.state != dcRun || d.cells.any (fun c => c.cst == cellAdding || c.cst == cellShedding) || d.resp.isSome
    let ks (st : Nat) : List Nat := (List.range 6).filter fun k => (d.cell k).cst == st
    let n := (ks cellRun).length
    let s := if busy then s
      else if n < d.w + 1 then
        match (ks cellIdle).head? with
        | none => s
        | some k => (s.modDcData fun d => d.modCell k (·.enter cellAdding 0 s.now)).raiseDc Ev.DC_ADD k
      else if d.w + 1 < n && 2 ≤ n && !s.flag F.DC_STAT_HOLD then
        match (ks cellRun).getLast? with
        | none => s
        | some k => (s.modDcData fun d => d.modCell k fun c => { c with cst := cellShedding, j := 0, since := s.now }).raiseDc Ev.DC_SHED k
      else s
    s.dcSync

/-- The hold-off of shedding ends (R514). -/
def State.dcHoldEnd (s : State) : State :=
  s.when (s.past .dcHold 0 (s.fld F.DC_TIME_SHHOLD * cyclesPerMs)) (·.setFlag F.DC_STAT_HOLD false)

/-- The boundary that finds `PCTMO` elapsed in START (R518, R520). -/
def State.dcStartTimeout (s : State) : State :=
  s.when (s.dc.data.state == dcStart && s.dcStartLate s.dc.data) (·.dcBoundary false)

/-- The retry wait of 1 s ends (R520). -/
def State.dcRetryEnd (s : State) : State :=
  s.when (s.past .dcRetry 0 (1000 * cyclesPerMs)) (·.modDcData fun d => { d with retry := false })

/-! ### Diode emulation, variants -/

/-- The cell whose rectifier channel is `c`. -/
def State.dcSrOf (s : State) (c : Nat) : Option Nat :=
  if s.dcEnabled then (List.range 6).find? fun k => s.flag (F.DC_CCFG_EN k) && s.dcSr k == c else none

/-- A reference state of a rectifier channel rises: its emulation gate opens (R517). -/
def State.dcRise (s : State) (k : Nat) (low : Bool) : State :=
  let s := s.modDcData fun d => d.modCell k fun c =>
    if low then { c with riseL := s.now, el := true } else { c with riseH := s.now, eh := true }
  let c := s.dc.data.cell k
  s.modPg (s.dcSr k) fun p => { p with gateH := c.gate && c.eh, gateL := c.gate && c.el }

/-- The first cycle in which an emulation gate may close, while emulation is active, the gate is open and the comparator is asserted (R517). -/
def State.dcDiodeDue (s : State) (k : Nat) (low : Bool) : Option Nat :=
  let c := s.dc.data.cell k
  let opened := if low then c.el else c.eh
  let rise := if low then c.riseL else c.riseH
  if s.dcEnabled && c.deact && opened && s.flag (F.CMP_STAT_RAWO (s.fld (F.DC_CCFG_ZCMP k))) then some (rise + s.fld (F.DC_CDE_ZBLK k)) else none

/-- An emulation gate closes (R517). -/
def State.dcDiodeClose (s : State) (k : Nat) (low : Bool) : State :=
  if !(s.dcDiodeDue k low).any (· ≤ s.now) then s
  else
    let s := s.modDcData fun d => d.modCell k fun c => if low then { c with el := false } else { c with eh := false }
    (s.incSat (F.DC_DECNT_DE_CNT k)).dcGates k

/-- The emulation gates: cell and output. -/
def dcDiodes : List (Nat × Bool) := (List.range 6).flatMap fun k => [(k, false), (k, true)]

/-- The cycles in which the block acts by itself (R498, R499, R517). -/
def State.dcAt (s : State) : List Nat := s.dc.closeAt.toList ++ dcDiodes.filterMap fun p => s.dcDiodeDue p.1 p.2

/-- What ends a cycle for the block: the closings that no command has made, and the load step (R513, R517). -/
def State.dcEnd (s : State) : State := (s.each dcDiodes fun s p => s.dcDiodeClose p.1 p.2).dcLoadStep

/-- The cells take the mask of the variant in force (R503, R521, R525). -/
def State.dcMask (s : State) : State :=
  let m := s.fld (F.DC_VAR_CELLEN (s.fld F.DC_STAT_VAR))
  let s := s.each (List.range 6) fun s k =>
    let c := s.dc.data.cell k
    if bitOf m k && s.flag (F.DC_CCFG_EN k) then
      if c.cst == cellOff then s.modDcData fun d => d.modCell k fun c => { c with cst := cellIdle } else s
    else if c.cst == cellOff then s
    else
      (s.modDcData fun d => d.modCell k (·.leave cellOff)).dcSetGate k false
  s.dcSync

/-- The channels of the cells start with their gates closed (R525). -/
def State.dcStartUp (s : State) : State :=
  s.when (s.flag F.DC_CFG_EN) fun s =>
    (s.each ((List.range 6).filter fun k => s.flag (F.DC_CCFG_EN k)) fun s k => s.dcGates k).dcMask

end Sys2Proof.Machine
end

