-- ==== Sys2Proof/Machine/Protect.lean ====
section
/-! DEFINITION. The fast comparators, the protection logic, the traction Sump, and the entry to AXLE_SAFE (R46, R47, R595 to R615, R875). -/

namespace Sys2Proof.Machine

def State.cmp (s : State) (k : Nat) : Cmp := vget s.cmps k Cmp.reset
def State.modCmp (s : State) (k : Nat) (f : Cmp → Cmp) : State := { s with cmps := vmod s.cmps k f }
def State.cmpConv (s : State) (k : Nat) : Nat := s.fld (F.CMP_CFG_CONV k)
def State.raiseCmp (s : State) (e : Ev.Src) (k : Nat) : State := s.raise e (s.cmpConv k) k
def State.cmpEn (s : State) (k : Nat) : Bool := s.flag (F.CMP_CFG_EN k)
def State.cmpAct (s : State) (k : Nat) : Nat := s.fld (F.CMP_CFG_ACT k)
/-- The actions of `CMP_CFG.ACT` (R598). -/
def actCbc : Nat := 1
def actShort : Nat := 2
def actOver : Nat := 3

def State.scConv (s : State) (k : Nat) : ScConv := vget s.sc.convs k ScConv.reset
def State.modSc (s : State) (f : Sc → Sc) : State := { s with sc := f s.sc }
def State.modScConv (s : State) (k : Nat) (f : ScConv → ScConv) : State :=
  s.modSc fun c => { c with convs := vmod c.convs k f }

/-! ### Safe commands of a converter -/

/-- The codes of `FR_CVAR.CMDSRC`. -/
def srcNone : Nat := 0
def srcTable : Nat := 1
def srcShort : Nat := 2
def srcOver : Nat := 3
def srcAxle : Nat := 4
/-- The code of the Actuators as a converter. -/
def convAct : Nat := 4

/-- The safe command in force on a converter; for the Actuators, that of its channels. -/
def State.cmdOf (s : State) (k : Nat) : Nat :=
  if k < convAct then s.fld (F.safeCmd k)
  else (((List.range 4).filter fun n => s.flag (F.AC_CFG_EN n)).map fun n => s.fld (F.AC_STAT_SCMD n)).foldl max 0

/-- A safe command takes effect on a converter, with its source and its rank (R335, R337, R581). -/
def State.applyCmd (s : State) (k cmd src rank : Nat) : State :=
  let s := if k < convAct then (s.setSafe k cmd).setFlag (F.safePend k) false
    else s.each (List.range 4) fun s n => s.when (s.flag (F.AC_CFG_EN n)) (fun s => (s.setFld (F.AC_CTL_SCMDP n) cmd).acSafe n cmd)
  let s := s.setFld (F.FR_CVAR_CMDSRC k) (if cmd == 0 then srcNone else src)
  s.modScConv k fun x => { x with cmdP := none, cmdRank := if cmd == 0 then 0 else rank }

/-- The safety controller sets a safe command pending (R337, R581). -/
def State.pendCmd (s : State) (k cmd src rank : Nat) : State :=
  let s := if k < convAct then s.setFlag (F.safePend k) true
    else s.each (List.range 4) fun s n => s.when (s.flag (F.AC_CFG_EN n)) (·.setFld (F.AC_CTL_SCMDP n) cmd)
  s.modScConv k fun x => { x with cmdP := some (cmd, src, rank), cmdAt := s.now }

/-- A command under R609 is in force on the converter. -/
def State.shortTrip (s : State) (k : Nat) : Bool := bitOf (s.fld F.PR_CONVST_SHORTTRIP) k
def State.ovAct (s : State) (k : Nat) : Bool := bitOf (s.fld F.PR_CONVST_OVACT) k

/-! ### Shorts in two legs -/

/-- The lead track of a converter, if it has an enabled one. -/
def State.leadTrk (s : State) (k : Nat) : Option Nat :=
  (List.range 32).find? fun t => s.flag (F.DL_TRK_CFG_EN t) && s.flag (F.DL_TRK_CFG_LEAD t) && s.trkConv t == k

/-- φ and `PCOUNT` of the lead track, while it runs (R608). -/
def State.leadPhase (s : State) (k : Nat) : Option (Nat × Nat) :=
  match s.leadTrk k with
  | some t => if s.trkLive t then some ((s.trk t).phi, s.fld (F.DL_TRK_PCOUNT_PCOUNT t)) else none
  | none => none

/-- Whether a later report qualifies against the held one (R608). -/
def qualifies (held now : Option (Nat × Nat)) : Bool :=
  match held, now with
  | some (phi1, p1), some (phi2, p2) => p2 == p1 || (p2 == (p1 + 1) % 2 ^ 32 && phi2 < phi1)
  | _, _ => true

/-- The command of R609 over the sides of two reports: `some true` for a high side. -/
def shortCmd (act asc : Bool) (a b : Option Bool) : Nat :=
  if asc && a == some true && b == some true && !act then 3
  else if asc && a == some false && b == some false then 2
  else 1

/-- A short report of leg `leg` of converter `k`, with the side of the shorted switch where it is known (R607 to R610). -/
def State.shortReport (s : State) (k leg : Nat) (side : Option Bool) : State :=
  let s := s.incSat F.PR_CNT_SHORT_CNT
  if s.shortTrip k then s
  else
    let cur : Option (Nat × Nat) := s.leadPhase k
    let held : Option ShortRep := vget s.shorts k none
    let heldSide := if s.flag (F.PR_SH_SIDEV k) then some (s.flag (F.PR_SH_SIDE k)) else none
    let q := match held with
      | some h => h.leg != leg && qualifies (h.phi.map fun p => (p, h.pc)) cur
      | none => false
    if q then
      let cmd := shortCmd (k == convAct) (bitOf (s.fld F.PR_CFG_ASCEN) k) heldSide side
      let legs := [leg] ++ (held.map (·.leg)).toList
      let s := ((s.applyCmd k cmd srcShort 6).setBit F.PR_CONVST_SHORTTRIP k true).setBit F.PR_CONVST_OVACT k false
      (s.modScConv k fun x => { x with shortLegs := legs }).raise Ev.PR_CONV k 0
    else
      let s := { s with shorts := s.shorts.setIfInBounds k (some ⟨leg, cur.map Prod.fst, (cur.map Prod.snd).getD 0⟩) }
      let s := ((s.setFlag (F.PR_SH_VALID k) true).setFlag (F.PR_SH_SIDEV k) side.isSome).setFlag (F.PR_SH_SIDE k) (side.getD false)
      (s.setFld (F.PR_SH_LEG k) leg).setFld (F.PR_SH_PC k) ((cur.map Prod.snd).getD 0)

/-- A short report of a PG channel; a Sump channel makes none (R607). -/
def State.pgReport (s : State) (c : Nat) (side : Option Bool) : State :=
  if s.flag (F.PG_CFG_SUMP c) then s else s.shortReport (s.pgConv c) c side

/-! ### Over-voltage -/

/-- The command of R611 takes effect on a converter. In AXLE_SAFE a traction converter keeps the command of R47 once that is in force, and
takes it at its boundary while it is pending (R633). DEDUCED, unsafe (log entry 42). -/
def State.overCmd (s : State) (k cmd : Nat) : State :=
  if s.sys == sysAxleSafe && k < 2 then
    match (s.scConv k).cmdP with
    | some p => ((s.applyCmd k cmd srcOver 3).setFlag (F.safePend k) true).modScConv k fun x => { x with cmdP := some p }
    | none => s
  else s.applyCmd k cmd srcOver 3

/-- An over-voltage comparator trips (R611). -/
def State.overVoltage (s : State) : State :=
  let s := s.incSat F.PR_CNT_OV_CNT
  s.each ((bitList (s.fld F.PR_CFG_OVMASK) 5).filter fun k => !s.shortTrip k) fun s k =>
    let cmd := if k < 2 && s.tcAscWanted k && bitOf (s.fld F.PR_CFG_ASCEN) k then 2 else 1
    ((s.overCmd k cmd).setBit F.PR_CONVST_OVACT k true).raise Ev.PR_OV k 0

/-- Some over-voltage comparator is asserted. -/
def State.ovAsserted (s : State) : Bool :=
  (List.range 48).any fun k => s.cmpEn k && s.cmpAct k == actOver && !s.flag (F.CMP_STAT_UNRES k) && s.flag (F.CMP_STAT_RAWO k)

/-! ### Comparators -/

/-- The traction Sump channels follow their comparator (R613, R614). -/
def State.sumpFollow (s : State) : State :=
  let k := s.fld F.PR_CFG_SPCMP
  if !s.flag F.PR_CFG_SPEN then s
  else
    let on := !s.flag (F.CMP_STAT_UNRES k) && s.flag (F.CMP_STAT_RAWO k) && !s.flag F.PR_SUMPST_SPFORCE
    let s := s.when (on && !s.flag F.PR_SUMPST_SPON) (·.mark .chopOn 0)
    (s.setFlag F.PR_SUMPST_SPON on).each ((List.range 40).filter fun c => s.flag (F.PG_CFG_EN c) && s.flag (F.PG_CFG_SUMP c)) State.reforce

/-- A trip (R598). -/
def State.cmpTrip (s : State) (k : Nat) (high : Bool) : State :=
  let s := ((s.setFlag (F.CMP_STAT_TRIP k) true).setFlag (F.CMP_STAT_LTCH k) true).setFlag (F.CMP_STAT_HITR k) high
  let s := s.incSat (F.CMP_CNT_TRIP_CNT k)
  let c := s.fld (F.CMP_CFG_BLKCH k)
  let a := s.cmpAct k
  if a == actCbc then
    let s := s.when (!s.flag (F.CMP_STAT_CBC k)) (·.raiseCmp Ev.CMP_CBC k)
    ((s.setFlag (F.CMP_STAT_CBC k) true).incSat (F.CMP_CNT_CBC_CNT k)).reforce c
  else if a == actShort then ((s.pgIsolate c isoProt).raiseCmp Ev.PR_SHORT k).pgReport c none
  else if a == actOver then s.overVoltage
  else s.when (s.flag (F.CMP_CFG_EVEN k)) (·.raiseCmp Ev.CMP_TRIP k)

/-- The comparator is blanked in this cycle (R597). -/
def State.cmpBlanked (s : State) (k : Nat) : Bool :=
  (s.cmp k).blanked && s.now < (s.cmp k).blankAt + s.fld (F.CMP_HB_BLK k)

/-- A self-test keeps the latch, `TRIP` and the actions of a comparator frozen (R604). -/
def State.cmpFrozen (s : State) (k : Nat) : Bool := s.flag (F.CMP_STAT_STBUSY k) || (s.cmp k).rawAt.isSome

/-- The latch sets when the output is asserted and the comparator is not blanked (R598). -/
def State.cmpLatch (s : State) (k : Nat) : State :=
  if s.flag (F.CMP_STAT_RAWO k) && !s.flag (F.CMP_STAT_LTCH k) && !s.flag (F.CMP_STAT_UNRES k) && !s.cmpFrozen k && !s.cmpBlanked k
  then s.cmpTrip k ((s.cmp k).seen == 1) else s

/-- `RAWO` becomes `out`; the release of the over-voltage commands counts from the last cycle in which one was asserted (R612). -/
def State.setRawo (s : State) (k : Nat) (out : Bool) : State :=
  let ov := s.ovAsserted
  let s := s.setFlag (F.CMP_STAT_RAWO k) out
  if ov && !s.ovAsserted then { s with ovSince := s.now } else s

/-- The recognised state of a comparator changes; an unresolved one resolves, unless its input lies between the ranges (R596, R601). -/
def State.cmpChange (s : State) (k st : Nat) : State :=
  if !(s.cmpEn k && (s.cmp k).connected) || s.flag (F.CMP_STAT_STBUSY k) then s
  else
    let s := s.modCmp k fun x => { x with seen := st }
    let un := s.flag (F.CMP_STAT_UNRES k)
    if st == 3 then s
    else
      let s := (s.setFlag (F.CMP_STAT_UNRES k) false).setRawo k (st != 0)
      let s := if un then if st != 0 then s.cmpTrip k (st == 1) else s.setFlag (F.CMP_STAT_LTCH k) false else s.cmpLatch k
      s.when (s.fld F.PR_CFG_SPCMP == k) State.sumpFollow

/-! ### The inputs of the comparators -/

/-- A threshold as a comparator reads it: its four low bits ignored, signed on a differential input (R595). -/
def State.cmpThr (c : State) (x : Nat) (f : Fld) : Int :=
  let v := c.fld f / 16 * 16
  if c.flag (F.AIN_CFG_DIFF (c.fld (F.CMP_CFG_INPUT x))) then signed 16 v else v

/-- The state that an input of code `v` gives, after the state `old` (R596). -/
def cmpState (lo hi hys : Int) (old : Nat) (v : Int) : Nat :=
  if hi < v then 1 else if v < lo then 2
  else if old == 1 && decide (hi - hys ≤ v) then 1
  else if old == 2 && decide (v ≤ lo + hys) then 2
  else 0

/-- Where an unresolved comparator finds its input: inside beyond the hysteresis, outside, or between these ranges (R601). -/
def cmpZone (lo hi hys v : Int) : Nat :=
  if hi < v then 1 else if v < lo then 2 else if lo + hys ≤ v && v ≤ hi - hys then 0 else 3

/-- The present input of a comparator enters its synchroniser and filter (R596, R601). -/
def State.cmpFeed (s : State) (k : Nat) : State :=
  let lo := s.cmpThr k (F.CMP_TH_THLO k)
  let hi := s.cmpThr k (F.CMP_TH_THHI k)
  let hys : Int := s.fld (F.CMP_HB_HYS k)
  let x := s.cmp k
  let s := s.modCmp k fun x => { x with st := cmpState lo hi hys x.st x.v }
  if !(s.cmpEn k && x.connected) || s.flag (F.CMP_STAT_STBUSY k) then s
  else s.pinFeed .cmp k x.seen (s.fld (F.CMP_CFG_CFILT k) + 1) (if s.flag (F.CMP_STAT_UNRES k) then cmpZone lo hi hys x.v else (s.cmp k).st)

/-- The input of comparator `k` takes the code `v`, for every comparator on that input (R595, R596). -/
def State.cmpVolt (s : State) (k : Nat) (v : Int) : State :=
  s.each ((List.range 48).filter fun j => j == k || (s.cmpEn j && s.fld (F.CMP_CFG_INPUT j) == s.fld (F.CMP_CFG_INPUT k))) fun s j =>
    (s.modCmp j fun x => { x with v := v }).cmpFeed j

/-- The blanking of a comparator ends (R597, R598). -/
def State.blankEnd (s : State) (k : Nat) : State :=
  if !(s.cmp k).blanked || s.cmpBlanked k then s else (s.modCmp k fun x => { x with blanked := false }).cmpLatch k

/-- A write of `TRIP` = 1 (R598). -/
def State.cmpClear (s : State) (k : Nat) : State :=
  if s.cmpFrozen k then s
  else
    let s := s.setFlag (F.CMP_STAT_TRIP k) false
    s.when (s.cmpAct k != actCbc && !s.flag (F.CMP_STAT_RAWO k) && !s.flag (F.CMP_STAT_UNRES k)) (·.setFlag (F.CMP_STAT_LTCH k) false)

/-- The latches of the cycle-by-cycle limits on a channel clear at its load point (R598). -/
def State.cbcLoad (s : State) (c : Nat) : State :=
  s.each ((s.cmpsOn c actCbc).filter fun k => !s.flag (F.CMP_STAT_RAWO k) && !s.flag (F.CMP_STAT_UNRES k) && !s.cmpFrozen k)
    fun s k => s.setFlag (F.CMP_STAT_LTCH k) false

/-- A self-test starts: the input is disconnected (R603). -/
def State.cmpTestBegin (s : State) (k : Nat) : State :=
  let s := (s.setFlag (F.CMP_STAT_STBUSY k) true).modCmp k fun x => { x with testAt := s.now, rawAt := none }
  { s with inputs := s.inputs.filter fun x => !(x.kind == .cmp && x.inst == k) }

/-- A write of `START` = 1 (R606). -/
def State.cmpTestStart (s : State) (k : Nat) : State :=
  let p := s.fld (F.CMP_CFG_PAIR k)
  let paired := p < 48 && p != k && s.cmpEn p && s.fld (F.CMP_CFG_INPUT p) == s.fld (F.CMP_CFG_INPUT k)
    && !s.flag (F.CMP_STAT_STBUSY p) && !s.flag (F.CMP_STAT_UNRES p)
  if !s.inForce || !s.cmpEn k then s
  else if s.cmpFrozen k || (s.cmpAct k != 0 && !paired) then s.setFlag (F.CMP_TEST_STREF k) true
  else (s.setFlag (F.CMP_TEST_STREF k) false).cmpTestBegin k

/-- The length of a self-test (R603). -/
def testCycles : Nat := 300

/-- Cycle 300 of a self-test: its result, and the state that goes on from inside, with the restored input at the synchroniser and filter; the
blocks see `RAWO` from the next cycle on (R602 to R605). -/
def State.cmpTestEnd (s : State) (k : Nat) (pass : Bool) : State :=
  if !s.flag (F.CMP_STAT_STBUSY k) || s.now < (s.cmp k).testAt + testCycles then s
  else
    let s := ((s.setFlag (F.CMP_STAT_STBUSY k) false).setFlag (F.CMP_STAT_STPASS k) pass).setFlag (F.CMP_STAT_STFAIL k) (!pass)
    let s := s.when (!pass) (·.raiseCmp Ev.CMP_STFAIL k)
    let s := s.when (!s.flag (F.CMP_STAT_UNRES k)) (·.modCmp k fun x => { x with seen := 0, rawAt := some (s.now + 1) })
    let s := s.when (s.sys == sysTest) fun s => (s.when pass (·.modCmp k fun x => { x with connected := true })).mark .connect 0
    (s.modCmp k fun x => { x with st := 0 }).cmpFeed k

/-- The cycle after a self-test: `RAWO` is that of the inside state (R604). -/
def State.cmpResume (s : State) (k : Nat) : State :=
  if (s.cmp k).rawAt.any (· ≤ s.now) then
    ((s.modCmp k fun x => { x with rawAt := none }).setRawo k ((s.cmp k).seen != 0)).when (s.fld F.PR_CFG_SPCMP == k) State.sumpFollow
  else s

/-- The cycles in which the comparators act by themselves: after self-tests, and at the ends of blankings with `RAWO` asserted (R598, R604). -/
def State.cmpAt (s : State) : List Nat :=
  (List.range 48).flatMap fun k =>
    (s.cmp k).rawAt.toList ++ (if (s.cmp k).blanked && s.flag (F.CMP_STAT_RAWO k) && !s.flag (F.CMP_STAT_LTCH k) && !s.flag (F.CMP_STAT_UNRES k)
      then [(s.cmp k).blankAt + s.fld (F.CMP_HB_BLK k)] else [])

/-- The self-tests that ended in the cycle before. -/
def State.cmpDo (s : State) : State := s.each (List.range 48) State.cmpResume

/-- What ends a cycle at the comparators: the ends of blankings (R598). -/
def State.cmpEnd (s : State) : State := s.each (List.range 48) State.blankEnd

/-- The end of the wait of R602. -/
def State.cmpUnresolved (s : State) : State :=
  s.each ((List.range 48).filter fun k => s.cmpEn k && s.flag (F.CMP_STAT_UNRES k)) fun s k => s.raiseCmp Ev.CMP_UNRES k

/-! ### The traction Sump -/

/-- The Sump comparator has held the chopper on for `SPMAXON` (R614). -/
def State.sumpMax (s : State) : State :=
  if !s.flag F.PR_SUMPST_SPON || !s.past .chopOn 0 (s.fld F.PR_SUMPT_SPMAXON * cyclesPerMs) then s
  else
    let s := (((s.mark .chopOff 0).setFlag F.PR_SUMPST_SPFORCE true).setFlag F.PR_SUMPST_SPMAX true).incSat F.PR_SUMPST_SPMAX_CNT
    (s.raiseAll Ev.PR_SUMPMAX [0, 1] 0).sumpFollow

/-- The forced off-time of the traction Sump ends (R614). -/
def State.sumpMinEnd (s : State) : State :=
  s.when (s.flag F.PR_SUMPST_SPFORCE && s.past .chopOff 0 (s.fld F.PR_SUMPT_SPMINOFF * cyclesPerMs)) fun s =>
    (s.setFlag F.PR_SUMPST_SPFORCE false).sumpFollow

/-! ### Actuator legs that report shorts -/

/-- The recognised level of a gate monitor changes (R571, R574, R607). -/
def State.gateMonitor (s : State) (n k : Nat) (low off : Bool) : State :=
  let s := s.gateLevel n k low off
  if !off && s.acGuardSeen n k then (s.acTrip (F.AC_FLAG_STGUARD n) Ev.AC_STGUARD n k).shortReport convAct (3 * n + k) none else s

/-- A drain–source over-current of the switch `low` of a leg: the shorted switch is its complement (R575, R607). -/
def State.acVds (s : State) (n k : Nat) (low : Bool) : State :=
  if (s.acVdsDue n k low).any (· ≤ s.now) then (s.acTrip (F.AC_FLAG_VDS n) Ev.AC_VDS n k).shortReport convAct (3 * n + k) (some low) else s

/-- The drain–source over-currents that no command has placed in their cycle (R575). -/
def State.vdsEnd (s : State) : State := s.each acOuts fun s p => s.acVds p.1 p.2.1 p.2.2

/-! ### AXLE_SAFE -/

/-- Every actuator channel is suspended, as the safety controller writes `AC_CTL.SUSP`. -/
def State.suspAll (s : State) (on : Bool) : State := s.each (List.range 4) fun s n => s.setFlag (F.AC_CTL_SUSP n) on

/-- The traction converters that are in use. -/
def State.tractions (s : State) : List Nat := [0, 1].filter fun k => s.flag (F.TC_CFG_EN k) || s.pgsOf k != []

/-- The code of UNRES in `SI_STAT.SISTATE`. -/
def siUnres : Nat := 0

/-- The pairs that are still unresolved at the end of TEST (R641). -/
def State.pairsUnresolved (s : State) : State :=
  s.each ((List.range 8).filter fun n => s.flag (F.SI_CFG_EN n) && s.fld (F.SI_STAT_SISTATE n) == siUnres) fun s n =>
    (s.setFlag (F.SI_STAT_UNRESF n) true).raise Ev.SI_UNRES axle n

/-- TEST ends: the pairs that are still unresolved are reported, no safe output is asserted any more by its test, and the power stage counts from
here (R641, R659, R879). -/
def State.leaveTest (s : State) : State :=
  (s.pairsUnresolved.each (List.range 8) fun s n => s.setFlag (F.SO_STAT_PIN n) false).pgStart

/-- Entry to AXLE_SAFE (R43, R46, R47, R294): by a fault or by a demand, from TEST too, which then ends (R641,
R879); `direct` when the hardware sequencer sets the commands. The charger and the DC/DC converter stop because `SYS_STATE` leaves READY. R47 does not say whether its choice follows the speed of a machine
afterwards: it is made once, at the entry.
DEDUCED, unsafe (log entry 42). DESIGN CHOICE, unsafe (log entry 63). -/
def State.enterAxleSafe (s : State) (fault direct : Bool) : State :=
  let s := s.modSc fun c => { c with axFault := c.axFault || fault, axDemand := c.axDemand || !fault }
  if s.inForce && s.sys != sysReady || s.sys == sysReset || s.sys == sysDefaults then s
  else
    let early := s.sys != sysReady
    let s := (s.setFld F.SYS_STAT_SYS_STATE sysAxleSafe).suspAll true
    let s := s.each (s.tractions.filter fun k => !s.shortTrip k) fun s k =>
      let cmd := if s.tcAxleAsc k then 2 else 1
      if direct then s.applyCmd k cmd srcAxle 5 else s.pendCmd k cmd srcAxle 5
    s.when early State.leaveTest

end Sys2Proof.Machine
end

