-- ==== Sys2Proof/Machine/Pulse.lean ====
section
/-! DEFINITION. What happens at a PG channel: reference edges, load points, edge-queue items, strobes, and the off-confirm
handshake (R306 to R328, R333, R336, R607, R615). -/

namespace Sys2Proof.Machine

/-- A channel that follows its reference states: enabled, in READY or AXLE_SAFE (R879). -/
def State.pgRuns (s : State) (c : Nat) : Bool := s.flag (F.PG_CFG_EN c) && s.inForce

/-- The outputs whose requested state rises between two reference states: high side, low side (R306, R517). -/
def State.pgRises (s t : State) (c : Nat) : Bool × Bool :=
  let indep := s.pgMode c == pgIndep
  let h := s.flag (F.PG_STAT_RH c)
  let h' := t.flag (F.PG_STAT_RH c)
  (!h && h', if indep then !s.flag (F.PG_STAT_RL c) && t.flag (F.PG_STAT_RL c) else h && !h')

/-- A change `f` of the reference states of a channel; on a rectifier channel of a DC/DC cell, a rise opens its emulation gate (R517). -/
def State.pgWithDc (s : State) (c : Nat) (f : State → State) : State :=
  match s.dcSrOf c with
  | none => f s
  | some k =>
    let (h, l) := s.pgRises (f s) c
    f ((s.when h (·.dcRise k false)).when l (·.dcRise k true))

/-- The channel angle passes a compare angle, or a force changes (R306, R307). -/
def State.referenceEdge (s : State) (c : Nat) : State := if s.pgRuns c then s.pgWithDc c (·.pgEval c) else s

/-- The head item of an edge queue fires (R310, R311). -/
def State.edgeFire (s : State) (c : Nat) : State :=
  if s.pgRuns c && !s.justNow .eqFire c then s.pgWithDc c (·.eqFire c) else s

/-- A load point of a channel (R316 to R319, R500, R546, R598). -/
def State.pgLoadPoint (s : State) (c : Nat) : State :=
  if !s.pgRuns c then s
  else
    let s := ((s.pgTransfer c).incMod (F.PG_CNT_LDCNT c)).cbcLoad c
    let s := s.pgWithDc c fun s => if s.fld (F.PG_ACTL_SRC c) == 1 then s.reforce c else s.pgEval c
    let s := match s.dcCellOf c with
      | some k => s.dcCellBoundary k
      | none => s
    s.chLoadPoint c

/-- The channel angle, formed with the phase offset before any transfer of the cycle, reaches a load angle in this cycle (R315). -/
def State.pgLoadDue (s : State) (c : Nat) : Bool :=
  let x := s.dom (s.fld (F.PG_CFG_CDOM c))
  let o : W48 := (s.regBefore (Reg.PG_APHOFS c)).setWidth 48 <<< 16
  let (p, q) := (x.prev + o, x.acc + o)
  let rev := s.flag (F.AD_STAT_DIR (s.fld (F.PG_CFG_CDOM c)))
  let b := wordOf (s.fld (F.PG_LOAD_LDANG c) * 65536)
  s.flag (F.PG_LOAD_LDEN c) && (reaches rev (angleOf p) (angleOf q) b
    || (s.flag (F.PG_LOAD_LD2 c) && reaches rev (angleOf p) (angleOf q) (b + 0x80000000#32)))

/-- A load point at a load angle (R315). -/
def State.pgAngleLoad (s : State) (c : Nat) : State :=
  s.when (s.pgLoadDue c && !s.justNow .pgLoad c) fun s => (s.mark .pgLoad c).pgLoadPoint c

/-- The strobes of a PG channel (R320). -/
def State.pgStrobe (s : State) (c code : Nat) : State :=
  if !s.pgRuns c then s
  else if code == 1 then s.pgLoadPoint c
  else if code == 2 then s.setQueue c []
  else if code == 3 then (s.pgLoadPoint c).setQueue c []
  else s

/-- The traction modulator writes `PG_EQA` and `PG_EQS`, which pushes an item (R313). -/
def State.pgPush (s : State) (c : Nat) (x : Word) (sh sl : Bool) : State :=
  ((s.setReg (Reg.PG_EQA c) x).setReg (Reg.PG_EQS c) (BitVec.ofNat 32 (b2n sh + 2 * b2n sl))).eqPush c ⟨x, sh, sl⟩

/-- The push of the modulator of the channel's converter, its one item of this cycle; nothing else writes the two registers (R313, R389). -/
def State.pushedBy (s : State) (c : Nat) (x : Word) (sh sl : Bool) : State :=
  match s.tmOwner c with
  | some m => s.when (!s.justNow .tmPush m) fun s => (s.pgPush c x sh sl).mark .tmPush m
  | none => s

/-! ### The off-confirm handshake -/

/-- The channel finds a switch that its driver forced off (R326). -/
def State.pgForcedOff (s : State) (c : Nat) (low : Bool) : State :=
  let s := (s.setFlag (F.PG_FLAG_FORCEOFF c) true).raise Ev.PG_FORCEOFF (s.pgConv c) c
  (s.pgIsolate c isoForced).pgReport c (some low)

/-- The channel finds both gates on (R328). -/
def State.pgGuard (s : State) (c : Nat) : State :=
  let s := (s.setFlag (F.PG_FLAG_STGUARD c) true).raise Ev.PG_STGUARD (s.pgConv c) c
  (s.pgIsolate c isoGuard).pgReport c none

/-- The recognised level of an off-confirm becomes `on` (R323 to R328). -/
def State.offConfirm (s : State) (c : Nat) (low on : Bool) : State :=
  if !s.flag (F.PG_CFG_EN c) || s.flag (ocF c low) == on then s
  else
    let s := (s.setFlag (ocF c low) on).modOut c low fun o =>
      if on then { o with ocAt := s.now } else { o with seenOff := true, ocEnd := s.now }
    if on then
      let s := s.modPg c fun p => { p with confirmed := true }
      if s.flag (F.PG_CFG_OCEN c) && s.flag (pinF c low) && (s.pgOut c low).seenOff then s.pgForcedOff c low else s
    else if s.pgMode c == pgCompl && (s.pg c).confirmed && !s.flag (ocF c (!low)) then s.pgGuard c
    else s

/-- The off-confirm of an output has been recognised as asserted at some time since its last deassertion at the pin (R325). -/
def State.ocSeen (s : State) (c : Nat) (low : Bool) : Bool :=
  let o := s.pgOut c low
  s.flag (ocF c low) || decide (o.offAt / stepsPerCycle ≤ o.ocAt) || decide (o.offAt / stepsPerCycle < o.ocEnd)

/-- An output has been deasserted for `HSTMO` cycles with no off-confirm (R325); on a traction Sump channel R615 follows. -/
def State.ocMissing (s : State) (c : Nat) (low : Bool) : State :=
  if !(s.pgRuns c && s.flag (F.PG_CFG_OCEN c)) || s.flag (pinF c low) || s.ocSeen c low
      || s.now != (s.pgOut c low).offAt / stepsPerCycle + s.fld (F.PG_HS_HSTMO c) then s
  else
    let s := (s.setFlag (F.PG_FLAG_OCMISS c) true).raise Ev.PG_OCMISS (s.pgConv c) c
    let s := s.when (s.flag (F.PG_CFG_SUMP c)) (·.raiseAll Ev.PR_SUMPF [0, 1] c)
    s.pgIsolate c isoOcMiss

/-- An off-confirm is still asserted `ONTMO` cycles after its output was asserted (R327). -/
def State.notConfirmed (s : State) (c : Nat) (low : Bool) : State :=
  if s.pgRuns c && s.flag (F.PG_CFG_OCEN c) && s.flag (pinF c low) && s.flag (ocF c low)
      && (s.pgOut c low).onAt / stepsPerCycle + s.fld (F.PG_HS_ONTMO c) == s.now then
    (s.setFlag (F.PG_FLAG_NOON c) true).raise Ev.PG_NOON (s.pgConv c) c
  else s

end Sys2Proof.Machine
end

