-- ==== Sys2Proof/Machine/GateLink.lean ====
section
/-! DEFINITION. Gate Link (R341 to R372): frames, transactions, negotiation, configuration, polling and recovery. What a status
block makes the BX960 do stands with the safety functions. -/

namespace Sys2Proof.Machine

def State.gl (s : State) (n : Nat) : GlPort := vget s.gls n GlPort.reset
def State.modGl (s : State) (n : Nat) (f : GlPort → GlPort) : State := { s with gls := vmod s.gls n f }
def State.drv (s : State) (n d : Nat) : Drv := vget (s.gl n).drvs d Drv.reset
def State.modDrv (s : State) (n d : Nat) (f : Drv → Drv) : State :=
  s.modGl n fun p => { p with drvs := vmod p.drvs d f }

/-- The codes of `GL_STAT.STATE`. -/
def glOff : Nat := 0
def glEnum : Nat := 1
def glNego : Nat := 2
def glConf : Nat := 3
def glRun : Nat := 4
def glBroken : Nat := 5
/-- The codes of `GL_DSTAT.DSTATE`. -/
def drvAbsent : Nat := 0
def drvOk : Nat := 1
def drvLost : Nat := 2
def drvFailed : Nat := 3

def State.glState (s : State) (n : Nat) : Nat := s.fld (F.GL_STAT_STATE n)
def State.glNdrv (s : State) (n : Nat) : Nat := min 8 (s.fld (F.GL_CFG_NDRV n))
def State.drvState (s : State) (n d : Nat) : Nat := s.fld (F.GL_DSTAT_DSTATE n d)
def State.drvVer (s : State) (n d : Nat) : Nat := s.fld (F.GL_DVER_VNEG n d)
def State.drvCh (s : State) (n d : Nat) : Nat := s.fld (F.GL_DMAP_CH n d)

/-- An event of a driver, against the converter of its channel (R362, R373). -/
def State.raiseDrv (s : State) (e : Ev.Src) (n d : Nat) : State := s.raise e (s.pgConv (s.drvCh n d)) (8 * n + d)

/-- An event of a port, against each converter of the channels that its drivers serve. -/
def State.raisePort (s : State) (e : Ev.Src) (n : Nat) : State :=
  let ds := (List.range 8).filter fun d => s.flag (F.GL_DMAP_DEN n d)
  s.raiseAll e (sortNat (ds.map fun d => s.pgConv (s.drvCh n d))) n

/-! ### Frames -/

/-- One byte of the CRC of R348. -/
def crc16Byte (crc b : Nat) : Nat :=
  (List.range 8).foldl (fun c i =>
    let top := (c / 2 ^ 15 + b / 2 ^ (7 - i)) % 2
    let c := c * 2 % 2 ^ 16
    if top == 1 then Nat.xor c 0x1021 else c) crc

/-- CRC-16 of R348. -/
def crc16 (bs : List Byte) : Nat := bs.foldl (fun c b => crc16Byte c b.toNat) 0xFFFF

def bytes (l : List Nat) : List Byte := l.map (BitVec.ofNat 8)

/-- A frame around its bytes 1 to 3 + LEN (R347). -/
def glFrame (body : List Byte) : List Byte := 0xA5#8 :: body ++ leBytes 2 (crc16 body)

/-- The position of a request, 0xF for a broadcast. -/
def GlReq.pos : GlReq → Nat
  | .enum => 0xF
  | .hello p => p
  | .setver p _ => p
  | .setrate _ => 0xF
  | .read p _ _ => p
  | .write p _ _ => p
  | .status p _ => p
  | .clear p => p
  | .snap => 0xF

/-- The command code of a request (R350). -/
def GlReq.cmd : GlReq → Nat
  | .enum => 0
  | .hello _ => 1
  | .setver _ _ => 2
  | .setrate _ => 3
  | .read _ _ _ => 4
  | .write _ _ _ => 5
  | .status _ _ => 6
  | .clear _ => 7
  | .snap => 8

/-- The payload of a request (R350); a version byte holds major in [7:4] and minor in [3:0] here, and goes out minor first. -/
def GlReq.payload : GlReq → List Byte
  | .enum => [0#8]
  | .hello _ => bytes [4, 1]
  | .setver _ v => bytes [v % 16, v / 16]
  | .setrate r => bytes [r]
  | .read _ a n => bytes [a, n]
  | .write _ a d => bytes [a, d.length] ++ d
  | .status _ _ => []
  | .clear _ => []
  | .snap => []

def GlReq.broadcast (r : GlReq) : Bool := r.pos == 0xF

def GlReq.frame (r : GlReq) (seq : Nat) : List Byte :=
  glFrame (bytes [seq % 8 * 16 + r.pos, r.cmd, r.payload.length] ++ r.payload)

/-- The levels of a character on the line (R342). -/
def glChar (b : Byte) : List Bool := false :: (List.range 8).map (fun i => b.getLsbD i) ++ [true]

/-- The cycles of one bit at the rate of the port (R342). -/
def State.glBit (s : State) (n : Nat) : Nat := 80 / 2 ^ s.fld (F.GL_STAT_RATEA n)

/-- The cycles that a frame takes on the wire: ten bits for each byte, at the rate of the port (R342, R347). -/
def State.glFrameTime (s : State) (n : Nat) (f : List Byte) : Nat := f.length * 10 * s.glBit n

/-- The level of `GL_n_SDO`: the bits of the open request, and 1 when the line idles and while the port is off (R342, R372). -/
def State.glSdo (s : State) (n : Nat) : Bool :=
  match (s.gl n).txn with
  | none => true
  | some t => (t.frame.flatMap glChar).getD ((s.now - t.at_) / s.glBit n) true

/-- The length of a status block by version (R361). -/
def statusLen (ver : Nat) : Nat := if ver < 0x12 then 8 else if ver < 0x14 then 12 else 14

/-- Whether the length of a response's payload is that of its command (R350). -/
def GlReq.lenOk (r : GlReq) (ver len : Nat) : Bool :=
  match r with
  | .hello _ => len == 10
  | .setver _ _ => len == 3
  | .read _ _ n => len == n + 2
  | .write _ _ _ => len == 3
  | .status _ _ => len == statusLen ver
  | .clear _ => len == 1
  | _ => false

/-- A frame split into address, command and payload, when its `SOF` and its length are right; and whether its CRC is. -/
def splitFrame (f : List Byte) : Option (Nat × Nat × List Byte × Bool) :=
  match f with
  | sof :: adr :: cmd :: len :: rest =>
    let n := len.toNat
    if sof = 0xA5#8 ∧ n ≤ 32 ∧ rest.length = n + 2 then
      let body := adr :: cmd :: len :: rest.take n
      some (adr.toNat, cmd.toNat, rest.take n, leNat (rest.drop n) == crc16 body)
    else none
  | _ => none

/-! ### The drivers' side -/

/-- The latched flags of a status word (R361). -/
def latchedBits (w : Nat) : Nat := w % 128

/-- Without a valid frame for this long, a driver returns to 5 Mbit/s (R345). -/
def drvSilence : Nat := cyclesPerMs
/-- A SETRATE takes effect this long after the end of its frame (R353). -/
def rateDelay : Nat := 10 * cyclesPerUs

/-- A driver's rate in cycle `c` (R345, R353). -/
def Drv.rateIn (d : Drv) (c : Nat) : Drv :=
  if d.frameAt + drvSilence ≤ c then { d with rate := 0, newRate := none }
  else
    match d.newRate with
    | some (r, at_) => if at_ ≤ c then { d with rate := r, newRate := none } else d
    | none => d

/-- What a request does at a driver that it is for: `p` is the place of the driver in the ring, `fin` the end of the frame (R352, R353,
R359). -/
def Drv.take (d : Drv) (p fin : Nat) : GlReq → Drv
  | .enum => { d with pos := p }
  | .setver _ v => { d with ver := v }
  | .setrate r => { d with newRate := some (r, fin + rateDelay) }
  | .write _ a data =>
    if 0x10 ≤ a ∧ a + data.length ≤ 0x40 then
      let k := a - 0x10
      let d := { d with regs := d.regs.take k ++ data ++ d.regs.drop (k + data.length) }
      if a = 0x10 ∧ data ≠ [] ∧ d.ver < 0x12 then { d with latched := 0, rstf := false } else d
    else d
  | .clear _ => { d with latched := 0, rstf := false }
  | .snap => { d with snapped := true }
  | _ => d

/-- The drivers that receive a frame sent now: those before ring position `reach`, up to the first that runs at another rate than the
port, which can repeat nothing (R344, R345). -/
def State.glHears (s : State) (n reach : Nat) : List Nat :=
  (List.range (min reach (s.glNdrv n))).takeWhile fun d => ((s.drv n d).rateIn s.now).rate == s.fld (F.GL_STAT_RATEA n)

/-- A request that ends in cycle `fin` acts at the drivers that receive it; every one of them has seen a valid frame. DESIGN CHOICE, unsafe
(log entry 33). -/
def State.drvsTake (s : State) (n : Nat) (r : GlReq) (reach fin : Nat) : State :=
  s.each (s.glHears n reach) fun s d =>
    s.modDrv n d fun x =>
      let x := { x.rateIn s.now with frameAt := fin }
      if r.broadcast || d == r.pos then x.take d fin r else x

/-! ### Transactions -/

/-- The port sends a request with the next `SEQ` (R354, R355). -/
def State.glSend (s : State) (n : Nat) (r : GlReq) (tries : Nat) (echoed : Bool) (reach : Nat) : State :=
  let seq := ((s.gl n).seq + 1) % 8
  let f := r.frame seq
  (s.modGl n fun p => { p with txn := some ⟨r, seq, f, s.now, tries, echoed⟩, seq := seq }).drvsTake n r reach (s.now + s.glFrameTime n f)

/-- The port may send: it is in use, it has no transaction open, and no wait of R353 or R357 holds it back. -/
def State.glIdle (s : State) (n : Nat) : Bool :=
  s.glState n != glOff && (s.gl n).txn.isNone && !(s.gl n).fbWait && decide ((s.gl n).hold ≤ s.now)

/-- The drivers have their places in the ring: the port has enumerated them, and the ring is whole. -/
def State.glPlaced (s : State) (n : Nat) : Bool := [glNego, glConf, glRun].contains (s.glState n)

/-- The port sends its next request when it is one that `p` names: a failed transaction again, else a poll of an alert round, else the oldest
request that waits (R355, R365). DESIGN CHOICE, unsafe (log entry 33). -/
def State.glIssue (s : State) (n : Nat) (p : GlReq → Bool) (reach : Nat) : State :=
  let g := s.gl n
  if !s.glIdle n then s
  else
    match g.again, (if s.glPlaced n then g.first else []), g.todo with
    | some t, _, _ => if p t.req then (s.modGl n fun x => { x with again := none }).glSend n t.req t.tries t.echoed reach else s
    | none, r :: l, _ => if p r then (s.modGl n fun x => { x with first := l }).glSend n r 0 false reach else s
    | none, [], r :: l => if p r then (s.modGl n fun x => { x with todo := l }).glSend n r 0 false reach else s
    | none, [], [] => s

/-- The port sends SNAP in RUN when nothing goes before it and every driver has negotiated 1.3 or later (R350, R353). The manual does not say
when the BX960 sends it. DESIGN CHOICE, unsafe (log entry 33). -/
def State.glSnap (s : State) (n reach : Nat) : State :=
  let g := s.gl n
  s.when (s.glIdle n && s.glState n == glRun && g.again.isNone && g.first == []
      && (List.range (s.glNdrv n)).all fun d => 0x13 ≤ s.drvVer n d) fun s => s.glSend n .snap 0 false reach

def State.glQueue (s : State) (n : Nat) (l : List GlReq) : State := s.modGl n fun p => { p with todo := p.todo ++ l }

/-- The positions of a port: those of the ring and those at which a driver is expected. -/
def State.glAll (s : State) (n : Nat) : List Nat := (List.range 8).filter fun d => decide (d < s.glNdrv n) || s.flag (F.GL_DMAP_DEN n d)

/-- The positions of a port that have not failed. -/
def State.glLive (s : State) (n : Nat) : List Nat := (List.range (s.glNdrv n)).filter fun d => s.drvState n d != drvFailed

/-- The three WRITEs of R360. -/
def confWrites (d : Nat) (img : List Byte) : List GlReq :=
  [.write d 0x10 (img.take 16), .write d 0x20 ((img.drop 16).take 16), .write d 0x30 (img.drop 32)]

/-- The configuration of a driver and its verification (R360). -/
def State.confReqs (s : State) (n d : Nat) : List GlReq :=
  confWrites d (s.drv n d).image ++
    if s.drvVer n d < 0x14 then [.read d 0x10 16, .read d 0x20 16, .read d 0x30 16] else [.status d 2]

/-- Step 5 of R370: CLEAR to the drivers of version 1.2 or later, then STATUS to each. -/
def State.finalReqs (s : State) (n : Nat) : List GlReq :=
  ((s.glLive n).filter fun d => 0x12 ≤ s.drvVer n d).map .clear ++ (s.glLive n).map (GlReq.status · 3)

/-- A driver fails its start-up (R371). -/
def State.drvFail (s : State) (n d : Nat) : State :=
  let s := s.modGl n fun p => { p with todo := p.todo.filter fun r => r.pos != d }
  if !s.flag (F.GL_DMAP_DEN n d) || s.drvState n d == drvFailed then s.setFld (F.GL_DSTAT_DSTATE n d) drvFailed
  else ((s.setFld (F.GL_DSTAT_DSTATE n d) drvFailed).pgIsolate (s.drvCh n d) isoNeg).raiseDrv Ev.GL_NEGFAIL n d

/-- A driver becomes LOST, or a LOST one fails again; its last status is stale (R366, R368). -/
def State.drvLose (s : State) (n d : Nat) : State :=
  let s := (s.modGl n fun p => { p with todo := p.todo.filter fun r => r.pos != d }).modDrv n d fun x => { x with renewed := false }
  let was := s.drvState n d == drvLost
  ((s.setFld (F.GL_DSTAT_DSTATE n d) drvLost).setFlag (F.GL_DSTAT_STALE n d) true).when (!was) (·.raiseDrv Ev.GL_LOST n d)

/-- A driver fails a step of its negotiation or configuration: FAILED at start-up (R371), LOST otherwise. -/
def State.drvBad (s : State) (n d : Nat) : State := if (s.gl n).stage == 1 then s.drvFail n d else s.drvLose n d

/-- The next stage of a port when nothing waits (R357, R369, R370). -/
def State.glNext (s : State) (n : Nat) : State :=
  let p := s.gl n
  if p.todo != [] || p.stage == 0 || p.fbWait then s
  else if s.glState n == glNego then
    let rate := s.fld (F.GL_CFG_RATE n)
    let fast := rate != 0 && !p.stay5 && (List.range (s.glNdrv n)).all fun d => 0x11 ≤ s.drvVer n d
    (s.setFld (F.GL_STAT_STATE n) glConf).glQueue n
      ((if fast then [.setrate rate] else []) ++ (s.glLive n).map (GlReq.status · 1)
        ++ (s.glLive n).flatMap (s.confReqs n ·) ++ (if p.stage == 1 then s.finalReqs n else []))
  else if s.glState n == glConf then
    ((s.setFld (F.GL_STAT_STATE n) glRun).modGl n fun p => { p with stage := 0 }).mark .glRecover n
  else s

/-- A transaction ends with success; the port goes on. -/
def State.glDone (s : State) (n : Nat) : State := s.modGl n fun p => { p with txn := none }

/-- The ring is broken (R367). -/
def State.glBreak (s : State) (n : Nat) : State :=
  let was := s.glState n == glBroken
  let s := s.when (!was) (·.mark .glRecover n)
  let s := (s.setFld (F.GL_STAT_STATE n) glBroken).modGl n fun p =>
    { p with txn := none, again := none, first := [], todo := [], stage := if p.stage == 1 then 1 else 0 }
  let s := s.each (s.glAll n) fun s d =>
    ((s.setFld (F.GL_DSTAT_DSTATE n d) drvLost).setFlag (F.GL_DSTAT_STALE n d) true).modDrv n d fun x => { x with renewed := false }
  s.when (!was) (·.raisePort Ev.GL_PORTLOST n)

/-- An attempt of the open transaction fails: it is to be sent again, or the rate falls back, or the ring or the driver is lost (R355, R357,
R366, R367, R371). -/
def State.glAttemptFails (s : State) (n : Nat) : State :=
  match (s.gl n).txn with
  | none => s
  | some t =>
    let s := s.glDone n
    if t.tries < s.fld (F.GL_CFG_RETRY n) then s.modGl n fun p => { p with again := some { t with tries := t.tries + 1 } }
    else if (s.gl n).fresh.contains t.req.pos then
      (s.modGl n fun p => { p with first := [], todo := [], fresh := [], fbWait := true }).mark .glFail n
    else if !t.echoed then s.glBreak n
    else if t.req.broadcast then s.glNext n
    else (s.drvBad n t.req.pos).glNext n

/-- The echo of the open transaction arrives (R354): exact, or for ENUM with the counter and the CRC that the drivers put in
(R352). -/
def GlTxn.echoOk (t : GlTxn) (echo : List Byte) : Bool :=
  match t.req with
  | .enum =>
    match splitFrame echo with
    | some (adr, cmd, pl, ok) => ok && adr == t.seq * 16 + 0xF && cmd == 0 && pl.length == 1
    | none => false
  | _ => echo == t.frame

/-- A missing or wrong echo ends the attempt; otherwise the echo is noted. -/
def State.glEcho (s : State) (n : Nat) (t : GlTxn) (echo : List Byte) : Bool × State :=
  if t.echoOk echo then (true, s.modGl n fun p => { p with txn := some { t with echoed := true } })
  else (false, (((s.setFlag (F.GL_STAT_ECHOERR n) true).incSat (F.GL_CNT_TMO_CNT n)).glAttemptFails n))

/-- A version as a number, from its two bytes, minor first (R350). -/
def verNum (minor major : Byte) : Nat := major.toNat * 256 + minor.toNat
/-- A version as the fields of `GL_DVER` hold it: major in [7:4] and minor in [3:0]. -/
def verOf (v : Nat) : Nat := v / 256 % 16 * 16 + v % 16

/-- The choice of a version for a driver (R356): min(1.4, vmax), when the driver is accepted. -/
def chooseVer (vmin vmax vminor : Nat) : Option Nat :=
  let v := min 0x104 vmax
  if vmin ≤ v ∧ 0x100 ≤ v ∧ 0x100 + vminor ≤ v then some v else none

/-- A driver's configuration has been verified; a LOST driver that has been negotiated again is OK (R369). -/
def State.drvVerified (s : State) (n d : Nat) : State :=
  if s.drvState n d == drvLost && (s.drv n d).renewed then
    ((s.setFld (F.GL_DSTAT_DSTATE n d) drvOk).setFlag (F.GL_DSTAT_STALE n d) false).raiseDrv Ev.GL_RECOV n d
  else s

/-- An ENUM has come back with its counter (R352, R369 to R371). A wrong counter fails every driver at start-up; later the ring counts as broken.
DESIGN CHOICE, unsafe (log entry 33). -/
def State.glEnumDone (s : State) (n cnt : Nat) : State :=
  let s := s.setFld (F.GL_STAT_NFOUND n) (min 15 cnt)
  if cnt == s.fld (F.GL_CFG_NDRV n) then
    let stage := if (s.gl n).stage == 1 then 1 else 2
    ((s.setFld (F.GL_STAT_STATE n) glNego).modGl n fun p => { p with stage := stage }).glQueue n ((s.glLive n).map .hello)
  else if (s.gl n).stage == 1 then s.each (s.glAll n) fun s d => s.drvFail n d
  else s.glBreak n

/-- The effects of a response that is no status block. -/
def State.glAnswer (s : State) (n : Nat) (r : GlReq) (refused : Bool) (pl : List Byte) : State :=
  match r with
  | .hello d =>
    match pl with
    | [n0, j0, n1, j1, v0, v1, p0, p1, c0, _] =>
      if refused then s.drvBad n d
      else
        let vmin := verNum n0 j0
        let vmax := verNum n1 j1
        let s := (s.setFld (F.GL_DID_VENDOR n d) (leNat [v0, v1])).setFld (F.GL_DID_PART n d) (leNat [p0, p1])
        let s := ((s.setFld (F.GL_DVER_DMIN n d) (verOf vmin)).setFld (F.GL_DVER_DMAX n d) (verOf vmax)).setFld (F.GL_DVER_CAPS n d) c0.toNat
        match chooseVer vmin vmax (s.fld (F.GL_DMAP_VMINOR n d)) with
        | some v => s.modGl n fun p => { p with todo := .setver d (verOf v) :: p.todo }
        | none => s.drvBad n d
    | _ => s.drvBad n d
  | .setver d v =>
    if !refused && pl.drop 2 == [0#8] then
      let s := (s.setFld (F.GL_DVER_VNEG n d) v).modDrv n d fun x => { x with renewed := true }
      s.when ((s.gl n).stage == 0) fun s => s.glQueue n (s.confReqs n d)
    else s.drvBad n d
  | .write d _ _ => if !refused && pl.drop 2 == [0#8] then s else s.drvBad n d
  | .read d a _ =>
    if a < 0x10 then s
    else if !refused && pl.drop 2 == ((s.drv n d).image.drop (a - 0x10)).take 16 then
      s.when (a == 0x30) (·.drvVerified n d)
    else s.drvBad n d
  | .clear _ => s
  | _ => s

/-! ### The timers of a port -/

/-- The longest time between two transactions in RUN (R346). -/
def glMaxGap : Nat := 500 * cyclesPerUs

/-- The polling spacing of a port, in cycles: `POLL` divided evenly among its drivers, and no longer than R346 allows (R346, R364). -/
def State.glSpacing (s : State) (n : Nat) : Nat := min (s.fld (F.GL_POLL_POLL n) * cyclesPerUs / s.glNdrv n) glMaxGap

/-- The polling spacing has run out: STATUS goes to the next driver in position order, whatever its state (R364). -/
def State.glPollTimer (s : State) (n : Nat) : State :=
  if s.glState n != glRun || s.glNdrv n == 0 || !s.past .glPoll n (s.glSpacing n) then s
  else
    let g := s.gl n
    let d := g.poll % s.glNdrv n
    let s := ((s.modGl n fun p => { p with poll := d + 1 }).glQueue n [.status d 0]).mark .glPoll n
    s.when (g.again.isNone && g.first == [] && g.todo == []) fun s => s.glIssue n (fun _ => true) 8

/-- `GL_n_ALERT_N` changes as recognised: when it becomes asserted, a port that is not off polls every driver in position order before any other
transaction (R365). DESIGN CHOICE, unsafe (log entry 33). -/
def State.glAlert (s : State) (n : Nat) (asserted : Bool) : State :=
  let was := s.flag (F.GL_STAT_ALERT n)
  (s.setFlag (F.GL_STAT_ALERT n) asserted).when (asserted && !was && s.glState n != glOff) fun s =>
    s.modGl n fun p => { p with first := (List.range (s.glNdrv n)).map (GlReq.status · 0) }

/-- The 10 ms recovery timer (R369). -/
def State.glRecovery (s : State) (n : Nat) : State :=
  if (s.gl n).stage == 1 || !s.past .glRecover n (10 * cyclesPerMs) then s
  else if s.glState n == glBroken then
    if (s.gl n).txn.isSome then s
    else ((s.setFld (F.GL_STAT_RATEA n) 0).modGl n fun p => { p with again := none, todo := [.enum], fresh := [] }).mark .glRecover n
  else if s.glState n == glRun then
    (s.glQueue n (((List.range (s.glNdrv n)).filter fun d => s.drvState n d == drvLost).map .hello)).mark .glRecover n
  else s

/-- The 1.2 ms wait after a failed rate change ends (R357). -/
def State.glFallback (s : State) (n : Nat) : State :=
  if !(s.gl n).fbWait || !s.past .glFail n (1200 * cyclesPerUs) then s
  else
    let stage := if (s.gl n).stage == 1 then 1 else 2
    let s := s.modGl n fun p => { p with fbWait := false, stay5 := true, stage := stage, todo := [.enum], fresh := [] }
    let s := ((s.setFld (F.GL_STAT_RATEA n) 0).setFld (F.GL_STAT_STATE n) glEnum).setFlag (F.GL_STAT_RATEFB n) true
    s.raisePort Ev.GL_RATEFB n

/-- Lantern starts a port in TEST (R370). -/
def State.glStart (s : State) (n : Nat) : State :=
  s.when (s.flag (F.GL_CFG_EN n)) fun s =>
    (s.setFld (F.GL_STAT_STATE n) glEnum).modGl n fun p => { p with stage := 1, todo := [.enum], txn := none }

/-- The 10 ms start-up time of a port ends (R370, R371). -/
def State.glStartEnd (s : State) (n : Nat) : State :=
  if (s.gl n).stage != 1 || !s.past .step4 0 (10 * cyclesPerMs) then s
  else
    let s := s.each ((s.glAll n).filter fun d => s.drvState n d != drvOk && s.drvState n d != drvFailed) fun s d => s.drvFail n d
    let s := (s.modGl n fun p => { p with stage := 0, todo := [], again := none, txn := none, fbWait := false }).mark .glRecover n
    s.when (s.glState n != glBroken) (·.setFld (F.GL_STAT_STATE n) glRun)

/-- A re-armed channel: CLEAR, or the rewrite of R359, to each driver that serves it (R363). -/
def State.glClearFor (s : State) (c : Nat) : State :=
  s.each (List.range 4) fun s n =>
    s.each ((List.range (s.glNdrv n)).filter fun d => s.flag (F.GL_DMAP_DEN n d) && s.drvCh n d == c && s.drvState n d == drvOk) fun s d =>
      s.glQueue n (if 0x12 ≤ s.drvVer n d then [.clear d] else [.write d 0x10 ((s.drv n d).image.take 16)])

end Sys2Proof.Machine
end

