-- ==== Sys2Proof/Machine/Supervise.lean ====
section
/-! DEFINITION. Fault reactions: entries, units, variants, decision rounds, hand-overs, and what takes effect at a converter's angle
boundary (R337, R399, R586, R612, R616 to R631, R794 to R796, R876). -/

namespace Sys2Proof.Machine

/-! ### Reactions -/

/-- The reaction codes of R617. -/
def frNone : Nat := 0
def frRemove : Nat := 1
def frFlag : Nat := 2
def frVariant : Nat := 3
def frSusp : Nat := 4
def frSafe : Nat := 5
def frHold : Nat := 6
def frLast : Nat := 7
def frAxle : Nat := 8

/-- The rank of a reaction (R617). -/
def frRank (r : Nat) : Nat := [0, 1, 1, 1, 2, 3, 3, 4, 5].getD r 0

/-- An entry without release, engage or secondary. -/
def frPlain (src conv react arg : Nat) : FrEntry := ⟨src, conv, react, arg, 0, 0, false, 0, 0⟩
/-- An entry of rank 1 whose secondary is LAST. -/
def frElseLast (src conv react : Nat) : FrEntry := ⟨src, conv, react, 0, frLast, 0, false, 0, 0⟩

/-- The sources whose default is REMOVE with LAST (R627), with the converters that the table names. -/
def frRemoveDefaults : List (Nat × List Nat) :=
  [(Ev.PG_ISO.num, [0, 1, 2, 3, 4]), (Ev.AC_ISO.num, [0, 1, 2, 3, 4]), (Ev.GL_NEGFAIL.num, [0, 1, 2, 3, 4]),
   (Ev.FIT_OPEN.num, [0, 1, 2, 3]), (Ev.FIT_FAIL.num, [0, 1, 2, 3]),
   (Ev.ADC_FAIL.num, [0, 1, 2, 3, 4]), (Ev.CMP_UNRES.num, [0, 1, 2, 3, 4]), (Ev.CMP_STFAIL.num, [0, 1, 2, 3, 4]),
   (Ev.EC_ESC.num, [0, 1, 2, 3, 4]), (Ev.FE_OVRESC.num, [0, 1, 2, 3, 4]), (Ev.EC_STFAIL.num, [0, 1, 2, 3, 4])]

/-- The events of the axle whose default is AXLE (R627, and the defaults of "Safety Functions, Temperature and Supply"). -/
def frAxleDefaults : List Nat :=
  [Ev.EC_SCFAIL.num, Ev.SF_STOFB.num, Ev.SF_STODRV.num, Ev.SO_STUCK.num, Ev.SUP_CORE.num, Ev.SUP_ANA.num, Ev.SUP_IO.num, Ev.TS_SHUT.num]

/-- The default entry of an event (R627). -/
def frDefault (r : Raise) : FrEntry :=
  let k := r.conv
  let e := r.src
  if k == axle then frPlain e k (if frAxleDefaults.contains e then frAxle else frNone) 0
  else if frRemoveDefaults.any fun p => p.1 == e && p.2.contains k then frElseLast e k frRemove
  else if e == Ev.AD_SRCSW.num && (k == 0 || k == 1 || k == 4) then frElseLast e k frFlag
  else if e == Ev.DL_RDERR.num && r.lvl == 4 then frPlain e k frLast 0
  else if e == Ev.TC_HOLDESC.num then frPlain e k frLast 0
  else if e == Ev.DC_HOLDESC.num || e == Ev.CH_HOLDESC.num then frPlain e k frSafe 1
  else if e == Ev.PR_CONV.num then frPlain e k frHold 0
  else if e == Ev.PR_OV.num && (k == 0 || k == 1 || k == 3) then ⟨e, k, frHold, 0, 0, 0, false, 100, 3⟩
  else if e == Ev.PR_SUMPF.num && k < 2 then frPlain e k frAxle 0
  else if e == Ev.AC_VMOV.num && k == 4 then frPlain e k frSusp 0
  else if e == Ev.TS_SHUT.num then
    if k < 2 then frPlain e k frLast 0 else if k == 4 then frPlain e k frSusp 0 else frPlain e k frSafe 1
  else if e == Ev.SUP_VDRV.num && k == 4 then frPlain e k frSafe 1
  else frPlain e k frNone 0

/-- The image entry that an event uses: its converter's own, or the one for any converter (R618). -/
def State.frImage (s : State) (src conv : Nat) : Option FrEntry :=
  match s.sc.frt.find? fun f => f.src == src && f.conv == conv with
  | some f => some f
  | none => s.sc.frt.find? fun f => f.src == src && f.conv == 7

/-- The entry of an event (R618, R628). -/
def State.frEntry (s : State) (r : Raise) : FrEntry :=
  match s.frImage r.src r.conv with
  | some f => if r.src == Ev.DL_RDERR.num && r.lvl == 4 && frRank f.react < 3 then frDefault r else f
  | none => frDefault r

/-! ### Units -/

/-- The resource that raised an event, as the unit map names it: kind and index (R619, R792). -/
def State.resource (s : State) (r : Raise) : Option (Nat × Nat) :=
  let e := r.src
  let g := e / 16
  if e == Ev.AC_HALL.num || e == Ev.AC_STATE.num || e == Ev.AC_CAP.num || e == Ev.AC_SMAX.num || e == Ev.AC_VMOV.num then none
  else if g == 3 then some (4, r.inst)
  else if g == 4 then some (2, r.inst)
  else if g == 5 || g == 6 then some (3, r.inst)
  else if g == 7 then some (0, r.inst)
  else if g == 8 then some (7, r.inst)
  else if g == 0xF then some (1, r.inst)
  else if e == Ev.RS_GOOD.num || e == Ev.RS_DEGR.num || e == Ev.RS_FAIL.num then some (5, 1 + r.inst)
  else if g == 0xB then some (5, 8 + r.inst)
  else if g == 0xC then some (5, 0x10 + r.inst)
  else if Ev.AD_LOCK.num ≤ e && e ≤ Ev.AD_DIR.num then some (5, s.fld (F.AD_CFG_SRC r.inst))
  else if e == Ev.PR_SHORT.num || (Ev.CMP_CBC.num ≤ e && e ≤ Ev.CMP_STFAIL.num) then some (6, r.inst)
  else none

/-- The units of an event: those that the unit map gives to its resource within its converter (R619). -/
def State.unitsOf (s : State) (r : Raise) : List Nat :=
  match s.resource r with
  | none => []
  | some (kind, idx) => (s.sc.units.filter fun u => u.kind == kind && u.index == idx && u.conv == r.conv).map (·.unit)

/-! ### Variants -/

/-- A variant of a converter. -/
def State.cvar (s : State) (k v : Nat) : Option CVar := s.sc.cvars.find? fun c => c.conv == k && c.num == v

/-- The mask `m` without the bits of `us`. -/
def dropBits (m : Nat) (us : List Nat) : Nat := us.foldl (fun m u => if bitOf m u then m - 2 ^ u else m) m
/-- The mask `m` with the bits of `us`. -/
def addBits (m : Nat) (us : List Nat) : Nat := us.foldl (fun m u => if bitOf m u then m else m + 2 ^ u) m

/-- A pending variant change. -/
def State.varPending (s : State) (k : Nat) : Bool := s.flag (F.FR_CVAR_PVALID k)
/-- The base of R621: the pending variant, or the one in force. -/
def State.varBase (s : State) (k : Nat) : Nat := if s.varPending k then s.fld (F.FR_CVAR_VARP k) else s.fld (F.FR_CVAR_VAR k)

/-- The safety controller sets schedules pending on tracks, and withdraws those of the earlier decision that the new one does not
name (R88, R629, R876). -/
def State.setSchedules (s : State) (k : Nat) (trks : List (Nat × Nat)) : State :=
  let old := (s.scConv k).tracks.filter fun t => !(trks.map Prod.fst).contains t
  let s := s.each old fun s t => s.setFlag (F.DL_TRK_SCHED_PVALID t) false
  let s := s.each trks fun s p =>
    ((s.setFld (F.DL_TRK_SCHED_PEND p.1) p.2).setFlag (F.DL_TRK_SCHED_PVALID p.1) true).modTrk p.1 fun x => { x with pendAt := s.now }
  s.modScConv k fun x => { x with tracks := trks.map Prod.fst, varAt := s.now }

/-- The hand-over or supply entry of a converter (R793). -/
def State.handRow (s : State) (k kind v : Nat) : Option HandRow := s.sc.hand.find? fun h => h.conv == k && h.kind == kind && h.cvn == v

/-- The pending block variant of a converter (R440, R521, R550, R585). -/
def State.setBlockVar (s : State) (k b : Nat) : State :=
  if k < 2 then s.setFld (F.TC_CTL_VARP k) b
  else if k == 2 then s.setFld F.DC_CTL_VARP b
  else if k == 3 then s.setFld F.CH_CTL_VARP b
  else s.each (List.range 4) fun s n => s.setFlag (F.AC_CTL_VARP n) (bitOf b n)

/-- The schedules of a variant, and the mode to which a modulator in DRAPERY must go (R795). -/
def State.varSchedules (s : State) (k : Nat) (c : CVar) : List (Nat × Nat) × Option Nat :=
  if k < 2 && (s.tmMode k == tmDrapery || s.fld (F.TM_STAT_PMODE k) == tmDrapery) then
    match s.handRow k 1 c.num with
    | some h => (h.trks, some tmDrapery)
    | none => (c.trks, some tmCarrier)
  else (c.trks, none)

/-- The block variant that is set pending for a converter. -/
def State.blockVarP (s : State) (k : Nat) : Nat :=
  if k < 2 then s.fld (F.TC_CTL_VARP k)
  else if k == 2 then s.fld F.DC_CTL_VARP
  else if k == 3 then s.fld F.CH_CTL_VARP
  else ((List.range 4).map fun n => s.fld (F.AC_CTL_VARP n) * 2 ^ n).foldl (· + ·) 0

/-- The mode to which a modulator is to change, if it is. -/
def State.modeP (s : State) (k : Nat) : Option Nat :=
  if k < 2 && s.fld (F.TM_STAT_PMODE k) != s.tmMode k then some (s.fld (F.TM_STAT_PMODE k)) else none

/-- The change that is pending for a converter is withdrawn; a boundary in the next 3 cycles may still take it up, which is a free choice (R876).
DESIGN CHOICE, safe (log entry 11). -/
def State.withdraw (s : State) (k : Nat) : State :=
  if !s.varPending k && (s.modeP k).isNone then s
  else
    let c := s.scConv k
    let (w, s) := s.free
    s.modScConv k fun x => { x with old := some {
      until_ := s.now + 4, setAt := c.varAt, var := if s.varPending k then some (s.fld (F.FR_CVAR_VARP k)) else none
      bvar := s.blockVarP k, mode := s.modeP k, keep := bitOf w.toNat 0
      trks := (c.tracks.filter fun t => s.flag (F.DL_TRK_SCHED_PVALID t)).map fun t => (t, s.fld (F.DL_TRK_SCHED_PEND t)) } }

/-- A round sets a variant pending (R629, R630, R795). -/
def State.setVariant (s : State) (k v : Nat) : State :=
  match s.cvar k v with
  | none => s
  | some c =>
    let (trks, mode) := s.varSchedules k c
    let s := s.withdraw k
    let s := ((s.setSchedules k trks).setBlockVar k c.bvar).setFlag (F.FR_CVAR_PVALID k) true
    let s := s.setFld (F.FR_CVAR_VARP k) v
    match mode with
    | some m => s.setFld (F.TM_STAT_PMODE k) m
    | none => s

/-- The block variant of the variant in force. -/
def State.blockVarNow (s : State) (k : Nat) : Nat :=
  if k < 2 then s.fld (F.TC_STAT_VAR k)
  else if k == 2 then s.fld F.DC_STAT_VAR
  else if k == 3 then s.fld F.CH_STAT_VAR
  else ((List.range 4).map fun n => s.fld (F.AC_STAT_VAR n) * 2 ^ n).foldl (· + ·) 0

/-- A pending variant change is cancelled, and what it set is withdrawn (R623, R876). DEDUCED, unsafe (log entry 43). -/
def State.dropVariant (s : State) (k : Nat) : State :=
  if !s.varPending k then s
  else
    let s := s.withdraw k
    let s := ((s.setSchedules k []).setFlag (F.FR_CVAR_PVALID k) false).setBlockVar k (s.blockVarNow k)
    if k < 2 then s.setFld (F.TM_STAT_PMODE k) (s.tmMode k) else s

/-- The sets of a modulator follow `SETEN` of the field-controller variant in force (R414, R620). -/
def State.tmSetsFollow (s : State) (m : Nat) : State :=
  let en := s.fld (F.TC_VBS_SETEN m (s.fld (F.TC_STAT_VAR m)))
  s.each [0, 1] fun s k =>
    let want := bitOf en k
    if (s.tmSet m k).on == want then s
    else
      let s := s.modSet m k fun x => { x with on := want, carrier := [], drapery := [] }
      if !want then
        let chs := s.tmChs m k
        let s := s.modSet m k fun x => { x with handTo := none, hand := [], want := false, phs := x.phs.map fun _ => TmPh.reset }
        let s := s.each chs fun s c => s.setRegNoted (Reg.PG_SCTL c) 0x10
        s.modTm m fun x => { x with loads := x.loads ++ chs.map fun c => (s.now + 1, c) }
      else if s.tmMode m == tmDrapery then
        let n := s.tmSelect m (s.tmRhoNow m) (s.fld (F.TM_SM_M m k))
        let s := ((s.setFld (F.TM_SSTAT_SLOT m k) n).setFld (F.TM_SSTAT_TSLOT m k) n).modSet m k fun x => { x with fill := n, handTo := some true }
        (s.mark .hand m).tmRestart m k 41
      else s

/-- The block variants of the pending change take force (R414, R440, R521, R550, R585). -/
def State.blockVariants (s : State) (k rearmAll : Nat) : State :=
  if k < 2 then (s.setFld (F.TC_STAT_VAR k) (s.fld (F.TC_CTL_VARP k))).tmSetsFollow k
  else if k == 2 then (s.setFld F.DC_STAT_VAR (s.fld F.DC_CTL_VARP)).dcMask
  else if k == 3 then s.chVariant (s.fld F.CH_CTL_VARP)
  else s.each ((List.range 4).filter fun n => s.flag (F.AC_CFG_EN n)) fun s n => s.acVariant n (s.fld (F.AC_CTL_VARP n)) (bitsOf rearmAll (3 * n) 3)

/-- The pending variant takes force (R629). -/
def State.takeVariant (s : State) (k rearmAll : Nat) : State :=
  let v := s.fld (F.FR_CVAR_VARP k)
  let fl := ((s.cvar k v).map CVar.flags).getD 0
  let s := (((s.setFld (F.FR_CVAR_VAR k) v).setFld (F.FR_CVAR_FLAGS k) fl).setFlag (F.FR_CVAR_PVALID k) false).blockVariants k rearmAll
  (s.modScConv k fun x => { x with tracks := [] }).raise Ev.FR_VARCHG k 0

/-- A boundary takes up the change that was withdrawn less than 4 cycles ago; what the round decided stays pending against it (R876). -/
def State.takeOld (s : State) (k : Nat) : State :=
  match (s.scConv k).old with
  | none => s
  | some o =>
    if !(o.keep && s.now < o.until_ && o.setAt + 4 ≤ s.now) then s
    else
      let was := s
      let s := s.modScConv k fun x => { x with old := some { o with var := none, mode := none } }
      let s := match o.var with
        | some v => ((s.setFld (F.FR_CVAR_VARP k) v).setBlockVar k o.bvar).takeVariant k 0
        | none => s
      let s := match o.mode with
        | some m => (s.setFld (F.TM_STAT_PMODE k) m).tmModeChange k
        | none => s
      let s := if was.varPending k then
          ((s.setFld (F.FR_CVAR_VARP k) (was.fld (F.FR_CVAR_VARP k))).setFlag (F.FR_CVAR_PVALID k) true).setBlockVar k (was.blockVarP k)
        else s.setBlockVar k (s.blockVarNow k)
      let s := s.when (decide (k < 2)) fun s => s.setFld (F.TM_STAT_PMODE k) ((was.modeP k).getD (s.tmMode k))
      s.modScConv k fun x => { x with tracks := (was.scConv k).tracks }

/-! ### The converter's angle boundary -/

/-- The cycles between a setting and the first boundary that takes it up (R88, R90). -/
def setupCycles : Nat := 4

/-- The key of a re-armed channel or leg of a converter. -/
def rearmKey (k x : Nat) : Nat := if k == 4 then 64 + x else x

/-- The pending re-arms of a converter are carried out at its angle boundary (R334, R363, R579, R631). -/
def State.takeRearms (s : State) (k : Nat) : State :=
  let l := (s.scConv k).rearm
  let s := s.each l fun s x =>
    let key := rearmKey k x
    let n := (s.sc.rearms.find? fun p => p.1 == key).map Prod.snd |>.getD 0
    s.modSc fun c => { c with rearms := (key, n + 1) :: c.rearms.filter fun p => p.1 != key }
  let s := s.modScConv k fun x => { x with rearm := [] }
  if k < 4 then s.each l fun s c => (s.pgRearm c).glClearFor c
  else s.each ((List.range 4).filter fun n => l.any fun x => x / 3 == n) fun s n =>
    s.acVariant n (s.fld (F.AC_STAT_VAR n)) (addBits 0 ((l.filter fun x => x / 3 == n).map (· % 3)))

/-- The pending safe command of a converter takes effect (R337, R581). -/
def State.takeCommand (s : State) (k : Nat) : State :=
  match (s.scConv k).cmdP with
  | some (cmd, src, rank) => if (s.scConv k).cmdAt + setupCycles ≤ s.now then s.applyCmd k cmd src rank else s
  | none =>
    if k == convAct && (s.scConv k).cmdAt + setupCycles ≤ s.now then
      s.each ((List.range 4).filter fun n => s.flag (F.AC_CFG_EN n) && s.fld (F.AC_CTL_SCMDP n) != s.fld (F.AC_STAT_SCMD n)) fun s n =>
        s.acSafe n (s.fld (F.AC_CTL_SCMDP n))
    else s

/-- This cycle is an angle boundary of a converter: its lead track has made a boundary in it, or no lead track runs (R90). The late entries and
the schedules of the lead track stand before the converter's change (R84, R89). -/
def State.convAtBoundary (s : State) (k : Nat) : Bool :=
  match s.leadTrk k with
  | some t => !s.trkLive t || s.justNow .track t
  | none => true

/-- The angle boundary of a converter: the variant, the mode, the re-arms and the safe command that were set 4 cycles or more before (R90,
R400, R629). Every track takes its schedule up at its own boundary (R88, R91). -/
def State.convBoundary (s : State) (k : Nat) : State :=
  if !s.inForce || !s.convAtBoundary k then s
  else
    let s := s.takeOld k
    let due := (s.scConv k).varAt + setupCycles ≤ s.now
    let s := if s.varPending k && due then s.takeVariant k 0 else s
    let s := if k < 2 && due then s.tmModeChange k else s
    ((s.takeRearms k).takeCommand k)

/-- What ends a cycle that is an angle boundary of a converter: the change that no command has made (R90). -/
def State.convsEnd (s : State) : State := s.when s.inForce (·.each (List.range 5) State.convBoundary)

/-- The cycles in which a change of a converter without a running lead track takes effect (R90). -/
def State.convAt (s : State) : List Nat :=
  if !s.inForce then []
  else
    ((List.range 5).filter fun k => !(s.leadTrk k).any s.trkLive).flatMap fun k =>
      let c := s.scConv k
      ([c.varAt + setupCycles, c.cmdAt + setupCycles].filter (s.now < ·)) ++ if c.rearm == [] then [] else [s.now + 1]

/-! ### Decision rounds -/

/-- What a round takes for one event: its raise and its entry, with the reaction in use (primary or secondary). -/
structure Verdict where
  r     : Raise
  e     : FrEntry
  react : Nat
  arg   : Nat
  secu  : Bool
  deriving DecidableEq, Repr

/-- The event with the highest level, then the lowest source, then the earliest (R621). -/
def firstBy (l : List Verdict) : Option Verdict :=
  l.foldl (fun b v =>
    match b with
    | none => some v
    | some x => if x.r.lvl < v.r.lvl || (x.r.lvl == v.r.lvl && v.r.src < x.r.src) then some v else some x) none

/-- The target of the rank-1 reactions (R621): `none` when no valid variant matches. -/
def State.frTarget (s : State) (k : Nat) (l : List Verdict) : Option Nat :=
  let b := match firstBy (l.filter fun v => v.react == frVariant) with
    | some v => v.arg
    | none => s.varBase k
  match s.cvar k b with
  | none => none
  | some c =>
    let units := dropBits c.units ((l.filter fun v => v.react == frRemove).flatMap fun v => s.unitsOf v.r)
    let flags := addBits c.flags ((l.filter fun v => v.react == frFlag).flatMap fun v =>
      if k == 4 then (s.unitsOf v.r).map fun u => v.arg + 4 * (u / 3) else [v.arg])
    (s.sc.cvars.find? fun x => x.conv == k && x.units == units && x.flags == flags).map CVar.num

/-- An actuator channel that runs on with two legs (R586, R622). -/
def State.acTwoLeg (s : State) (n : Nat) : Bool :=
  let iso := (List.range 3).filter fun i => s.acIso n i && bitOf (s.acMask n) i
  s.flag (F.AC_VAR_TWOLEG n (s.acVar n)) && iso.length ≤ 1 && !s.acIso n 0

/-- A REMOVE without a target whose secondary does not apply (R622). -/
def State.frExempt (s : State) (v : Verdict) : Bool :=
  v.r.conv == 4 && v.react == frRemove && (s.unitsOf v.r).all fun u => s.acTwoLeg (u / 3)

/-- The governing reaction of a converter (R623): the highest rank; a command that the protection logic holds before SAFE, and among
SAFE reactions the highest level, then the lowest command.
DEDUCED, unsafe (log entry 43). -/
def governing (held : Bool) (l : List Verdict) : Option Verdict :=
  let top := (l.map fun v => frRank v.react).foldl max 0
  let l := l.filter fun v => frRank v.react == top && v.react != frNone
  if top == 3 then
    let holds := l.filter fun v => v.react == frHold
    let safes := l.filter fun v => v.react == frSafe
    if held || safes == [] then if holds == [] then firstBy safes else firstBy holds
    else safes.foldl (fun b v =>
      match b with
      | none => some v
      | some x => if x.r.lvl < v.r.lvl || (x.r.lvl == v.r.lvl && v.arg < x.arg) then some v else some x) none
  else firstBy l

/-- A safe command of a round, unless one of higher rank is in force or pending (R624). -/
def State.frCommand (s : State) (k cmd rank : Nat) : State :=
  let c := s.scConv k
  let pend := (c.cmdP.map fun p => p.2.2).getD 0
  if s.shortTrip k || rank < c.cmdRank || rank < pend then s else s.pendCmd k cmd srcTable rank

/-- The governing reaction is applied (R617, R623 to R625). DEDUCED, unsafe (log entry 42). -/
def State.frApply (s : State) (k : Nat) (v : Verdict) (target : Option Nat) : State :=
  let setTarget (s : State) : State :=
    match target with
    | none => s
    | some t =>
      if s.varPending k then if s.fld (F.FR_CVAR_VARP k) == t then s else s.setVariant k t
      else if s.fld (F.FR_CVAR_VAR k) == t then s else s.setVariant k t
  let rank := frRank v.react
  if rank == 1 then setTarget s
  else if rank == 2 then
    let s := if k == convAct then (s.modSc fun c => { c with suspTab := true }).suspAll true else s
    setTarget s
  else
    let s := s.dropVariant k
    if v.react == frSafe then s.frCommand k v.arg 3
    else if v.react == frLast then
      if k < 2 then
        (s.modSc fun c => { c with lastTab := c.lastTab.set k true }).setFlag (F.TC_CTL_LAST k) true
      else s.frCommand k 1 4
    else s

/-- `FR_LAST` names the decision. -/
def State.frRecord (s : State) (k : Nat) (v : Verdict) : State :=
  let s := ((s.setFld F.FR_LAST_SRC v.r.src).setFld F.FR_LAST_CONV k).setFld F.FR_LAST_REACT v.react
  (s.setFld F.FR_LAST_ARG v.arg).setFlag F.FR_LAST_SECU v.secu

/-- The command that R586 sets for a channel whose leg failure the table leaves unanswered. -/
def State.acUnanswered (s : State) (l : List Verdict) : State :=
  s.each ((List.range 4).filter fun n => s.flag (F.AC_CFG_EN n)) fun s n =>
    let failed := l.any fun v => v.r.src == Ev.AC_ISO.num && v.r.inst / 3 == n && bitOf (s.acMask n) (v.r.inst % 3)
    s.when (failed && !s.flag (F.AC_VAR_TWOLEG n (s.acVar n)) && !s.varPending 4 && s.fld (F.AC_STAT_SCMD n) == 0
        && s.fld (F.AC_CTL_SCMDP n) == 0 && (s.scConv 4).cmdP.isNone)
      fun s => ((s.setFld (F.AC_CTL_SCMDP n) 1).setFld (F.FR_CVAR_CMDSRC 4) srcTable).modScConv convAct fun x => { x with cmdAt := s.now }

/-- The decision of a round for one converter (R623); the flags tell whether a reaction above NONE was applied and whether it asks for
AXLE_SAFE, and the last whether its rank was 3 or more.
DEDUCED, unsafe (log entry 43). -/
def State.frConverter (s : State) (k : Nat) (evs : List Raise) : State × Bool × Bool × Bool :=
  let l : List Verdict := (evs.filter fun r => r.conv == k).map fun r => let e := s.frEntry r; ⟨r, e, e.react, e.arg, false⟩
  let ones := l.filter fun v => frRank v.react == 1
  let target := if ones == [] then none else s.frTarget k ones
  let lost := ones != [] && target.isNone
  let s' := if lost then (s.incSat F.FR_CNT_NOVAR_CNT).raise Ev.FR_NOVAR k 0 else s
  let l' := if lost then l.map fun v =>
      if frRank v.react == 1 then
        if s.frExempt v then { v with react := frNone, arg := 0 } else { v with react := v.e.sec, arg := v.e.sarg, secu := true }
      else v
    else l
  let held := s.shortTrip k || s.ovAct k
  let s' := if l'.any (fun v => v.e.pleng && 4 ≤ frRank v.react) then s'.modSc fun c => { c with pleng := true } else s'
  match governing held l' with
  | none => (if k == 4 then s'.acUnanswered l' else s', false, false, false)
  | some v =>
    let s' := (s'.frApply k v target).frRecord k v
    (if k == 4 then s'.acUnanswered l' else s', true, v.react == frAxle, 3 ≤ frRank v.react)

/-- The decisions of a round for every converter and the axle: the state, whether a reaction above NONE was applied, whether AXLE is asked
for, and whether some reaction had rank 3 or more.
DEDUCED, unsafe (log entry 43). -/
def State.frRound (s : State) (evs : List Raise) : State × Bool × Bool × Bool :=
  [0, 1, 2, 3, 4, axle].foldl (fun (a : State × Bool × Bool × Bool) k =>
    let (s', used, ax, hi) := if k == axle then
        let l : List Verdict := (evs.filter fun r => r.conv == axle).map fun r => let e := a.1.frEntry r; ⟨r, e, e.react, e.arg, false⟩
        match governing false (l.filter fun v => v.react == frAxle) with
        | some v =>
          let s' := if v.e.pleng then a.1.modSc fun c => { c with pleng := true } else a.1
          (s'.frRecord axle v, true, true, true)
        | none => (a.1, false, false, false)
      else a.1.frConverter k evs
    (s', a.2.1 || used, a.2.2.1 || ax, a.2.2.2 || hi)) (s, false, false, false)

/-! ### Requests that a round takes up -/

/-- A standing hand-over request of a modulator (R399, R794). -/
def State.takeHandover (s : State) (k : Nat) : State :=
  if !s.flag (F.TM_STAT_HREQ k) || s.varPending k || s.fld (F.TM_STAT_PMODE k) != s.tmMode k then s
  else
    let v := s.fld (F.FR_CVAR_VAR k)
    let toDrapery := s.fld (F.TM_STAT_HMODE k) == 1
    match s.handRow k (if toDrapery then 1 else 2) v with
    | none => s
    | some h =>
      let trks := if toDrapery then h.trks else ((s.cvar k v).map CVar.trks).getD []
      (s.setSchedules k trks).setFld (F.TM_STAT_PMODE k) (if toDrapery then tmDrapery else tmCarrier)

/-- A standing supply-mode request of the charger (R550, R796). -/
def State.takeSupply (s : State) : State :=
  if !s.flag F.CH_STAT_PHREQ || s.varPending 3 then s
  else
    match s.sc.hand.find? fun h => h.conv == 3 && h.kind == (if s.flag F.CH_CMD_PH1 then 4 else 3) with
    | none => s
    | some h => if s.fld (F.FR_CVAR_VAR 3) == h.cvn then s else s.setVariant 3 h.cvn

/-- The safe command that the state of a field controller requests (R337, R433). -/
def State.takeSreq (s : State) (k : Nat) : State :=
  let c := s.scConv k
  let want := s.fld (F.TC_STAT_SREQ k)
  if s.sys != sysReady || !s.flag (F.TC_CFG_EN k) || s.shortTrip k || s.fld (F.FR_CVAR_CMDSRC k) != srcNone then s
  else
    match c.cmdP with
    | some (cmd, _, rank) => if rank == 0 && cmd != want then s.pendCmd k want srcNone 0 else s
    | none => if s.cmdOf k == want then s else s.pendCmd k want srcNone 0

/-- A park-lock engage may run once every traction rotor domain is STILL (R625). -/
def State.frEngage (s : State) : State :=
  let still := ((List.range 2).filter fun t => s.flag (F.TC_CFG_EN t)).all fun t => s.flag (F.AD_STAT_STILL (s.tcRdom t))
  s.modSc fun c => { c with engOk := c.pleng && still }

/-- The cycles between the starts of two decision rounds (R623). -/
def roundCycles : Nat := 400

/-- A decision round (R623 to R625). -/
def State.decisionRound (s : State) : State :=
  if !s.inForce || !s.past .round 0 roundCycles then s
  else
    let evs := s.undecided
    let (s, used, ax, _) := ({ s with undecided := [] } : State).mark .round 0 |>.frRound evs
    let s := s.when used (·.incSat F.FR_CNT_DEC_CNT)
    let s := s.when ax (·.enterAxleSafe true false)
    (((s.each [0, 1] State.takeHandover).takeSupply).each [0, 1] State.takeSreq).frEngage

/-! ### Release of over-voltage commands -/

/-- The converters whose over-voltage commands may be released now (R612). -/
def State.ovDue (s : State) : List Nat :=
  (List.range 5).filter fun k => s.ovAct k &&
    let e := s.frEntry ⟨Ev.PR_OV.num, 3, 4, k, 0⟩
    e.relt != 0 && s.ovRel < e.relmax && s.ovSince + e.relt * cyclesPerMs ≤ s.now

/-- The over-voltage comparators. -/
def State.ovCmps (s : State) : List Nat := (List.range 48).filter fun k => s.cmpEn k && s.cmpAct k == actOver

/-- The release of the over-voltage commands, in the cycle of a decision round (R612); the command of R47 stays (R633). -/
def State.ovRelease (s : State) : State :=
  let ks := s.ovDue
  if !s.inForce || !s.justNow .round 0 || s.ovAsserted || ks == [] then s
  else
    let s := s.each s.ovCmps State.cmpClear
    if s.ovCmps.any fun k => s.flag (F.CMP_STAT_LTCH k) then s
    else
      let s := s.each ks fun s k =>
        let s := if s.fld (F.FR_CVAR_CMDSRC k) == srcOver && !(s.sys == sysAxleSafe && k < 2) then s.pendCmd k 0 srcNone 0 else s
        (s.setBit F.PR_CONVST_OVACT k false).raise Ev.PR_OVCLR k 0
      { s with ovRel := s.ovRel + 1 }

/-- What ends a cycle with a decision round: the release that no command has made (R612). -/
def State.ovEnd (s : State) : State := s.when (s.justNow .round 0) State.ovRelease

/-! ### Re-arm requests -/

/-- Whether the safety controller re-arms item `x` of converter `k`: a PG channel, or leg 3n + i of the Actuators (R631). -/
def State.rearmOk (s : State) (k x : Nat) : Bool :=
  let iso := if k == convAct then s.acIso (x / 3) (x % 3) else s.flag (F.PG_STAT_ISO x)
  let unit := s.sc.units.find? fun u => u.kind == (if k == convAct then 1 else 0) && u.index == x && u.conv == k
  let units := ((s.cvar k (s.varBase k)).map CVar.units).getD 0
  let n := ((s.sc.rearms.find? fun p => p.1 == rearmKey k x).map Prod.snd).getD 0
  iso && (unit.map fun u => bitOf units u.unit).getD false
    && (if k == convAct then s.fld (F.AC_STAT_SCMD (x / 3)) == 1 else s.cmdOf k == 1)
    && n < s.fld F.PR_REARM_REARMMAX && !(s.scConv k).shortLegs.contains x

/-- A re-arm is noted for the angle boundary (R631). -/
def State.rearmNote (s : State) (k x : Nat) : State :=
  if s.rearmOk k x then s.modScConv k fun c => { c with rearm := insertNat x c.rearm } else s

end Sys2Proof.Machine
end

