-- ==== Sys2Proof/Machine/Dripline.lean ====
section
/-! DEFINITION. Dripline fires (R79 to R98): the actions of schedule entries, angle, delay and late entries, the boundaries of
tracks and of domains, and `SYNC_IN`. -/

namespace Sys2Proof.Machine

/-- The events of the table of R834. -/
def evSources : List Ev.Src := [
    Ev.SP_CRCERR, Ev.SP_DENY, Ev.SP_UNL, Ev.CG_REJ, Ev.CG_BUSY, Ev.TR_DONE, Ev.EV_SEAL, Ev.LT_SLOTB, Ev.LT_FLDROP, Ev.LT_FLERR,
    Ev.LT_TRIM, Ev.LT_FLSTOP, Ev.LT_LDERR, Ev.LT_DEFAULTS, Ev.AD_LOCK, Ev.AD_COAST, Ev.AD_LOST, Ev.AD_SRCSW, Ev.AD_JUMP,
    Ev.AD_RSAT, Ev.AD_DIR, Ev.DL_LATE, Ev.DL_OVR, Ev.DL_RDERR, Ev.DL_FORCED, Ev.ADC_CONV, Ev.ADC_SOVR, Ev.ADC_WTMO, Ev.ADC_CLIP,
    Ev.ADC_TQDROP, Ev.ADC_SLEX, Ev.ADC_OPEN, Ev.ADC_XERR, Ev.ADC_PERR, Ev.ADC_FAIL, Ev.FIT_SEGOVF, Ev.FIT_REFINV, Ev.FIT_KFAIL,
    Ev.FIT_MODEL, Ev.FIT_OPEN, Ev.FIT_DEAD, Ev.FIT_FAIL, Ev.FE_GSCHG, Ev.PF_DONE, Ev.FE_QOVR, Ev.FE_STALE, Ev.FE_NEGMAX,
    Ev.FE_REFINV, Ev.FE_SATTMO, Ev.FE_FOLLOW, Ev.FE_BUSERR, Ev.FE_OVRESC, Ev.EC_MIS, Ev.EC_ESC, Ev.EC_STFAIL, Ev.EC_SCMIS,
    Ev.EC_SCFAIL, Ev.PG_OCMISS, Ev.PG_FORCEOFF, Ev.PG_NOON, Ev.PG_STGUARD, Ev.PG_ISO, Ev.PG_ELATE, Ev.PG_EQOVF, Ev.GL_DESAT,
    Ev.GL_UVLO, Ev.GL_OTS, Ev.GL_GMON, Ev.GL_OTW, Ev.GL_CFGERR, Ev.GL_RST, Ev.GL_NRDY, Ev.GL_STOMIS, Ev.GL_LOST, Ev.GL_RECOV,
    Ev.GL_PORTLOST, Ev.GL_RATEFB, Ev.GL_NEGFAIL, Ev.TM_HREQ, Ev.TM_MODE, Ev.TM_SLOT, Ev.TM_LIM, Ev.TM_VDCBAD, Ev.TM_XOVR,
    Ev.TM_CSMIS, Ev.TM_QLOW, Ev.TM_RDERR, Ev.TC_STATE, Ev.TC_RECAP, Ev.TC_SETCLIP, Ev.TC_RESTORE, Ev.TC_CATCHF, Ev.TC_VLIM,
    Ev.TC_DERATE, Ev.TC_MIS, Ev.TC_POSLOSS, Ev.TC_PFWF, Ev.TC_RECAPF, Ev.TC_RDERR, Ev.TC_HOLDESC, Ev.RS_GOOD, Ev.RS_DEGR,
    Ev.RS_FAIL, Ev.QD_GOOD, Ev.QD_DEGR, Ev.QD_FAIL, Ev.QD_REF, Ev.QD_CMP, Ev.QD_ILL, Ev.QD_REBASE, Ev.QD_IDXERR, Ev.QD_IDXMISS,
    Ev.HL_GOOD, Ev.HL_DEGR, Ev.HL_FAIL, Ev.HL_INV, Ev.HL_SEQ, Ev.DC_SHED, Ev.DC_ADD, Ev.DC_CELLOFF, Ev.DC_STATE, Ev.DC_ABORT,
    Ev.DC_FRQ, Ev.DC_VBAD, Ev.DC_MIS, Ev.DC_PCFAIL, Ev.DC_HOLDESC, Ev.CH_STATE, Ev.CH_CPST, Ev.CH_PPST, Ev.CH_TEMP, Ev.CH_PHREQ,
    Ev.CH_TAPER, Ev.CH_LIM, Ev.CH_VBAD, Ev.CH_RDTMO, Ev.CH_MIS, Ev.CH_HALT, Ev.CH_HOLDESC, Ev.AC_STATE, Ev.AC_CAP, Ev.AC_NOON,
    Ev.AC_GMMISS, Ev.AC_VDS, Ev.AC_STGUARD, Ev.AC_BSUV, Ev.AC_ISO, Ev.AC_HALL, Ev.AC_SMAX, Ev.AC_VMOV, Ev.CMP_CBC, Ev.CMP_TRIP,
    Ev.CMP_UNRES, Ev.CMP_STFAIL, Ev.PR_SHORT, Ev.PR_CONV, Ev.PR_OV, Ev.PR_OVCLR, Ev.PR_SUMPMAX, Ev.PR_SUMPF, Ev.FR_VARCHG,
    Ev.FR_NOVAR, Ev.SI_CHG, Ev.SI_UNRES, Ev.SI_DISC, Ev.SF_SS1, Ev.SF_SLSV, Ev.SF_STOFB, Ev.SF_STODRV, Ev.SO_OPEN, Ev.SO_STUCK,
    Ev.TS_WARN, Ev.TS_THROT, Ev.TS_SHUT, Ev.TS_INV, Ev.TS_NVM, Ev.SUP_SAG, Ev.SUP_CORE, Ev.SUP_ANA, Ev.SUP_IO, Ev.SUP_VDRV,
    Ev.CAN_EWARN, Ev.CAN_EPASS, Ev.CAN_BOFF, Ev.CAN_RECOV, Ev.CAN_RXOVF, Ev.CAN_PXE, Ev.AL_OPEN, Ev.AL_CLOSE, Ev.AL_FAILOVER,
    Ev.AL_PATH, Ev.AL_LOSS, Ev.AL_FMT, Ev.AL_EVLOST, Ev.MP_CORR, Ev.MP_LATENT, Ev.MP_MIRDIF, Ev.MP_HARD, Ev.MP_UNCORR,
    Ev.MP_STFAIL, Ev.GQ_DROP, Ev.GQ_PERR, Ev.GQ_PTRERR]

/-- Dripline runs its tracks (R100, R767). -/
def State.dlRuns (s : State) : Bool := s.loaded && s.flag F.DL_CTRL_RUN

/-! ### Actions -/

/-- `EVENT` of a track (R79): a source that R834 does not give is never raised. DEDUCED, unsafe (log entry 38). -/
def State.actEvent (s : State) (t src : Nat) : State :=
  match evSources.find? fun e => e.num == src with
  | some e => s.raise e (s.trkConv t) t
  | none => s

/-- `STROBE` (R79): the code goes to the block on the line. Every code of lines 43 to 48 and 53 to 63 is reserved. -/
def State.actStrobe (s : State) (line code : Nat) : State :=
  if line < 40 then s.pgStrobe line code
  else if line < 42 then
    if code == 1 then s.tmEvaluate (line - 40) else if code == 2 then s.tmRestartAll (line - 40) 16 else s
  else if line == 42 then s.when (code == 1) State.dcEvaluate
  else if 49 ≤ line && line ≤ 52 then s.when (code == 1) (·.acLoadPoint (line - 49))
  else s

/-- `GQ_MARK` (R749). -/
def State.gqMark (s : State) (t pc g v : Nat) : State := s.gqPush g rankDripline (.mark (v % 65536) t pc)

/-- The snapshot slot of R835. -/
def snapAddr (i : Nat) : Nat := 0x8F2000 + 16 * i

/-- `SNAPSHOT` (R835). -/
def State.snapshot (s : State) (d slot : Nat) : State :=
  let r := (s.dom d).rate
  let bs := leBytes 4 (s.angle d).toNat ++ leBytes 4 (r.toNat / 2 ^ 16) ++ leBytes 2 (r.toNat % 2 ^ 16)
    ++ [BitVec.ofNat 8 d, 0#8] ++ leBytes 4 s.now
  s.writeBytes (snapAddr slot) bs

/-- The action of an entry that fires on track `t` with the period count `pc` (R79, R85, R127). DESIGN CHOICE, safe (log entry 12). -/
def State.fireAction (s : State) (t pc : Nat) (e : Entry) (perr : Nat) : State :=
  if e.action == Machine.actSeq then s.actSeqStart t pc e.target (e.arg % 32) perr
  else if e.action == Machine.actWinOpen then s.actWinOpen t pc e.target (e.arg % 32) perr
  else if e.action == Machine.actWinClose then s.actWinClose e.target
  else if e.action == Machine.actLoop then s.loopStart t pc (e.arg % 512)
  else if e.action == Machine.actOut then s.outLoad t (e.arg % 512)
  else if e.action == Machine.actEvent then State.actEvent s t (e.arg % 512)
  else if e.action == Machine.actStrobe then State.actStrobe s e.target e.arg
  else if e.action == Machine.actMark then s.gqMark t pc (e.target % 64) e.arg
  else if e.action == Machine.actProfile then s.profileTick (e.target % 16) [s.trkConv t]
  else if e.action == Machine.actSnap then s.snapshot (e.target % 16) (e.arg % 256)
  else s

/-! ### Firing -/

/-- A late entry (R87). -/
def State.noteLate (s : State) (t : Nat) : State :=
  ((s.setFlag (F.DL_TRK_FLAG_LATE t) true).incSat F.DL_CNT_LATE_CNT).raise Ev.DL_LATE (s.trkConv t) t

/-- The entries that one track, and all tracks, can fire in one cycle (R86). -/
def trackCapacity : Nat := 2
def fireCapacity : Nat := 8

/-- The entries that have fired in this cycle, by their tracks. -/
def State.firedNow (s : State) : List Nat := if s.fireAt == s.now then s.fired else []
def State.noteFired (s : State) (t : Nat) : State := { s with fireAt := s.now, fired := t :: s.firedNow }

/-- A track can fire one more entry in this cycle (R86). DEDUCED, unsafe (log entry 13). -/
def State.canFire (s : State) (t : Nat) : Bool :=
  s.firedNow.length < fireCapacity && (s.firedNow.filter (· == t)).length < trackCapacity

/-- The largest number of armed delay entries of a track (R83). -/
def armedSize : Nat := 4

/-- The delay entry that follows a fired entry is armed (R81 to R83, R87), `j` being the index after the fired entry; an entry that cannot
be read is passed as absent (R97). -/
def State.armFrom (s : State) (t j hi pc : Nat) (late : Bool) : Nat → State
  | 0 => s
  | n + 1 =>
    if hi ≤ j then s
    else if s.entryBad j then ((if late then (s.readEntry t j).2 else s).armFrom t (j + 1) hi pc late n)
    else
      let e := s.entry j
      if !e.delay then s
      else if armedSize ≤ (s.trk t).armed.length then s.dlOvr t
      else s.modTrk t fun k => { k with armed := k.armed ++ [⟨j, hi, s.now + e.word0 % 65536, pc, late⟩] }

/-- An entry fires: its action, and the arming of the delay entry after it. -/
def State.fireEntry (s : State) (t j hi pc : Nat) (late chain : Bool) (perr : Nat) : State :=
  let e := s.entry j
  let s := ((s.noteFired t).when late (·.noteLate t)).fireAction t pc e perr
  s.armFrom t (j + 1) hi pc chain (hi - (j + 1))

/-- A late entry of an ended period fires (R84); its read may find it absent (R97). -/
def State.fireLate (s : State) (t : Nat) (a : Armed) (perr : Nat) : State :=
  match s.readEntry t a.entry with
  | (none, s) => s
  | (some _, s) => s.fireEntry t a.entry a.hi a.pcount true true perr

/-- The next angle entry of a track is due (R80). -/
def State.angleDue (s : State) (t : Nat) : Bool :=
  let j := (s.trk t).next
  s.trkLive t && (s.trk t).late == [] && j < (s.schedRange t).2 && (s.entry j).word0 ≤ (s.trk t).phi

/-- This is the first cycle of the period in which φ is at least the `OFFSET` of the next angle entry: the period began in this cycle, or φ
was below the offset in the cycle before (R80, R89). -/
def State.angleFirst (s : State) (t : Nat) : Bool :=
  s.justNow .track t || decide ((s.trk t).phi0 < (s.entry (s.trk t).next).word0)

/-- No track of a higher number has fired in this cycle: the tracks are served in ascending number (R86). -/
def State.inTurn (s : State) (t : Nat) : Bool := s.firedNow.all (· ≤ t)

/-- A delay entry of a track is due, before which no angle entry of the track fires (R84, R86). -/
def State.delayDue (s : State) (t : Nat) : Bool := (s.trk t).armed.any fun a => a.due ≤ s.now

/-- The next angle entry of a track fires (R80, R86). -/
def State.fireAngle (s : State) (t : Nat) (late : Bool) (perr : Nat) : State :=
  let j := (s.trk t).next
  let hi := (s.schedRange t).2
  let s := s.fireEntry t j hi (s.fld (F.DL_TRK_PCOUNT_PCOUNT t)) late false perr
  (s.seekNext t (fun _ => true) (j + 1) (hi - (j + 1))).holdsSettle

/-- Of two armed entries, the one that fires first: entries come in list order, and in the order of their arming. -/
def Armed.first (p : Armed → Bool) (l : List Armed) : Option Armed :=
  l.foldl (fun b a => if !p a then b else match b with
    | none => some a
    | some x => if a.entry < x.entry then some a else some x) none

/-- An armed delay entry fires (R81, R82). -/
def State.fireArmed (s : State) (t : Nat) (a : Armed) (late : Bool) (perr : Nat) : State :=
  let s := s.modTrk t fun k => { k with armed := k.armed.erase a }
  (s.fireEntry t a.entry a.hi a.pcount late a.late perr).holdsSettle

/-- `ANGLE_ENTRY_FIRE`. DESIGN CHOICE, safe (log entry 12). -/
def State.angleFire (s : State) (t perr : Nat) : State := 
  s.when (s.dlRuns && s.angleDue t && s.angleFirst t && s.canFire t && s.inTurn t && !s.delayDue t) (·.fireAngle t false perr)

/-- `DELAY_ENTRY_FIRE`: the armed entry that is due in this cycle. DESIGN CHOICE, unsafe (log entry 3). -/
def State.delayFire (s : State) (t perr : Nat) : State :=
  if !s.dlRuns || (s.trk t).dead || !s.canFire t || !s.inTurn t then s
  else
    match Armed.first (fun a => a.due == s.now) (s.trk t).armed with
    | some a => s.fireArmed t a false perr
    | none => s

/-- `LATE_ENTRY_FIRE`: an entry that could not fire in its due cycle (R84, R86, R87): an armed entry, then a late entry of an ended
period, then the angle entry that was due in an earlier cycle.
DEDUCED, unsafe (log entry 13). -/
def State.lateFire (s : State) (t perr : Nat) : State :=
  if !s.dlRuns || (s.trk t).dead || !s.canFire t || !s.inTurn t then s
  else
    match Armed.first (fun a => decide (a.due < s.now)) (s.trk t).armed with
    | some a => s.fireArmed t a true perr
    | none =>
      if s.delayDue t then s
      else match s.trkLive t, (s.trk t).late with
      | true, a :: rest => ((s.modTrk t fun k => { k with late := rest }).fireLate t a perr).holdsSettle
      | _, _ => s.when (s.angleDue t && !s.angleFirst t) (·.fireAngle t true perr)

/-! ### Boundaries of a track -/

/-- The unfired angle entries of an ending period fire now as far as there is capacity, the rest wait (R84, R86).
DEDUCED, unsafe (log entry 13). -/
def State.fireEnding (s : State) (t : Nat) : State :=
  let k := s.trk t
  let l := k.late ++ s.lateOf k.next (s.schedRange t).2 (s.fld (F.DL_TRK_PCOUNT_PCOUNT t))
  (s.modTrk t fun k => { k with late := [] }).each l fun s a =>
    if s.canFire t && !s.delayDue t then s.fireLate t a 0 else s.modTrk t fun k => { k with late := k.late ++ [a] }

/-- φ of a track passes P (R74, R78, R84, R88, R89). -/
def State.trackBoundary (s : State) (t : Nat) : State :=
  if !(s.dlRuns && s.trkLive t && s.trkP t ≤ (s.trk t).phi) then s
  else
    let s := ((s.fireEnding t).incMod (F.DL_TRK_PCOUNT_PCOUNT t)).mark .track t
    let s := (s.modTrk t fun k => { k with phi := k.phi - s.trkP t }).trackBase t
    let (ok, s) := if s.schedSwaps t then (s.takePending t).readDesc t else (true, s)
    let (lo, hi) := s.schedRange t
    (s.when ok fun s => s.seekNext t (fun _ => true) lo (hi - lo)).holdsSettle

/-- An IDLE track finds `DIR` = 0 and re-seeks (R75 to R77). -/
def State.idleExit (s : State) (t : Nat) : State :=
  s.when (s.dlRuns && (s.trk t).running && s.trkIdle t && !(s.trk t).dead && !s.flag (F.AD_STAT_DIR (s.trkDom t)) && s.past .idle t 1) fun s =>
    ((s.setFlag (F.DL_TRK_FLAG_IDLE t) false).reseek t).holdsSettle

/-- A running track re-seeks within its period: the unfired angle entries of the ending period fire first, as late entries (R76, R84). -/
def State.midReseek (s : State) (t : Nat) : State :=
  let s := s.fireEnding t
  ((s.setNext t (s.schedRange t).2).reseek t).holdsSettle

/-- The tracks whose domain has jumped re-seek (R77). An entry that fires here may make a further jump; a jump moves no track that is not
running, and the last argument bounds the rounds. -/
def State.jumpReseeks (s : State) : Nat → State
  | 0 => { s with reseeks := [] }
  | n + 1 =>
    if s.reseeks == [] then s
    else
      let l := sortNat s.reseeks
      (({ s with reseeks := [] } : State).each l fun s t => s.when (s.dlRuns && s.trkLive t) (·.midReseek t)).jumpReseeks n

/-- No boundary has occurred on a track for `BTMO` (R76, R77). -/
def State.timeoutReseek (s : State) (t : Nat) : State :=
  let n := s.fld (F.AD_THR_BTMO (s.trkDom t))
  s.when (s.dlRuns && s.trkLive t && n != 0 && (s.trk t).phi < s.trkP t && s.past .track t (n * cyclesPerUs)) fun s =>
    (s.raise Ev.DL_FORCED (s.trkConv t) t).midReseek t

/-! ### Boundaries of a domain -/

/-- The domain boundary of R69: the step from the angle word of the last cycle reaches `AD_BND` in the direction of `DIR`. -/
def State.atBoundary (s : State) (d : Nat) : Bool :=
  reaches (s.flag (F.AD_STAT_DIR d)) (angleOf (s.dom d).prev) (angleOf (s.dom d).acc) (s.reg (Reg.AD_BND d))

/-- Whether a domain runs. -/
def State.domOn (s : State) (d : Nat) : Bool := s.domState d != dsOff

/-- A carrier domain that `SYNC_IN` disciplines (R70). -/
def State.domSync (s : State) (d : Nat) : Bool :=
  s.fld (F.AD_CFG_KIND d) == 3 && s.domOn d && s.domState d != dsSlave && s.domState d != dsFree && s.activeSrc d == 0x20

/-- The rate of a `SYNC_IN`-disciplined domain in LOST moves toward the set-point (R72). DEDUCED, unsafe (log entry 16). -/
def State.slewRate (s : State) (d : Nat) : State :=
  let r := s.rate d
  let e := (s.rset d).toInt - r
  let k : Int := min e.natAbs ((r.natAbs : Int) / 128)
  ((s.modDom d fun x => { x with rate := BitVec.ofInt 48 (r + sgn e * k) }).updateDir d).slavesUpdate d

/-- A boundary of a domain, natural or forced: its count, the commits bound to it, and the SYNC loss (R39, R69, R71, R72).
DEDUCED, unsafe (log entry 16). -/
def State.boundaryOf (s : State) (d : Nat) : State :=
  let s := (s.incMod (F.AD_STAT_BCOUNT d)).mark .boundary d
  let s := s.modDom d fun x => { x with bnds := x.bnds + 1, noEdge := x.noEdge + 1 }
  let s := s.commitBoundary d
  s.when (s.domSync d) fun s =>
    let s := s.when (2 ≤ (s.dom d).noEdge && s.domState d != dsLost) (·.enterLost d)
    s.when (s.domState d == dsLost) (·.slewRate d)

/-- `DOMAIN_BOUNDARY`. -/
def State.domainBoundary (s : State) (d : Nat) : State :=
  s.when (s.domOn d && s.atBoundary d && !s.justNow .boundary d) (·.boundaryOf d)

/-- `FORCED_BOUNDARY`: no boundary for `BTMO`, nor in this cycle (R69, R580). -/
def State.forcedBoundary (s : State) (d : Nat) : State :=
  let n := s.fld (F.AD_THR_BTMO d)
  s.when (s.domOn d && n != 0 && !s.atBoundary d && s.past .boundary d (n * cyclesPerUs)) fun s => (s.boundaryOf d).acForced d

/-- The age of a `SYNC_IN` edge, and the shortest distance of two accepted edges (R70). -/
def syncAge : Nat := 3
def syncGap : Nat := cyclesPerUs

/-- A rising edge on `SYNC_IN` (R70). -/
def State.syncEdge (s : State) : State :=
  s.each ((List.range 16).filter s.domSync) fun s d =>
    let ok := match (s.dom d).lastEdge with
      | some c => decide (c + syncGap ≤ s.now)
      | none => true
    s.when ok fun s => (s.modDom d fun x => { x with lastEdge := some s.now, noEdge := 0 }).measure d 0 syncAge true

/-- No measurement has come for `UPD_TMO` (R62, step 5). -/
def State.updTimeout (s : State) (d : Nat) : State :=
  let n := s.fld (F.AD_TIME_UPD_TMO d)
  s.when (s.domState d == dsLocked && n != 0 && s.past .measured d (n * cyclesPerUs)) (·.enterCoast d)

/-- COAST has lasted `COAST_MAX` (R62, step 7). -/
def State.coastTimeout (s : State) (d : Nat) : State :=
  let n := s.fld (F.AD_TIME_COAST_MAX d)
  s.when (s.domState d == dsCoast && n != 0 && s.past .coast d (n * cyclesPerUs)) (·.enterLost d)

end Sys2Proof.Machine
end

