-- ==== Sys2Proof/Machine/Capture.lean ====
section
/-! DEFINITION. Ripple-resolved current capture (R160 to R198): the fit of a window by its segments, the reference instant, the
incremental inductance, the Kirchhoff sum, open phases, failed sensors and their reconstruction. -/

namespace Sys2Proof.Machine

/-- An interval of a window (R162): its start, its end, and the states of the phase channels in it. -/
structure FitIv where
  a  : Nat
  b  : Option Nat
  st : List Nat
  deriving DecidableEq, Repr

/-- The fit of one input in one segment (R166, R167). -/
structure FitLine where
  n     : Nat
  valid : Bool
  s0    : Int
  s1    : Int
  d     : Int
  tc    : Int
  sk    : Int
  mean  : Int
  slope : Int
  deriving DecidableEq, Repr

/-- A segment: its interval, the index and count of its instants, and its lines by input. -/
structure FitSeg where
  iv    : FitIv
  first : Nat
  count : Nat
  lines : List FitLine
  deriving DecidableEq, Repr

/-- The limit of a stored signal. -/
def lim31 (v : Int) : Int := clampI (-sMax) sMax v

/-- The intervals between the edges (R162). -/
def fitIvs : List EdgeRec → List FitIv
  | [] => []
  | [e] => [⟨e.t, none, e.st⟩]
  | e :: e' :: es => ⟨e.t, some e'.t, e.st⟩ :: fitIvs (e' :: es)

/-- The samples of an interval (R163). -/
def ivSamples (settle : Nat) (iv : FitIv) (l : List Sample) : List Sample :=
  l.filter fun x => iv.a + settle ≤ x.t && (match iv.b with | some b => decide (x.t < b) | none => true)

/-- Whether the interval contains an instant. -/
def FitIv.has (iv : FitIv) (t : Nat) : Bool := iv.a ≤ t && (match iv.b with | some b => decide (t < b) | none => true)

/-- Sum of (2k − N + 1) × y_k from index `k` on (R167). -/
def sumS1 (n : Int) : Int → List Int → Int
  | _, [] => 0
  | k, y :: ys => (2 * k - n + 1) * y + sumS1 n (k + 1) ys

/-- scale(x) of R167 for input `e` of a window; an internal input has no scale, so that the result is open.
DESIGN CHOICE, safe (log entry 49). -/
def State.fitScale (s : State) (f : Nat) (w : FitWin) (e : Nat) (k : Nat) (x : Int) : Int :=
  let i := s.entInput f (s.seqFirst f w.seq + e)
  if i < 0x60 then lim31 (scaleK x (s.sreg (Reg.AIN_GM i)) (47 - s.sfld (F.AIN_GS_GS i)).toNat)
  else lim31 (Config.freeWord (s.freeCtr + k)).toInt

/-- `OFS` of input `e` of a window. -/
def State.fitOfs (s : State) (f : Nat) (w : FitWin) (e : Nat) : Int :=
  let i := s.entInput f (s.seqFirst f w.seq + e)
  if i < 0x60 then s.sfld (F.AIN_OFS_OFS i) else 0

/-- The line of input `e` through its samples in segment `k` (R166, R167). Where a division by 0 leaves the mean or the slope open, it is
a free value. -/
def State.fitLine (s : State) (f : Nat) (w : FitWin) (k e : Nat) (l : List Sample) : FitLine :=
  let l := l.filter fun x => x.e == e
  let n := l.length
  let ni : Int := n
  let s0 := l.foldl (fun acc x => acc + x.code) 0
  let s1 := sumS1 ni 0 (l.map (·.code))
  let d := ni * (ni * ni - 1) / 3
  let t0 := (l.head?.map (·.t)).getD 0
  let sk := 5 * s.sfld (F.ADC_SL_SKEW_SL_SKEW f e)
  let i := k * 8 + e * 2
  let mean := if n = 0 then lim31 (Config.freeWord (s.freeCtr + i)).toInt
    else s.fitScale f w e i (roundDiv (s0 * 65536) ni - s.fitOfs f w e * 65536)
  let slope := if d = 0 then lim31 (Config.freeWord (s.freeCtr + i + 1)).toInt
    else s.fitScale f w e (i + 1) (roundDiv (s1 * 65536) (10 * d) * 400000)
  ⟨n, s.fld (F.FIT_TIME_NMIN f) ≤ n && !l.any (·.clip), s0, s1, d, t0 + 10 * (ni - 1), sk, mean, slope⟩

/-- The number of free values that one window may use. -/
def fitFree : Nat := 128

/-- The segments of a window, all of them (R164). -/
def State.fitSegs (s : State) (f : Nat) (w : FitWin) (c1 : Nat) : List FitSeg :=
  let settle := s.fld (F.FIT_TIME_SETTLE f)
  let first := (w.c0 + 39) / 20 * 20
  let ivs := (fitIvs (w.edges.filter fun e => e.t ≤ c1)).filter fun iv => ivSamples settle iv w.samples != []
  ivs.zipIdx.map fun (iv, k) =>
    let l := ivSamples settle iv w.samples
    let ts := sortNat (l.map (·.t))
    ⟨iv, (ts.headD first - first) / 20, ts.length, (List.range 4).map fun e => s.fitLine f w k e l⟩

/-- DESIGN CHOICE, safe (log entry 49). -/
def FitSeg.line (g : FitSeg) (e : Nat) : FitLine := g.lines.getD e ⟨0, false, 0, 0, 0, 0, 0, 0, 0⟩

/-- Replaces the line of a reconstructed phase (R195). -/
def FitSeg.rebuild (g : FitSeg) (x : Nat) : FitSeg :=
  let y := g.line ((x + 1) % 3)
  let z := g.line ((x + 2) % 3)
  let l := g.line x
  let l := { l with mean := lim31 (-(y.mean + z.mean)), slope := lim31 (-(y.slope + z.slope)), valid := y.valid && z.valid }
  { g with lines := g.lines.set x l }

/-- What a window's evaluation holds fixed: the fitter, the window, its phases, its reconstructed phase, and its segments. -/
structure FitCtx where
  f    : Nat
  w    : FitWin
  mask : Nat
  star : Bool
  rec_ : Option Nat
  segs : List FitSeg
  deriving DecidableEq, Repr

/-- A phase floats in a segment (R165). -/
def FitCtx.floats (c : FitCtx) (g : FitSeg) (e : Nat) : Bool := bitOf c.mask e && g.iv.st.getD e 2 == 2
/-- `ST` of a phase; of a floating phase it is open. DESIGN CHOICE, safe (log entry 49). -/
def State.fitSt (s : State) (c : FitCtx) (k : Nat) (g : FitSeg) (e : Nat) : Nat :=
  if !bitOf c.mask e then 0
  else if c.floats g e then (Config.freeWord (s.freeCtr + 64 + k * 4 + e)).toNat % 2
  else g.iv.st.getD e 0

/-- VDC of a segment (R178). -/
def State.fitVdc (s : State) (c : FitCtx) (g : FitSeg) : Option Int :=
  if s.flag (F.FIT_CFG_VSRC c.f) then some (c.w.ports.getD 3 (0, false)).1
  else if (g.line 3).valid then some (g.line 3).mean else none

/-- The switched phase voltage of a phase (R179). -/
def State.fitV (s : State) (c : FitCtx) (k : Nat) (g : FitSeg) (x : Nat) : Option Int :=
  if c.floats g x then none
  else (s.fitVdc c g).map fun vdc =>
    let sx : Int := s.fitSt c k g x
    let sy : Int := s.fitSt c k g ((x + 1) % 3)
    let sz : Int := s.fitSt c k g ((x + 2) % 3)
    if c.star then (vdc * (2 * sx - sy - sz) + 1) / 3 else vdc * (2 * sx - 1) / 2

def FitCtx.fresh (c : FitCtx) (x : Nat) : Bool := (c.w.ports.getD x (0, false)).2

/-- Whether the ports that the model of phase `x` needs are fresh (R181). -/
def State.fitFreshFor (s : State) (c : FitCtx) (x : Nat) : Bool :=
  c.fresh x && (!s.flag (F.FIT_CFG_VSRC c.f) || c.fresh 3)

/-- v_x in a segment that is model-testable for `x` except for freshness (R181). -/
def State.fitNear (s : State) (c : FitCtx) (k : Nat) (g : FitSeg) (x : Nat) : Option Int :=
  if bitOf c.mask x && (g.line x).valid then s.fitV c k g x else none

/-- u_x in a segment that is model-testable for `x` (R180, R181). -/
def State.fitU (s : State) (c : FitCtx) (k : Nat) (g : FitSeg) (x : Nat) : Option Int :=
  if s.fitFreshFor c x then (s.fitNear c k g x).map fun v => lim31 (v - (c.w.ports.getD x (0, false)).1) else none

/-- Whether phase `x` is tested in a segment and disagrees with the model (R182, R196). -/
def State.fitDisagrees (s : State) (c : FitCtx) (k : Nat) (g : FitSeg) (x : Nat) : Bool :=
  if c.rec_ == some x then false
  else match s.fitU c k g x with
    | none => false
    | some u =>
      let sigma := lim31 (scaleK u (s.sreg (Reg.FIT_YM c.f)) (31 - s.sfld (F.FIT_YS_YS c.f)).toNat)
      decide (s.fld (F.FIT_SM_SM_THR c.f) * 256 < ((g.line x).slope - sigma).natAbs)

/-- The Kirchhoff sum of a segment, when one is formed (R185, R196). -/
def FitCtx.ksum (c : FitCtx) (g : FitSeg) : Option Int :=
  if c.star && c.rec_.isNone && [0, 1, 2].all (fun e => (g.line e).valid)
  then some ((g.line 0).mean + (g.line 1).mean + (g.line 2).mean) else none

def State.fitKfails (s : State) (c : FitCtx) (g : FitSeg) : Bool :=
  match c.ksum g with
  | some v => decide (s.fld (F.FIT_TH_KS_THR c.f) * 256 < v.natAbs)
  | none => false

/-- `LINC` of a phase: the value of the last pair of consecutive segments that gives one (R183, R184). -/
def State.fitLinc (s : State) (c : FitCtx) (x : Nat) : Nat → List FitSeg → Option Int
  | _, [] => none
  | _, [_] => none
  | k, a :: b :: rest =>
    let later := s.fitLinc c x (k + 1) (b :: rest)
    if later.isSome then later
    else match s.fitNear c k a x, s.fitNear c (k + 1) b x with
      | some va, some vb =>
        let dv := va - vb
        let d := (a.line x).slope - (b.line x).slope
        if s.fld (F.FIT_LDV_LDV_MIN c.f) * 256 ≤ dv.natAbs && sgn dv == sgn d && d != 0 then
          some (min sMax (((dv.natAbs * 2 ^ 24 + d.natAbs / 2) / d.natAbs : Nat) : Int))
        else none
      | _, _ => none

/-- t_ref (R169), and the index of the reference segment of an input (R170). -/
def State.fitRef (s : State) (f : Nat) (w : FitWin) (c1 : Nat) : Nat :=
  if s.flag (F.FIT_CFG_REFMODE f) then w.c0 + s.fld (F.FIT_CFG_REF f) else w.c0 + (c1 - w.c0) / 2
def FitCtx.refSeg (c : FitCtx) (tref e : Nat) : Option (FitSeg × Nat) :=
  (c.segs.zipIdx.find? fun (g, _) => g.iv.has tref).bind fun (g, k) => if (g.line e).valid then some (g, k) else none

/-- `AVG` of an input from its reference segment (R171). -/
def State.fitAvg (s : State) (f : Nat) (w : FitWin) (e : Nat) (tref : Nat) (l : FitLine) : Int :=
  let dt := ((tref : Int) - l.tc) * 65536 - l.sk
  let n : Int := l.n
  let xq := roundDiv (l.s0 * 10 * l.d * 65536 + l.s1 * dt * n) (10 * l.d * n)
  s.fitScale f w e (100 + e) (xq - s.fitOfs f w e * 65536)

/-- The dead count and the open-phase count of a phase. -/
def F.fitDsc (f x : Nat) : Fld := ⟨Reg.FIT_PCNT f, 16 + 4 * x, 4⟩
def F.fitOpc (f x : Nat) : Fld := ⟨Reg.FIT_PCNT f, 2 * x, 2⟩

/-- The open-phase check of one segment (R187 to R189, R196, R198). -/
def State.fitOpen1 (s : State) (c : FitCtx) (k : Nat) (g : FitSeg) (x : Nat) : State :=
  let f := c.f
  if c.rec_.isSome || bitOf (s.fld (F.FIT_STAT_OPEN f)) x || bitOf (s.fld (F.FIT_STAT_DEAD f)) x then s
  else match s.fitU c k g x with
    | none => s
    | some u =>
      if u.natAbs < s.fld (F.FIT_OP_OP_UMIN f) * 256 then s
      else
        let l := g.line x
        let counts := l.slope.natAbs ≤ s.fld (F.FIT_TH_OP_SMAX f) * 256 && l.mean.natAbs ≤ s.fld (F.FIT_OP_OP_IMAX f) * 256
          && !(c.star && s.fitKfails c g)
        if !counts then s.setFld (F.fitOpc f x) 0
        else
          let s := s.incSat (F.fitOpc f x)
          s.when (s.fld (F.fitOpc f x) == 3) fun s =>
            (s.setBit (F.FIT_STAT_OPEN f) x true).raise Ev.FIT_OPEN (s.fitConv f) f

/-- Sets `DEAD` of a phase (R193). -/
def State.fitDead (s : State) (f x : Nat) : State :=
  s.when (!bitOf (s.fld (F.FIT_STAT_DEAD f)) x) fun s => (s.setBit (F.FIT_STAT_DEAD f) x true).raise Ev.FIT_DEAD (s.fitConv f) f

/-- The checks of a window: Kirchhoff, model, open phases, suspect phases and dead sensors (R182 to R198). DEDUCED, unsafe (log entry 50). -/
def State.fitChecks (s : State) (c : FitCtx) : State :=
  let f := c.f
  let conv := s.fitConv f
  let phases := bitList c.mask 3
  let segs := c.segs.zipIdx
  let fails := (c.segs.filter fun g => s.fitKfails c g).length
  let formed := c.segs.any fun g => (c.ksum g).isSome
  let s := s.when (fails != 0) fun s => (s.setFlag (F.FIT_STAT_KFAIL f) true).addSat (F.FIT_CNT_KFAIL_CNT f) fails
  let model := segs.any fun (g, k) => !s.fitKfails c g && phases.any fun x => s.fitDisagrees c k g x
  let s := s.when model fun s => (s.setFlag (F.FIT_STAT_MODEL f) true).raise Ev.FIT_MODEL conv f
  let s := s.each segs fun s gk => s.each phases fun s x => s.fitOpen1 c gk.2 gk.1 x
  let full := segs.filter fun (g, k) => [0, 1, 2].all fun x => (s.fitU c k g x).isSome
  let dis (x : Nat) : Bool := full.any fun (g, k) => s.fitDisagrees c k g x
  let suspect (x : Nat) : Bool :=
    (c.star && fails != 0 && dis x && !dis ((x + 1) % 3) && !dis ((x + 2) % 3))
      || (let l := c.w.samples.filter (fun v => v.e == x); l != [] && l.all (·.clip))
  let susp := phases.filter suspect
  let s := s.when (fails != 0 && susp == []) (·.raise Ev.FIT_KFAIL conv f)
  let nmin := s.fld (F.FIT_TIME_NMIN f)
  let seen (e : Nat) : Bool := c.segs.any fun g => nmin ≤ ((c.w.samples.filter fun v => v.e == e && g.iv.has v.t
    && g.iv.a + s.fld (F.FIT_TIME_SETTLE f) ≤ v.t).length)
  let s := s.each phases fun s x =>
    let s := if susp.contains x then s.incSat (F.fitDsc f x) else if formed && fails == 0 then s.setFld (F.fitDsc f x) 0 else s
    let s := s.when (susp.contains x && s.fld (F.FIT_SM_DS_CNT f) ≤ s.fld (F.fitDsc f x)) (·.fitDead f x)
    s.when (!c.w.samples.any (fun v => v.e == x) && (List.range 4).any fun e => e != x && seen e) (·.fitDead f x)
  s.when (c.star && 2 ≤ (bitList (s.fld (F.FIT_STAT_DEAD f)) 3).length && !s.flag (F.FIT_STAT_FAILSET f)) fun s =>
    (s.setFlag (F.FIT_STAT_FAILSET f) true).raise Ev.FIT_FAIL conv f

/-- The reference values of the inputs: `AVG`, `SLOPE`, whether the input has a reference segment, and its samples there. -/
def State.fitAvgs (s : State) (c : FitCtx) (tref : Nat) : List (Int × Int × Bool × Nat) :=
  let base := (List.range 4).map fun e =>
    match c.refSeg tref e with
    | some (g, _) => (s.fitAvg c.f c.w e tref (g.line e), (g.line e).slope, true, min 255 (g.line e).n)
    | none => let l := (s.fit c.f).last.getD e (0, 0); (l.1, l.2, false, 0)
  match c.rec_ with
  | none => base
  | some x =>
    let y := base.getD ((x + 1) % 3) (0, 0, false, 0)
    let z := base.getD ((x + 2) % 3) (0, 0, false, 0)
    let v := base.getD x (0, 0, false, 0)
    base.set x (lim31 (-(y.1 + z.1)), lim31 (-(y.2.1 + z.2.1)), y.2.2.1 && z.2.2.1, v.2.2.2)

/-- The words of a segment block. DEDUCED, unsafe (log entry 50). -/
def State.segWords (s : State) (c : FitCtx) (k : Nat) (g : FitSeg) : List Word :=
  let bits (p : Nat → Nat) (n : Nat) : Nat := (List.range n).foldl (fun acc e => acc + p e * 2 ^ e) 0
  let hdr := bits (fun e => b2n (g.line e).valid) 4 * 2 ^ 28 + bits (fun e => b2n (c.floats g e)) 3 * 2 ^ 24
    + bits (fun e => s.fitSt c k g e) 3 * 2 ^ 20 + min 255 g.count * 2 ^ 12 + g.first % 4096
  [BitVec.ofNat 32 hdr, wordOf (g.line 0).mean, wordOf (g.line 0).slope, wordOf (g.line 1).mean, wordOf (g.line 1).slope,
    wordOf (g.line 2).mean, wordOf (g.line 2).slope, wordOf (g.line 3).mean]

/-- Writes consecutive words of the SRAM. -/
def State.writeWords (s : State) (a : Nat) : List Word → State
  | [] => s
  | w :: ws => State.writeWords (s.write32 a w) (a + 4) ws

/-- The fitter completes the buffer of its oldest closed window. -/
def State.fitDone (s : State) (f : Nat) : State :=
  match (s.fit f).wins with
  | [] => s
  | w :: rest =>
    match w.c1 with
    | none => s
    | some c1 =>
      let s := s.modFit f fun x => { x with wins := rest }
      let mask := s.fld (F.FIT_PG_PHMASK f)
      let star := s.flag (F.FIT_CFG_ISTAR f)
      let dead := bitList (s.fld (F.FIT_STAT_DEAD f)) 3
      let rec_ := if star && s.flag (F.FIT_CFG_RECON f) && dead.length == 1 then dead.head? else none
      let all := s.fitSegs f w c1
      let segs := (all.take 8).map fun g => match rec_ with | some x => g.rebuild x | none => g
      let c : FitCtx := ⟨f, w, mask, star, rec_, segs⟩
      let ovf := decide (8 < all.length)
      let tref := s.fitRef f w c1
      let conv := s.fitConv f
      let avgs := s.fitAvgs c tref
      let base := s.freeCtr
      let stale := (bitList mask 3).any (fun x => !c.fresh x) || (s.flag (F.FIT_CFG_VSRC f) && !c.fresh 3)
      let kfail := segs.any fun g => s.fitKfails c g
      let refSeg := (c.refSeg tref 0).map Prod.snd
      let ksum := match c.refSeg tref 0 with | some (g, _) => lim31 ((c.ksum g).getD 0) | none => 0
      let lincs := (List.range 4).map fun x => if bitOf mask x && x < 3 then s.fitLinc c x 0 segs else none
      let segBlocks := segs.zipIdx.map fun (g, k) => s.segWords c k g
      let s := s.fitChecks c
      let refinv := (List.range 4).filter fun e => !(avgs.getD e (0, 0, true, 0)).2.2.1
      let held := refinv.filter fun e => rec_ != some e
      let s := s.when (held != []) fun s => (s.setFlag (F.FIT_STAT_REFINV f) true).addSat (F.FIT_CNT_REFINV_CNT f) held.length
      let s := s.when (held.any (bitOf mask)) (·.raise Ev.FIT_REFINV conv f)
      let s := s.when ovf fun s => (s.setFlag (F.FIT_STAT_SEGOVF f) true).raise Ev.FIT_SEGOVF conv f
      let s := s.when stale (·.setFlag (F.FIT_STAT_MSTALE f) true)
      let bits (l : List Nat) : Nat := l.foldl (fun acc e => acc + 2 ^ e) 0
      let hdr := w.pcount % 16 * 2 ^ 28 + 2 ^ 27 + refSeg.getD 15 * 2 ^ 20 + segs.length * 2 ^ 16 + min 0xFFFF (c1 - w.c0)
      let stat := b2n w.wtmo * 2 ^ 31 + b2n ovf * 2 ^ 30 + b2n stale * 2 ^ 29 + b2n kfail * 2 ^ 28 + bits refinv * 2 ^ 24
        + (match rec_ with | some x => 2 ^ (16 + x) | none => 0) + s.fld (F.FIT_STAT_DEAD f) * 2 ^ 8 + s.fld (F.FIT_STAT_OPEN f)
      let inputWords (e : Nat) : List Word :=
        let v := avgs.getD e (0, 0, true, 0)
        let l := lincs.getD e none
        let mine := w.samples.filter fun x => x.e == e
        let inSegs := (segs.map fun g => (g.line e).n).foldl (· + ·) 0
        [wordOf v.1, wordOf v.2.1, wordOf (l.getD 0),
          BitVec.ofNat 32 (v.2.2.2 * 2 ^ 24 + min 255 inSegs * 2 ^ 16 + b2n (mine.any (·.clip)) * 4 + b2n l.isSome * 2 + b2n (!v.2.2.1))]
      let a := fitBuf f (w.pcount % 2)
      let s := s.writeWords a [BitVec.ofNat 32 hdr, BitVec.ofNat 32 stat, wordOf ksum]
      let s := s.writeWords (a + 0x10) ((List.range 4).flatMap inputWords)
      let s := s.writeWords (a + 0x80) (segBlocks.flatten ++ List.replicate (8 * (8 - segs.length)) 0#32)
      let good := (List.range 4).map fun e =>
        let v := avgs.getD e (0, 0, true, 0)
        if v.2.2.1 then (v.1, v.2.1) else (s.fit f).last.getD e (0, 0)
      let s := s.modFit f fun x => { x with last := good }
      { s with freeCtr := base + fitFree }

/-- The cycles between which the fitter completes the buffer of its oldest closed window: from the arrival of the last window sample, 50 cycles
after its instant (R133), to 40 cycles later (R175). -/
def State.fitSpan (s : State) (f : Nat) : Option (Nat × Nat) :=
  match (s.fit f).wins with
  | [] => none
  | w :: _ => w.c1.map fun c1 =>
    match lastInstant w.c0 c1 with
    | some t => (if w.samples.any (·.t == t) then t + 50 else t + 51, t + 90)
    | none => (c1, c1 + 40)

/-- `FIT_COMPLETE` (R175). -/
def State.fitComplete (s : State) (f : Nat) : State :=
  match s.fitSpan f with
  | some (a, _) => s.when (a ≤ s.now) (·.fitDone f)
  | none => s

/-- A buffer is complete 40 cycles after the last window sample at the latest (R175). -/
def State.fitDo (s : State) (f : Nat) : State :=
  match s.fitSpan f with
  | some (_, b) => s.when (b ≤ s.now) (·.fitDone f)
  | none => s

end Sys2Proof.Machine
end

