-- ==== Sys2Proof/Machine/Crypto.lean ====
section
/-! DEFINITION. The check words of the image and of the service port, and the AES-CMAC of a signed image (R773, R778, R813). -/

namespace Sys2Proof.Machine

/-! ### Cyclic redundancy checks -/

/-- One bit of a reflected CRC-32C register. -/
def crc32Bit (c : Nat) : Nat := if c % 2 == 1 then Nat.xor (c / 2) 0x82F63B78 else c / 2

/-- One byte of a reflected CRC-32C register. -/
def crc32Byte (c : Nat) (b : Byte) : Nat := (List.range 8).foldl (fun c _ => crc32Bit c) (Nat.xor c b.toNat)

/-- CRC-32C (R773). -/
def crc32c (l : List Byte) : Nat := Nat.xor (l.foldl crc32Byte 0xFFFFFFFF) 0xFFFFFFFF

/-- One bit of the CRC-8 of the service port, most significant bit first. -/
def crc8Bit (c : Nat) : Nat := if c / 128 == 1 then Nat.xor (c * 2 % 256) 0x2F else c * 2

/-- The CRC-8 of the service port (R813). -/
def crc8 (l : List Byte) : Byte :=
  BitVec.ofNat 8 (Nat.xor (l.foldl (fun c b => (List.range 8).foldl (fun c _ => crc8Bit c) (Nat.xor c b.toNat)) 0xFF) 0xFF)

/-! ### AES-128 with the parameters of FIPS 197, and CMAC with those of NIST SP 800-38B (R778) -/

/-- Doubling in the field of AES. -/
def aesDouble (x : Nat) : Nat := if 128 ≤ x then Nat.xor (x * 2 % 256) 0x1B else x * 2

/-- The product in the field of AES. -/
def aesMul (x y : Nat) : Nat :=
  ((List.range 8).foldl (fun (p : Nat × Nat) i => (if bitOf y i then Nat.xor p.1 p.2 else p.1, aesDouble p.2)) (0, x)).1

/-- The inverse in the field of AES, which is the 254th power; 0 for 0. -/
def aesInv (x : Nat) : Nat :=
  let x2 := aesMul x x
  let x3 := aesMul x2 x
  let x12 := (List.range 2).foldl (fun y _ => aesMul y y) x3
  let x15 := aesMul x12 x3
  let x240 := (List.range 4).foldl (fun y _ => aesMul y y) x15
  aesMul x240 (aesMul x12 x2)

/-- A byte rotated left by `n` bits. -/
def rotByte (x n : Nat) : Nat := x * 2 ^ n % 256 + x / 2 ^ (8 - n)

/-- The substitution of a byte. -/
def aesSub (x : Nat) : Nat :=
  let y := aesInv x
  [1, 2, 3, 4].foldl (fun z n => Nat.xor z (rotByte y n)) (Nat.xor y 0x63)

def xorBytes (a b : List Nat) : List Nat := List.zipWith Nat.xor a b

/-- The next round key from the present one. -/
def aesNextKey (k : List Nat) (rcon : Nat) : List Nat :=
  let t := [Nat.xor (aesSub (k.getD 13 0)) rcon, aesSub (k.getD 14 0), aesSub (k.getD 15 0), aesSub (k.getD 12 0)]
  let w0 := xorBytes (k.take 4) t
  let w1 := xorBytes ((k.drop 4).take 4) w0
  let w2 := xorBytes ((k.drop 8).take 4) w1
  let w3 := xorBytes ((k.drop 12).take 4) w2
  w0 ++ w1 ++ w2 ++ w3

/-- The rotation of the rows of a state that is held column by column. -/
def aesShift (s : List Nat) : List Nat := (List.range 16).map fun i => s.getD ((i + 4 * (i % 4)) % 16) 0

def aesMixColumn (c : List Nat) : List Nat :=
  (List.range 4).map fun i =>
    let x (j : Nat) : Nat := c.getD ((i + j) % 4) 0
    Nat.xor (Nat.xor (aesDouble (x 0)) (Nat.xor (aesDouble (x 1)) (x 1))) (Nat.xor (x 2) (x 3))

def aesMix (s : List Nat) : List Nat := [0, 4, 8, 12].flatMap fun i => aesMixColumn ((s.drop i).take 4)

/-- One round: the state, the round key and the round constant that follows. -/
def aesRound (p : List Nat × List Nat × Nat) (last : Bool) : List Nat × List Nat × Nat :=
  let k := aesNextKey p.2.1 p.2.2
  let s := aesShift (p.1.map aesSub)
  (xorBytes (if last then s else aesMix s) k, k, aesDouble p.2.2)

/-- The encryption of one block. -/
def aes128 (key block : List Nat) : List Nat :=
  let p := (List.range 9).foldl (fun p _ => aesRound p false) (xorBytes block key, key, 1)
  (aesRound p true).1

/-- A block as a number, the first byte the most significant; doubled in the field of CMAC. -/
def cmacDouble (b : List Nat) : List Nat :=
  let n := b.foldl (fun n x => n * 256 + x) 0
  let d := if n / 2 ^ 127 == 1 then Nat.xor (n * 2 % 2 ^ 128) 0x87 else n * 2
  (List.range 16).map fun i => d / 256 ^ (15 - i) % 256

/-- The chaining over the blocks of a message; the last one takes a subkey. -/
def cmacChain (key k1 k2 : List Nat) (c : List Nat) (m : List Nat) : Nat → List Nat
  | 0 => c
  | n + 1 =>
    if m.length ≤ 16 then
      let b := if m.length == 16 then xorBytes m k1 else xorBytes (m ++ [0x80] ++ List.replicate (15 - m.length) 0) k2
      aes128 key (xorBytes c b)
    else cmacChain key k1 k2 (aes128 key (xorBytes c (m.take 16))) (m.drop 16) n

/-- The AES-CMAC of a message (R778). -/
def aesCmac (key msg : List Byte) : List Byte :=
  let k := key.map (·.toNat)
  let k1 := cmacDouble (aes128 k (List.replicate 16 0))
  (cmacChain k k1 (cmacDouble k1) (List.replicate 16 0) (msg.map (·.toNat)) (msg.length / 16 + 1)).map (BitVec.ofNat 8)

end Sys2Proof.Machine
end

