-- ==== Sys2Proof/Machine/MemProt.lean ====
section
/-! DEFINITION. Memory protection (R725 to R739): write-backs, the scrubber and its findings, and upsets of the SRAM. -/

namespace Sys2Proof.Machine

/-- The number of ones of a byte is odd. -/
def oddOnes (b : Byte) : Bool := (bitList b.toNat 8).length % 2 == 1

/-- An upset of the SRAM, from outside the BX960: some bits of a byte turn over, and its parity bit too when `par` is set (R725). -/
structure Upset where
  addr : Nat
  mask : Byte
  par  : Bool
  deriving DecidableEq, Repr

/-- DESIGN CHOICE, safe (log entry 22). -/
def State.upset (s : State) (u : Upset) : State :=
  let s := { s with mem := cellSet s.mem u.addr (s.byte u.addr ^^^ u.mask) }
  if oddOnes u.mask != u.par then
    { s with parBad := if s.parOk u.addr then insertNat u.addr s.parBad else s.parBad.filter (· != u.addr) }
  else s

/-- A corrected byte is written back into its failing bank (R727, R728). -/
def State.writeBack (s : State) (a : Nat) : State :=
  if s.wbacks.contains a then
    { s with
      mem := cellSet s.mem a (s.byte (otherBank a))
      parBad := s.parBad.filter (· != a)
      wbacks := s.wbacks.filter (· != a)
      wbBy := s.wbBy.filter (·.1 != a)
      lastWb := insertNat a (s.lastWb.filter fun b => bankOf b != bankOf a) }
  else s

/-- The cycles by which write-backs are made, and those of this cycle (R728). -/
def State.wbAt (s : State) : List Nat := s.wbBy.map (·.2)
def State.wbDo (s : State) : State := s.each ((s.wbBy.filter fun p => p.2 ≤ s.now).map (·.1)) State.writeBack

/-- The proof-test blocks outside loop context memory, as (base, length) (R739). -/
def proofBlocks : List (Nat × Nat) := [(0x2FEFC0, 64), (0x4FEFC0, 64), (0x7FFFC0, 64), (0x87FFC0, 64), (0x8FFFC0, 64)]

/-- The end of the proof-test block that holds `a`, if one does (R739). -/
def State.proofEnd (s : State) (a : Nat) : Option Nat :=
  if ctxBase ≤ a && a < evBase then
    let c := (a - ctxBase) / 0x400
    if bitOf (s.peek32 (Reg.CX_CFG c)).toNat 31 then none else some (ctxBase + (c + 1) * 0x400)
  else (proofBlocks.find? fun p => p.1 ≤ a && a < p.1 + p.2).map fun p => p.1 + p.2

/-- The address at which scrubbing goes on, among the scrubbed words from `a` on, and whether a pass has ended before it (R736). Table
memory is scrubbed by its bank A addresses. -/
def State.scrubSeek (s : State) (a : Nat) (wrapped : Bool) : Nat → Nat × Bool
  | 0 => (a, wrapped)
  | n + 1 =>
    if memEnd ≤ a then s.scrubSeek tabA true n
    else if tabB ≤ a && a < tabEnd then s.scrubSeek tabEnd wrapped n
    else match s.proofEnd a with
      | some e => s.scrubSeek e wrapped n
      | none => (a, wrapped)

/-- A finding of the scrubber (R737). -/
def State.scrubFind (s : State) (flag cnt : Fld) (e : Ev.Src) (bank mdif a : Nat) : State :=
  let s := s.when s.lerrOpen fun s =>
    { s.setReg Reg.MP_LERR (BitVec.ofNat 32 (bank * 2 ^ 30 + mdif * 2 ^ 29 + a)) with lerrOpen := false }
  (s.incSat cnt).flagRaise flag e axle 0

/-- DEDUCED, unsafe (log entry 51). -/
def State.scrubLatent (s : State) (bank a : Nat) : State := s.scrubFind F.MP_STAT_LATENT F.MP_CNT2_LATENT_CNT Ev.MP_LATENT bank 0 a

/-- The scrubber checks the byte at `a`, in table memory in both banks; the flag tells whether the step has met an uncorrectable byte, which is
one bus error (R727, R730, R737). -/
def State.scrubByte (s : State) (bad : Bool) (a : Nat) : State × Bool :=
  if isTable a then
    let o := otherBank a
    if s.parOk a && s.parOk o then
      (if s.byte a = s.byte o then s else s.scrubFind F.MP_STAT_MIRDIF F.MP_CNT2_MIRDIF_CNT Ev.MP_MIRDIF 0 1 a, bad)
    else if s.parOk o then ((s.readByte reqScrub a).2, bad)
    else if s.parOk a then ((s.readByte reqScrub o).2, bad)
    else ((if bad then s else (s.readByte reqScrub a).2).scrubLatent 3 a, true)
  else if s.parOk a then (s, bad)
  else ((if bad then s else (s.readByte reqScrub a).2).scrubLatent 0 a, true)

/-- A step of the scrubber (R736, R737). DEDUCED, unsafe (log entry 51). -/
def State.scrubStep (s : State) : State :=
  if !((s.inForce || s.sys == sysDefaults) && s.fld F.MP_CTRL_SCRUBDIV != 0 && s.past .scrub 0 (s.fld F.MP_CTRL_SCRUBDIV)) then s
  else
    let s := s.mark .scrub 0
    let (a, w) := s.scrubSeek s.scrubAt false 400
    let s := s.when w (·.incMod F.MP_STAT_SCRUB_PASS)
    let (s, _) := (List.range 8).foldl (fun (p : State × Bool) k => p.1.scrubByte p.2 (a + k)) (s, false)
    let (b, w) := s.scrubSeek (a + 8) false 400
    { s.when w (·.incMod F.MP_STAT_SCRUB_PASS) with scrubAt := b }

end Sys2Proof.Machine
end

