-- ==== Sys2Proof/Machine/SafetyIo.lean ====
section
/-! DEFINITION. Safety inputs, the internal STO request and the STO wires, SS1, SBC and SLS, the safe outputs, temperatures and
supplies (R636 to R671), and the torque limit that they ask for (R650). -/

namespace Sys2Proof.Machine

def State.modSf (s : State) (f : Sf → Sf) : State := { s with sf := f s.sf }

/-! ### Pairs -/

/-- The codes of a reading (`SI_STAT.RDA`) and, after `siUnres`, of `SISTATE`. -/
def rdInvalid : Nat := 0
def rdDem : Nat := 1
def rdRel : Nat := 2
def siDemand : Nat := 1
def siRelease : Nat := 2
def siFault : Nat := 3

/-- The functions of a pair (R642). -/
def fnSto : Nat := 1
def fnSs1 : Nat := 2
def fnSls : Nat := 3
def fnSbc : Nat := 4

/-- The enabled pairs with a function. -/
def State.pairsOf (s : State) (fn : Nat) : List Nat :=
  (List.range 8).filter fun n => s.flag (F.SI_CFG_EN n) && s.fld (F.SI_CFG_FUNC n) == fn
/-- A pair demands in every state except RELEASE (R640). -/
def State.pairDemands (s : State) (n : Nat) : Bool := s.flag (F.SI_CFG_EN n) && s.fld (F.SI_STAT_SISTATE n) != siRelease
def State.fnDemands (s : State) (fn : Nat) : Bool := (s.pairsOf fn).any s.pairDemands

/-- The enabled traction field controllers. -/
def State.tcEnabled (s : State) : List Nat := [0, 1].filter fun t => s.flag (F.TC_CFG_EN t)

/-- |`TC_TR|` of both controllers, as SS1 and the sag ramp record it (R648, R668). -/
def State.tcTorques (s : State) : List Nat := [0, 1].map fun t => (s.sreg (Reg.TC_TR t)).natAbs

/-- SS1 starts, unless one runs, which it does until its source ends (R648, R649). DEDUCED, unsafe (log entry 44). -/
def State.ss1Start (s : State) (axleSafe : Bool) : State :=
  if s.flag F.SF_STAT_SS1A then s.modSf fun f => { f with ss1Axle := f.ss1Axle || axleSafe }
  else
    let s := s.modSf fun f => { f with ss1At := some s.now, ss1S0 := s.tcTorques, ss1Axle := axleSafe }
    (s.setFlag F.SF_STAT_SS1A true).setFld F.SF_STAT_SS1MS 0

/-- The entry into READY: a pair of SS1 that demands starts it (R648). -/
def State.ss1AtReady (s : State) : State :=
  let l := (s.pairsOf fnSs1).filter s.pairDemands
  if l == [] then s else s.ss1Start (l.any fun n => s.flag (F.SI_CFG_AXLE n))

/-- A pair changes its state (R638, R642, R643, R649). -/
def State.pairTo (s : State) (n st : Nat) : State :=
  let was := s.pairDemands n
  let s := (s.setFld (F.SI_STAT_SISTATE n) st).raise Ev.SI_CHG axle n
  let s := s.when (st == siDemand) (·.incSat (F.SI_CNT_DEM_CNT n))
  if s.fld (F.SI_CFG_FUNC n) != fnSs1 then s
  else if st == siRelease then
    let s := s.when (s.flag F.SF_STO_SRCS) (·.modSf fun f => { f with ss1Rel := true })
    if s.sf.ss1Rel && !s.fnDemands fnSs1 then (s.setFlag F.SF_STO_SRCS false).setFlag F.SF_STAT_SS1A false else s
  else if !was then
    if s.sys == sysReady then s.ss1Start (s.flag (F.SI_CFG_AXLE n)) else s
  else s

/-- The transitions of R638 besides the discrepancy. -/
def State.pairEval (s : State) (n : Nat) : State :=
  let st := s.fld (F.SI_STAT_SISTATE n)
  let a := s.fld (F.SI_STAT_RDA n)
  let b := s.fld (F.SI_STAT_RDB n)
  if st == siFault then if a == rdDem && b == rdDem then s.pairTo n siDemand else s
  else if st == siRelease then if a != rdRel || b != rdRel then s.pairTo n siDemand else s
  else if a == rdRel && b == rdRel then s.pairTo n siRelease
  else if st == siUnres && a == rdDem && b == rdDem then s.pairTo n siDemand
  else s

/-- The recognised reading of a channel changes, and its pair is evaluated (R637 to R639). -/
def State.pairReading (s : State) (n : Nat) (chB : Bool) (rd : Nat) : State :=
  let s := s.setFld (if chB then F.SI_STAT_RDB n else F.SI_STAT_RDA n) rd
  let differ := s.fld (F.SI_STAT_RDA n) != s.fld (F.SI_STAT_RDB n)
  let s := if differ then
      if s.flag (F.SI_STAT_DTMR n) then s
      else (s.setFlag (F.SI_STAT_DTMR n) true).modSf fun f => { f with disc := f.disc.set n (some s.now) }
    else (s.setFlag (F.SI_STAT_DTMR n) false).modSf fun f => { f with disc := f.disc.set n none }
  s.pairEval n

/-! ### Sampled inputs -/

/-- The instant of the first sample that sees a change at the pin in cycle `c`: samples lie every µs from reset release, behind a 2-cycle
synchroniser (R636). DEDUCED, unsafe (log entry 45). -/
def smpFirst (c : Nat) : Nat := (c + 2 + (cyclesPerUs - 1)) / cyclesPerUs * cyclesPerUs

/-- The samples up to cycle `t`: their last value, and the first instant of the run of samples that have it. -/
def Smp.upTo (x : Smp) (t : Nat) : Smp := if x.pin ≠ x.val ∧ smpFirst x.chg ≤ t then { x with val := x.pin, since := smpFirst x.chg } else x

/-- The level at the pin becomes `l` in cycle `t`. -/
def Smp.feed (x : Smp) (t l : Nat) : Smp := if l = x.pin then x else { x.upTo (t + 1) with pin := l, chg := t }

/-- The cycles in which a value other than the recognised level `r` has held for `n` cycles of samples (R637, R655). -/
def Smp.dueAt (x : Smp) (n r : Nat) : List Nat :=
  (if x.val ≠ r ∧ (x.pin = x.val ∨ x.since + n < smpFirst x.chg) then [x.since + n] else [])
    ++ if x.pin ≠ x.val ∧ x.pin ≠ r then [smpFirst x.chg + n] else []

/-- The level that is recognised in cycle `t`, when it is not the recognised one. -/
def Smp.recognised (x : Smp) (t n r : Nat) : Option Nat :=
  let y := x.upTo t
  if y.val ≠ r ∧ y.since + n ≤ t then some y.val else none

/-- The samples of a safety input channel and of a readback. -/
def State.sinOf (s : State) (i : Nat) : Smp := s.sf.sin.getD i ⟨2, 0, 2, 0⟩
def State.srbOf (s : State) (n : Nat) : Smp := s.sf.srb.getD n ⟨0, 0, 0, 0⟩

/-- The reading of a level at a safety input pin: 0 a valid low, 1 a valid high, 2 between the thresholds (R636). -/
def State.pairLevel (s : State) (n : Nat) (chB : Bool) (level : Nat) : Nat :=
  if 2 ≤ level then rdInvalid else if (level == 1) != (chB && s.flag (F.SI_CFG_ANTI n)) then rdRel else rdDem

/-- The level that gives the recognised reading of a channel. -/
def State.pairSeen (s : State) (n : Nat) (chB : Bool) : Nat :=
  let rd := s.fld (if chB then F.SI_STAT_RDB n else F.SI_STAT_RDA n)
  if rd == rdInvalid then 2 else if (rd == rdRel) != (chB && s.flag (F.SI_CFG_ANTI n)) then 1 else 0

/-- The cycles for which the samples of a channel must hold: `SFILT` × 100 µs (R637); and of a readback: four samples (R655). -/
def State.sinFilt (s : State) (n : Nat) : Nat := s.fld (F.SI_CFG_SFILT n) * (100 * cyclesPerUs)
def srbFilt : Nat := 3 * cyclesPerUs

/-- The level at a safety input pin changes (R636). -/
def State.sinLevel (s : State) (n : Nat) (chB : Bool) (l : Nat) : State :=
  s.modSf fun f => { f with sin := f.sin.modify (2 * n + b2n chB) fun x => x.feed s.now l }
/-- The level at a readback pin changes (R655). -/
def State.srbLevel (s : State) (n : Nat) (l : Bool) : State :=
  s.modSf fun f => { f with srb := f.srb.modify n fun x => x.feed s.now (b2n l) }

/-- The channels of the pairs in use. -/
def State.sinUsed (s : State) : List (Nat × Bool) :=
  ((List.range 8).filter fun n => s.flag (F.SI_CFG_EN n)).flatMap fun n => [(n, false), (n, true)]

/-- The readings that are recognised in this cycle (R637). -/
def State.sinDo (s : State) : State :=
  s.each s.sinUsed fun s p =>
    match (s.sinOf (2 * p.1 + b2n p.2)).recognised s.now (s.sinFilt p.1) (s.pairSeen p.1 p.2) with
    | some l => s.pairReading p.1 p.2 (s.pairLevel p.1 p.2 l)
    | none => s

/-- The discrepancy timer of a pair reaches `DISC` (R638, R639). DESIGN CHOICE, unsafe (log entry 3). DEDUCED, unsafe (log entry 44). -/
def State.pairDisc (s : State) (n : Nat) : State :=
  match s.sf.disc.getD n none with
  | none => s
  | some c =>
    if s.now < c + s.fld (F.SI_CFG_DISC n) * cyclesPerMs then s
    else
      let s := s.modSf fun f => { f with disc := f.disc.set n none }
      let s := ((s.setFlag (F.SI_STAT_DISCF n) true).incSat (F.SI_CNT_DISC_CNT n)).raise Ev.SI_DISC axle n
      if s.fld (F.SI_STAT_SISTATE n) == siFault then s else s.pairTo n siFault

/-! ### The STO request and the wires -/

/-- The sources of the internal STO request and the request itself, with the STO gate (R338, R644). -/
def State.stoFollow (s : State) : State :=
  let s := (s.setFlag F.SF_STO_SRCP (s.fnDemands fnSto)).setFlag F.SF_STO_SRCC (s.flag F.SF_CTL_SCREQ)
  let req := s.flag F.SF_STO_SRCP || s.flag F.SF_STO_SRCS || s.flag F.SF_STO_SRCL || s.flag F.SF_STO_SRCC
  let s := s.when (req && !s.flag F.SF_STO_REQ) (·.modSf fun f => { f with stoAt := s.now })
  let s := s.setFlag F.SF_STO_REQ req
  if s.flag F.PG_STOSTAT_STOREQ == req then s else s.stoGate req

/-- The condition of R645, and the latched wire fault (R646). -/
def State.wiresWanted (s : State) : Bool :=
  s.sf.wireBad || s.flag F.SF_STO_REQ || s.sys == sysReset || s.sys == sysLoad || s.sys == sysTest || s.sys == sysDefaults
    || (s.sys == sysAxleSafe && [0, 1].all fun k => s.fld (F.safeCmd k) < 2)

/-- The cycles since the start-up test of the wires and outputs began, while it runs (R659, R767). -/
def State.ioRun (s : State) : Option Nat :=
  if s.sys == sysTest && s.fld F.LT_STAT_STEP == 0x23 && !s.sf.ioDone then (s.marked .step4 0).map (s.now - ·) else none

/-- The length of the test of a wire, and the start of the test of the outputs (R659). -/
def wireTest : Nat := 10 * cyclesPerUs
def outTest : Nat := 20 * cyclesPerUs

/-- The start-up test deasserts a wire alone: `STO_A_N` in its first 10 µs, `STO_B_N` in the next (R659). -/
def State.wireTested (s : State) (b : Bool) : Bool :=
  match s.ioRun with
  | some e => !s.sf.wireBad && (if b then decide (wireTest ≤ e ∧ e < outTest) else decide (e < wireTest))
  | none => false

/-- The STO wires follow, and their readbacks with them (R645, R646, R659). DESIGN CHOICE, unsafe (log entry 20). -/
def State.wiresFollow (s : State) : State :=
  let a := s.wiresWanted && !s.wireTested false
  let b := s.wiresWanted && !s.wireTested true
  if s.flag F.SF_STO_WA == a && s.flag F.SF_STO_WB == b then s
  else
    let s := ((s.setFlag F.SF_STO_WA a).setFlag F.SF_STO_WB b).modSf fun f => { f with wireAt := s.now }
    (s.setFlag F.SF_STO_RBA a).setFlag F.SF_STO_RBB b

/-- A wire does not read back as it is driven: both are asserted, and stay so until reset (R646, R659). -/
def State.wireFault (s : State) : State :=
  let s := s.when (!(s.flag F.SF_STO_WA && s.flag F.SF_STO_WB)) (·.modSf fun f => { f with wireAt := s.now })
  let s := ((s.setFlag F.SF_STO_WA true).setFlag F.SF_STO_WB true).modSf fun f => { f with wireBad := true }
  (s.setFlag F.SF_STO_STOFB true).raise Ev.SF_STOFB axle 0

/-- The readbacks differ from the drives. -/
def State.wiresDiffer (s : State) : Bool :=
  s.flag F.SF_STO_RBA != s.flag F.SF_STO_WA || s.flag F.SF_STO_RBB != s.flag F.SF_STO_WB

/-- A wire reads back differently from its drive for 8 cycles (R646): `a` and `b` are the readbacks, 1 for asserted. -/
def State.wireMismatch (s : State) (a b : Bool) : State :=
  let s := (s.setFlag F.SF_STO_RBA a).setFlag F.SF_STO_RBB b
  s.when (s.wiresDiffer && !s.sf.wireBad) State.wireFault

/-! ### SS1 and SLS -/

/-- A ramp from `s0` to 0 over `r` milliseconds, at the k-th (R648, R668). -/
def rampLimit (s0 r k : Nat) : Nat := if r ≤ k then 0 else s0 * (r - k) / r

/-- A millisecond of SS1 (R648). DEDUCED, unsafe (log entry 44). -/
def State.ss1Tick (s : State) : State :=
  match s.sf.ss1At with
  | none => s
  | some c => s.when (c + (s.fld F.SF_STAT_SS1MS + 1) * cyclesPerMs ≤ s.now) (·.incSat F.SF_STAT_SS1MS)

/-- `SS1T` after the start, the SS1 source becomes active (R643, R648, R649). -/
def State.ss1Sto (s : State) : State :=
  match s.sf.ss1At with
  | none => s
  | some c =>
    if !s.flag F.SF_STAT_SS1A || s.flag F.SF_STO_SRCS || s.now < c + s.fld F.SF_SS1_SS1T * cyclesPerMs then s
    else
      let ax := s.sf.ss1Axle
      let s := (s.setFlag F.SF_STO_SRCS true).modSf fun f => { f with ss1Rel := false, ss1Axle := false }
      let s := s.raiseAll Ev.SF_SS1 s.tcEnabled 0
      s.when ax (·.enterAxleSafe false false)

/-- The checks of SLS, every 100 µs (R652). -/
def State.slsCheck (s : State) : State :=
  if !s.flag F.SF_STAT_SLSA || !s.past .slsCheck 0 (100 * cyclesPerUs) then s
  else (s.mark .slsCheck 0).each s.tcEnabled fun s t =>
    let d := s.tcRdom t
    let fast := decide (s.fld F.SF_SLS_SLSLIM < (s.rate d / 65536).natAbs) || s.domState d != dsLocked
    s.modSf fun f =>
      { f with
        slsFail := f.slsFail.set t (if fast then some ((f.slsFail.getD t none).getD s.now) else none)
        slsDone := f.slsDone.set t (fast && f.slsDone.getD t false) }

/-- The checks of a controller have failed for `SLST` without a break, which is reported once (R653). -/
def State.slsViolation (s : State) (t : Nat) : State :=
  match s.sf.slsFail.getD t none with
  | none => s
  | some c =>
    if !s.flag F.SF_STAT_SLSA || !s.flag (F.TC_CFG_EN t) || s.sf.slsDone.getD t false || s.now < c + s.fld F.SF_SLS_SLST * cyclesPerMs then s
    else
      let s := s.modSf fun f => { f with slsDone := f.slsDone.set t true }
      ((s.setFlag F.SF_STO_SRCL true).setFlag F.SF_STAT_SLSV true).raise Ev.SF_SLSV t 0

/-- SLS and SBC follow the demands of their pairs (R651 to R653). -/
def State.functionsFollow (s : State) : State :=
  let a := s.fnDemands fnSls
  let s := if a == s.flag F.SF_STAT_SLSA then s else s.setFlag F.SF_STAT_SLSA a
  let s := if a then s
    else if s.flag F.SF_STAT_SLSV || s.flag F.SF_STO_SRCL || s.sf.slsFail != [none, none] then
      ((s.setFlag F.SF_STAT_SLSV false).setFlag F.SF_STO_SRCL false).modSf fun f => { f with slsFail := [none, none], slsDone := [false, false] }
    else s
  s.setFlag F.SF_STAT_SBCD (s.fnDemands fnSbc)

/-- A demand of a pair with `AXLE` enters AXLE_SAFE as a demand; that of SS1 waits for its STO (R643). -/
def State.axleDemands (s : State) : State :=
  let ax := (List.range 8).any fun n =>
    s.pairDemands n && s.flag (F.SI_CFG_AXLE n) && (s.fld (F.SI_CFG_FUNC n) != fnSs1 || s.flag F.SF_STO_SRCS)
  if ax && s.sys == sysReady then s.enterAxleSafe false false else s

/-! ### Torque limits -/

/-- The limit that R650 asks of the field controller `t`: SS1 from its first millisecond on, SLS, the temperature throttle and the sag ramp. -/
def State.slimWanted (s : State) (t : Nat) : Nat :=
  let none_ : Nat := 0x7FFFFFFF
  let ss1 := if s.flag F.SF_STAT_SS1A && 1 ≤ s.fld F.SF_STAT_SS1MS then
      rampLimit (s.sf.ss1S0.getD t 0) (s.fld F.SF_SS1_SS1R) (s.fld F.SF_STAT_SS1MS) else none_
  let sls := if s.flag F.SF_STAT_SLSA then s.fld F.SF_SLSTQ_SLSTQ else none_
  let sag := if 4 ≤ s.fld F.SUP_STAT_SAGLVL && 1 ≤ s.sf.sagMs then rampLimit (s.sf.sagS0.getD t 0) (s.fld F.SUP_SAGT_SAGRAMP) s.sf.sagMs else none_
  let temps := (List.range 24).filter fun k => s.flag (F.TS_CFG_EN k) && s.fld (F.TS_CFG_CONV k) == t && 2 ≤ s.fld (F.TS_VAL_TSTATE k)
  (temps.map fun k => s.fld (F.TS_THL_THLIM k)).foldl min (min ss1 (min sls sag))

/-- The safety controller writes the torque limits once per millisecond (R650). -/
def State.slimWrite (s : State) : State :=
  if !s.past .slim 0 cyclesPerMs then s
  else (s.mark .slim 0).each s.tcEnabled fun s t => s.setFld (F.TC_SLIM_SLIM t) (s.slimWanted t)

/-- A limit that falls is written at once (R650). -/
def State.slimLower (s : State) : State :=
  s.each s.tcEnabled fun s t => if s.slimWanted t < s.fld (F.TC_SLIM_SLIM t) then s.setFld (F.TC_SLIM_SLIM t) (s.slimWanted t) else s

/-! ### Safe outputs -/

def State.soOut (s : State) (n : Nat) : SoOut := s.sf.outs.getD n ⟨0, false, false⟩
def State.modSo (s : State) (n : Nat) (f : SoOut → SoOut) : State := s.modSf fun x => { x with outs := x.outs.modify n f }

/-- The conditions of R654, with R651. -/
def State.soWanted (s : State) (n : Nat) : Bool :=
  s.sys == sysReady && s.flag (F.SO_CFG_EN n) && !s.flag (F.SO_STAT_FAULT n) && s.flag (F.SO_STAT_CMD n)
    && !(s.flag (F.SO_CFG_SBC n) && s.flag F.SF_STAT_SBCD)
    && !(s.flag (F.SO_CFG_STOD n) && s.flag F.SF_STO_REQ && s.sf.stoAt + s.fld (F.SO_CFG_SBCDLY n) * cyclesPerMs ≤ s.now)

/-- The safe outputs follow (R654). DESIGN CHOICE, unsafe (log entry 20). -/
def State.outputsFollow (s : State) : State :=
  s.each (List.range 8) fun s n =>
    let w := s.soWanted n
    if w == s.flag (F.SO_STAT_ENRG n) then s
    else (((s.when w (·.mark .soTest n)).setFlag (F.SO_STAT_ENRG n) w).setFlag (F.SO_STAT_PIN n) w).modSo n fun _ => ⟨s.now, false, false⟩

/-- A latched fault of an output: cause 1 open, 2 stuck. -/
def State.soFault (s : State) (n cause : Nat) : State :=
  ((s.setFlag (F.SO_STAT_FAULT n) true).setFld (F.SO_STAT_FCAUSE n) cause).incSat (F.SO_CNT_FAIL_CNT n)

/-- A stuck fault deasserts `SOUT_EN` until reset (R657). -/
def State.soStuck (s : State) (n : Nat) : State :=
  let s := ((s.soFault n 2).setFlag F.SF_STO_SOEN false).modSf fun f => { f with soStuck := true }
  (s.setFlag (F.SO_STAT_STUCKF n) true).raise Ev.SO_STUCK axle n

/-- An open fault (R658). -/
def State.soOpen (s : State) (n : Nat) : State := ((s.soFault n 1).setFlag (F.SO_STAT_OPENF n) true).raise Ev.SO_OPEN axle n

/-- The test of an energised output starts its off-pulse, when no other runs (R656). -/
def State.soTestStart (s : State) (n : Nat) : State :=
  if s.flag (F.SO_STAT_ENRG n) && s.past .soTest n (s.fld (F.SO_TIME_TPER n) * cyclesPerMs) && s.sf.outs.all fun o => !o.pulse then
    (((s.mark .soTest n).setFlag (F.SO_STAT_PIN n) false).incSat (F.SO_CNT_TEST_CNT n)).modSo n fun o => { o with pulse := true }
  else s

/-- The off-pulse ends, with the stuck check (R656, R657). -/
def State.soPulseEnd (s : State) (n : Nat) : State :=
  if !(s.soOut n).pulse || !s.past .soTest n (s.fld (F.SO_TIME_TPW n) * cyclesPerUs) then s
  else
    let s := (s.setFlag (F.SO_STAT_PIN n) (s.flag (F.SO_STAT_ENRG n))).modSo n fun _ => ⟨s.now, false, false⟩
    s.when (s.flag (F.SO_STAT_RB n)) (·.soStuck n)

/-- The recognised level of a readback changes, with the open check: `TRB` after an off-pulse or after the output was energised is the time to
read back as energised (R655, R658), and a readback in the start-up test fails it (R659). -/
def State.soReadback (s : State) (n : Nat) (level : Bool) : State :=
  let s := s.setFlag (F.SO_STAT_RB n) level
  let o := s.soOut n
  let on := s.flag (F.SO_STAT_ENRG n) && !o.pulse
  if level then
    let s := s.when on (·.modSo n fun o => { o with up := true })
    s.when (s.ioRun.any (outTest ≤ ·)) (·.modSf fun f => { f with ioBad := f.ioBad ||| 2 ^ n })
  else if on && (o.up || o.since + s.fld (F.SO_TIME_TRB n) * cyclesPerUs < s.now) then s.soOpen n
  else s

/-- The readbacks that are recognised in this cycle (R655). -/
def State.srbDo (s : State) : State :=
  s.each ((List.range 8).filter fun n => s.flag (F.SO_CFG_EN n)) fun s n =>
    match (s.srbOf n).recognised s.now srbFilt (s.fld (F.SO_STAT_RB n)) with
    | some l => s.soReadback n (l != 0)
    | none => s

/-- `TRB` has passed without the expected readback (R657, R658). -/
def State.soTimeout (s : State) (n : Nat) : State :=
  let o := s.soOut n
  let rb := s.flag (F.SO_STAT_RB n)
  let on := s.flag (F.SO_STAT_ENRG n)
  if !s.flag (F.SO_CFG_EN n) || o.pulse || rb == on || s.now < o.since + s.fld (F.SO_TIME_TRB n) * cyclesPerUs || s.flag (F.SO_STAT_FAULT n) then s
  else if on then s.soOpen n else s.soStuck n

/-! ### The start-up test -/

/-- The outputs in use. -/
def State.outsUsed (s : State) : List Nat := (List.range 8).filter fun n => s.flag (F.SO_CFG_EN n)
/-- The cycles from the start of the test to the end of an output's pulse, to the end of the longest, and to its own end (R659). -/
def State.outPulse (s : State) (n : Nat) : Nat := outTest + s.fld (F.SO_TIME_TPW n) * cyclesPerUs
def State.outPulses (s : State) : Nat := (s.outsUsed.map s.outPulse).foldl max outTest
def State.ioLength (s : State) : Nat := s.outPulses + 100 * cyclesPerUs

/-- The cycles in which the start-up test goes on. -/
def State.ioAt (s : State) : List Nat :=
  match s.ioRun, s.marked .step4 0 with
  | some e, some c => (([wireTest, outTest, s.outPulses] ++ s.outsUsed.map s.outPulse).filter (e < ·)).map (c + ·)
  | _, _ => []

/-- The step of the start-up test that falls in this cycle (R659): the readbacks of the wires are checked at the end of each of their tests; then
the outputs are asserted for their `TPW` with `SOUT_EN` deasserted, which is asserted when all have ended. -/
def State.ioDo (s : State) : State :=
  match s.ioRun with
  | none => s
  | some e =>
    let s := s.when ((e == wireTest || e == outTest) && s.wiresDiffer && !s.sf.wireBad) State.wireFault
    let s := s.when (e == outTest) fun s => s.each s.outsUsed fun s n =>
      (s.setFlag (F.SO_STAT_PIN n) true).when (s.flag (F.SO_STAT_RB n)) (·.modSf fun f => { f with ioBad := f.ioBad ||| 2 ^ n })
    let s := s.each (s.outsUsed.filter fun n => s.outPulse n == e) fun s n => s.setFlag (F.SO_STAT_PIN n) false
    s.when (e == s.outPulses) (·.setFlag F.SF_STO_SOEN (!s.sf.soStuck))

/-- The start-up test completes: the outputs that failed a check are reported (R659). DEDUCED, unsafe (log entry 44). -/
def State.ioTest (s : State) : State :=
  s.when (s.ioRun.any (s.ioLength ≤ ·)) fun s =>
    let s := s.modSf fun f => { f with ioDone := true }
    s.each ((bitList s.sf.ioBad 8).filter fun n => s.flag (F.SO_CFG_EN n)) fun s n =>
      (s.setFlag (F.SO_STAT_STUCKF n) true).raise Ev.SO_STUCK axle n

/-! ### Temperature -/

/-- The entry `j` of a linearisation table (R660). -/
def State.linEntry (s : State) (lin j : Nat) : Option Int × State :=
  let a := tabA + s.fld F.TS_LINB_LINB + 66 * lin + 2 * j
  match s.readByte reqTemp a with
  | (none, s) => (none, s)
  | (some b0, s) =>
    match s.readByte reqTemp (a + 1) with
    | (none, s) => (none, s)
    | (some b1, s) => (some (signed 16 (b0.toNat + 256 * b1.toNat)), s)

/-- The reading of a conversion `v`, when it is in range (R660, R661, R735): a ratio code, a difference in µV, or a trimmed reading. -/
def State.tempReading (s : State) (k : Nat) (v : Int) : Option Int × State :=
  let mode := s.fld (F.TS_CFG_MODE k)
  if mode == 0 then
    let x := v.toNat
    if v < 0x400 || 0xFC00 < v then (none, s)
    else
      match s.linEntry (s.fld (F.TS_CFG_LIN k)) (x / 2048) with
      | (none, s) => (none, s)
      | (some t0, s) =>
        match s.linEntry (s.fld (F.TS_CFG_LIN k)) (x / 2048 + 1) with
        | (none, s) => (none, s)
        | (some t1, s) => (some (t0 + rnd ((t1 - t0) * (x % 2048 : Nat)) 11), s)
  else if mode == 1 then
    if v < 40000 || 100000 < v then (none, s) else (some (v * s.fld (F.TS_CFG_DG k) / 65536 - 4370), s)
  else (some v, s)

/-- The number of thresholds that a reading reaches, each lowered by `h`. -/
def State.tempCount (s : State) (k : Nat) (r h : Int) : Nat :=
  ([F.TS_THA_TW k, F.TS_THA_TT k, F.TS_THB_TSH k].filter fun f => decide (s.sfld f - h ≤ r)).length

/-- The event of a level (R664). DEDUCED, unsafe (log entry 37). -/
def tempEvent (lvl : Nat) : Ev.Src := if lvl == 1 then Ev.TS_WARN else if lvl == 2 then Ev.TS_THROT else Ev.TS_SHUT

/-- The level of a channel becomes `lvl`; a rise raises its event, on the axle at level 5 for SHUT (R664, R673). -/
def State.tempLevel (s : State) (k lvl : Nat) : State :=
  let old := s.fld (F.TS_VAL_TSTATE k)
  let conv := s.fld (F.TS_CFG_CONV k)
  let s := s.setFld (F.TS_VAL_TSTATE k) lvl
  if old < lvl then
    let e := tempEvent lvl
    s.raiseL e e.sev (if lvl == 3 && conv == axle then 5 else e.lvl) conv k
  else s

/-- `NVMT` and `NVMOK` (R665, R666). -/
def State.nvmFollow (s : State) : State :=
  let dies := ((List.range 8).map (16 + ·)).filter fun k => s.flag (F.TS_CFG_EN k) && s.flag (F.TS_VAL_VALID k)
  let t := dies != [] && dies.all fun k =>
    decide (s.sfld F.TS_NVM_NVMTMIN ≤ s.sfld (F.TS_VAL_READ k) ∧ s.sfld (F.TS_VAL_READ k) ≤ s.sfld F.TS_NVM_NVMTMAX)
  let ok := t && s.fld F.SUP_STAT_SAGLVL < 3
  let s := s.when (s.flag F.TS_STAT_NVMOK && !ok) (·.raise Ev.TS_NVM axle 0)
  (s.setFlag F.TS_STAT_NVMT t).setFlag F.TS_STAT_NVMOK ok

/-- A temperature channel is converted (R660 to R664). DEDUCED, unsafe (log entry 60). -/
def State.tempConvert (s : State) (k : Nat) (v : Int) : State :=
  if !s.flag (F.TS_CFG_EN k) || !s.past .temp k (4 * cyclesPerMs) then s
  else
    let (r, s) := (s.mark .temp k).tempReading k v
    let valid := s.flag (F.TS_VAL_VALID k)
    let lvl := s.fld (F.TS_VAL_TSTATE k)
    let s := match r with
      | none =>
        let s := if valid then
            ((s.setFlag (F.TS_VAL_VALID k) false).setFlag (F.TS_VAL_INVF k) true).raise Ev.TS_INV (s.fld (F.TS_CFG_CONV k)) k
          else s
        s.when (lvl == 0) (·.tempLevel k 1)
      | some t =>
        let agree := match s.sf.tPrev.getD k none with
          | some p => decide ((t - p).natAbs ≤ s.fld (F.TS_CFG_TAGREE k))
          | none => false
        let s := s.modSf fun f => { f with tPrev := f.tPrev.set k (some t) }
        let h : Int := s.fld (F.TS_THB_HYS k)
        if valid then
          let s := s.setFld (F.TS_VAL_READ k) (code 16 t)
          let n := s.tempCount k t 0
          if lvl < n then s.tempLevel k n
          else if lvl != 0 && s.tempCount k t h < lvl then s.tempLevel k (lvl - 1)
          else s
        else if agree then
          ((s.setFlag (F.TS_VAL_VALID k) true).setFld (F.TS_VAL_READ k) (code 16 t)).tempLevel k (s.tempCount k t h)
        else s
    s.nvmFollow

/-! ### Supply -/

/-- The threshold `L_k`. -/
def State.sagL (s : State) (k : Nat) : Nat :=
  [F.SUP_L12_L1, F.SUP_L12_L2, F.SUP_L34_L3, F.SUP_L34_L4, F.SUP_L5_L5].map s.fld |>.getD (k - 1) 0

/-- What the safety controller writes for the sag level: `SHED`, `SUSP` and `LAST` (R668); the causes of the fault-reaction table and of
AXLE_SAFE stand. -/
def State.sagActions (s : State) (old : Nat) : State :=
  let lvl := s.fld F.SUP_STAT_SAGLVL
  let s := s.setFlag F.CH_CTL_SHED (1 ≤ lvl)
  let s := s.suspAll (2 ≤ lvl || s.sc.suspTab || s.sys == sysAxleSafe)
  let s := if 4 ≤ lvl && old < 4 then (s.mark .sagRamp 0).modSf fun f => { f with sagS0 := s.tcTorques, sagMs := 0 } else s
  let s := if lvl < 4 && 4 ≤ old then s.each s.tcEnabled fun s t => s.setFlag (F.TC_CTL_LAST t) (s.sc.lastTab.getD t false) else s
  s.nvmFollow

/-- The sag level changes; level 5 seals the event log, and the fault-log records that wait are lost (R667 to R669, R808). DEDUCED, unsafe (log entry 44). -/
def State.sagTo (s : State) (lvl : Nat) : State :=
  let old := s.fld F.SUP_STAT_SAGLVL
  let s := (s.setFld F.SUP_STAT_SAGLVL lvl).modSf fun f => { f with sagOkN := 0, sagZero := f.sagZero || lvl == 0 }
  let s := (s.raise Ev.SUP_SAG axle 0).sagActions old
  if lvl == 5 then
    let s := ({ s with lt := { s.lt with queue := [] } } : State).setFld F.LT_FLSTAT_QLEN 0
    ((s.setFlag F.SUP_STAT_SEAL true).raise Ev.EV_SEAL axle 0).enterAxleSafe true false
  else s

/-- The safety controller starts with sag level 4, and does what that level keeps in force (R668, R670). -/
def State.sagStart (s : State) : State := s.sagActions 0

/-- A conversion of `VSYS` to `v`, in 10 mV (R667). DEDUCED, unsafe (log entry 60). -/
def State.vsys (s : State) (v : Nat) : State := s.when (s.past .vsys 0 (10 * cyclesPerUs)) fun s =>
  let s := s.mark .vsys 0
  let lvl := s.fld F.SUP_STAT_SAGLVL
  let s := s.setFld F.SUP_STAT_VSYSV v
  let below := [1, 2, 3, 4, 5].map fun k => if v < s.sagL k then s.sf.sagBelow.getD (k - 1) 0 + 1 else 0
  let good := 1 ≤ lvl && lvl ≤ 4 && s.sagL lvl + s.fld F.SUP_L5_SAGHYS ≤ v
  let s := s.modSf fun f =>
    { f with
      sagBelow := below
      sagOkAt := if good && f.sagOkN == 0 then s.now else f.sagOkAt
      sagOkN := if good then f.sagOkN + 1 else 0 }
  let hit := [5, 4, 3, 2, 1].find? fun k => lvl < k && 0 < below.getD (k - 1) 0 && s.fld F.SUP_SAGT_SAGF ≤ below.getD (k - 1) 0
  match hit with
  | some k => s.sagTo k
  | none => s

/-- `VSYS` has stayed good long enough, and the level falls by one (R667, R670). -/
def State.sagRestore (s : State) : State :=
  let lvl := s.fld F.SUP_STAT_SAGLVL
  let f := s.sf
  let due := if f.sagZero then 0 < f.sagOkN && f.sagOkAt + s.fld F.SUP_SAGT_SAGRT * cyclesPerMs ≤ s.now
    else 0 < f.sagOkN && s.fld F.SUP_SAGT_SAGF ≤ f.sagOkN
  if 1 ≤ lvl && lvl ≤ 4 && due then s.sagTo (lvl - 1) else s

/-- A millisecond of the sag ramp; at its end `LAST` is set (R668). -/
def State.sagTick (s : State) : State :=
  if s.fld F.SUP_STAT_SAGLVL < 4 || !s.past .sagRamp 0 ((s.sf.sagMs + 1) * cyclesPerMs) then s
  else
    let s := s.modSf fun f => { f with sagMs := f.sagMs + 1 }
    s.when (s.fld F.SUP_SAGT_SAGRAMP ≤ s.sf.sagMs) fun s => s.each s.tcEnabled fun s t => s.setFlag (F.TC_CTL_LAST t) true

/-- The limits of a rail, in 10 mV, and its filter in cycles, by the class of its bank (R671, R849). -/
def State.railLimits (s : State) (i : Nat) : Nat × Nat × Nat :=
  let bank (low : Bool) : Nat × Nat × Nat := if low then (165, 195, 10 * cyclesPerUs) else (310, 350, 10 * cyclesPerUs)
  if i == 0 then (77, 93, cyclesPerUs)
  else if i == 1 then (170, 190, 10 * cyclesPerUs)
  else if i == 2 then bank (s.flag F.IO_STAT_CLSA)
  else if i == 3 then bank false
  else if i == 4 then bank (s.flag F.IO_STAT_CLSC)
  else (vdrvUnder, 1650, 10 * cyclesPerUs)

/-- The power-on threshold of a rail, in 10 mV; the monitor does not hold for `VDRV` (R671, R849). -/
def State.railMin (s : State) (i : Nat) : Nat :=
  let bank (low : Bool) : Nat := if low then 150 else 280
  if i == 0 then 70 else if i == 1 then 155 else if i == 2 then bank (s.flag F.IO_STAT_CLSA) else if i == 3 then bank false
  else if i == 4 then bank (s.flag F.IO_STAT_CLSC) else 0

def State.railOutside (s : State) (i v : Nat) : Bool := v < (s.railLimits i).1 || (s.railLimits i).2.1 < v

/-- The voltage of a rail becomes `v` (R671). -/
def State.railTo (s : State) (i v : Nat) : State :=
  { s with rails := s.rails.modify i fun r =>
      if s.railOutside i v then { r with v := v, out := some (r.out.getD s.now) } else ⟨v, none, false⟩ }

/-- The event of a rail that has been outside its limits for its filter time (R671). -/
def State.railFault (s : State) (i : Nat) : State :=
  let s := { s with rails := s.rails.modify i fun r => { r with done := true } }
  if i == 0 then ((s.setFlag F.SUP_STAT_COREF true).raise Ev.SUP_CORE axle 0).enterAxleSafe true true
  else if i == 1 then (s.setFlag F.SUP_STAT_ANAF true).raise Ev.SUP_ANA axle 0
  else if i == railVdrv then (s.setFlag F.SUP_STAT_VDRVF true).raise Ev.SUP_VDRV 4 0
  else (s.setFlag F.SUP_STAT_IOF true).raise Ev.SUP_IO axle 0

/-- The rails whose event is still to come, with its cycle; there is none in RESET. DEDUCED, unsafe (log entry 60). -/
def State.railDue (s : State) : List (Nat × Nat) :=
  if s.sys == sysReset then []
  else s.rails.zipIdx.filterMap fun p => if p.1.done then none else p.1.out.map fun c => (p.2, c + (s.railLimits p.2).2.2)
def State.railAt (s : State) : List Nat := s.railDue.map (·.2)
def State.railDo (s : State) : State := s.each ((s.railDue.filter fun p => p.2 ≤ s.now).map (·.1)) State.railFault

/-- The cycles in which the safety blocks act by themselves: readings and readbacks are recognised, the start-up test goes on, and outputs are
de-energised after an STO (R637, R651, R655, R659). -/
def State.safetyAt (s : State) : List Nat :=
  (s.sinUsed.flatMap fun p => ((s.sinOf (2 * p.1 + b2n p.2)).upTo s.now).dueAt (s.sinFilt p.1) (s.pairSeen p.1 p.2))
    ++ (s.outsUsed.flatMap fun n => ((s.srbOf n).upTo s.now).dueAt srbFilt (s.fld (F.SO_STAT_RB n))) ++ s.ioAt ++ s.railAt
    ++ (s.outsUsed.filter fun n => s.flag (F.SO_STAT_ENRG n) && s.flag (F.SO_CFG_STOD n) && s.flag F.SF_STO_REQ).map fun n =>
      s.sf.stoAt + s.fld (F.SO_CFG_SBCDLY n) * cyclesPerMs

/-- What the safety blocks do by themselves in this cycle. -/
def State.safetyDo (s : State) : State := s.railDo.sinDo.srbDo.ioDo

/-- What follows every step in the safety blocks: the demands, the STO request, the wires, the outputs, and limits that fall. -/
def State.safetyFollow (s : State) : State :=
  (((((s.functionsFollow).axleDemands).stoFollow).wiresFollow).outputsFollow).slimLower

end Sys2Proof.Machine
end

