-- ==== Sys2Proof/Machine/DriverStatus.lean ====
section
/-! DEFINITION. What a Gate Link response makes the BX960 do (R349, R354, R361, R362, R370, R647). -/

namespace Sys2Proof.Machine

/-- A status block (R361). -/
structure StatusBlock where
  statw : Nat
  temp  : Nat
  desat : Nat
  uvlo  : Nat
  crc   : Option Nat
  deriving DecidableEq, Repr

def StatusBlock.ofBytes (b : List Byte) : StatusBlock :=
  ⟨leNat (b.take 2), leNat ((b.drop 2).take 2), (b.getD 6 0#8).toNat, (b.getD 7 0#8).toNat,
   if b.length = 14 then some (leNat (b.drop 12)) else none⟩

/-- Whether bit `i` of `STATW` is set now and was clear before. -/
def newBit (old now : StatusBlock) (i : Nat) : Bool := bitOf now.statw i && !bitOf old.statw i

/-- A driver report that isolates its channel (R362). -/
def State.drvTrip (s : State) (e : Ev.Src) (n d : Nat) : State := (s.raiseDrv e n d).pgIsolate (s.drvCh n d) isoLink

/-- The reactions of R362 to a block, compared with the block before it from that driver. DESIGN CHOICE, unsafe (log entry 33). -/
def State.drvReact (s : State) (n d : Nat) (old b : StatusBlock) (crcBad crcWas : Bool) : State :=
  let s := s.when (newBit old b 0 || decide (old.desat < b.desat)) (·.drvTrip Ev.GL_DESAT n d)
  let s := s.when (newBit old b 1 || newBit old b 2 || decide (old.uvlo < b.uvlo)) (·.drvTrip Ev.GL_UVLO n d)
  let s := s.when (newBit old b 4) (·.drvTrip Ev.GL_OTS n d)
  let s := s.when (newBit old b 5) (·.drvTrip Ev.GL_GMON n d)
  let s := s.when (newBit old b 3) (·.raiseDrv Ev.GL_OTW n d)
  let cfg := newBit old b 6 || (crcBad && !crcWas)
  let rst := newBit old b 9
  let s := s.when cfg (·.raiseDrv Ev.GL_CFGERR n d)
  let s := s.when rst (·.raiseDrv Ev.GL_RST n d)
  let s := s.when (cfg || rst) fun s => s.glQueue n (s.confReqs n d)
  s.when (bitOf old.statw 8 && !bitOf b.statw 8) (·.raiseDrv Ev.GL_NRDY n d)

/-- The block's view of STO against the wires (R362, R647): `GL_STOMIS` when a disagreement begins, and `SF_STODRV` at the second
counted block in a row that reports STO absent while the wires are asserted.
DEDUCED, unsafe (log entry 34). -/
def State.drvSto (s : State) (n d : Nat) (b : StatusBlock) : State :=
  let wires := s.flag F.SF_STO_WA && s.flag F.SF_STO_WB
  let seen := bitOf b.statw 7
  let x := s.drv n d
  let s := s.when (seen != wires && !x.stoMis) (·.raiseDrv Ev.GL_STOMIS n d)
  let s := s.modDrv n d fun x => { x with stoMis := seen != wires }
  if s.now < s.sf.wireAt + s.fld F.SF_STOCFG_STOLAG * cyclesPerMs then s
  else if seen == wires || !wires then s.modDrv n d fun x => { x with stoBad := 0 }
  else
    let s := s.modDrv n d fun x => { x with stoBad := min 2 (x.stoBad + 1) }
    s.when (x.stoBad == 1) fun s => (s.setFlag F.SF_STO_STODRV true).raise Ev.SF_STODRV axle (8 * n + d)

/-- A status block arrives: `kind` as in `GlReq.status`. DESIGN CHOICE, unsafe (log entry 33). -/
def State.glStatus (s : State) (n d kind : Nat) (bytes : List Byte) : State :=
  let b := StatusBlock.ofBytes bytes
  let x := s.drv n d
  let old := StatusBlock.ofBytes x.last
  let crcBad := match b.crc with
    | some c => c != crc16 x.image
    | none => false
  let s := s.when (x.last != []) (·.drvReact n d old b crcBad x.crcBad)
  let s := s.drvSto n d b
  let s := ((s.setFld (F.GL_DSTAT_STATW n d) b.statw).setFld (F.GL_DSTAT_TEMP n d) b.temp).setFlag (F.GL_DSTAT_STALE n d) false
  let s := s.modDrv n d fun x => { x with last := bytes, crcBad := crcBad, latched := latchedBits b.statw, rstf := bitOf b.statw 9, snapped := false }
  if kind == 2 then if crcBad then s.drvBad n d else s.drvVerified n d
  else if kind == 3 then
    if bitOf b.statw 8 && latchedBits b.statw == 0 then s.setFld (F.GL_DSTAT_DSTATE n d) drvOk else s.drvFail n d
  else s

/-- A broadcast has come back (R352, R354, R357). After SETRATE the port sends nothing until the drivers have changed their rate (R353).
DESIGN CHOICE, unsafe (log entry 33). -/
def State.glBroadcast (s : State) (n : Nat) (t : GlTxn) (echo : List Byte) : State :=
  match t.req with
  | .enum =>
    match splitFrame echo with
    | some (_, _, [c], _) => s.glEnumDone n c.toNat
    | _ => s
  | .setrate rate =>
    let fin := t.at_ + s.glFrameTime n t.frame
    (s.setFld (F.GL_STAT_RATEA n) rate).modGl n fun p => { p with hold := fin + rateDelay, fresh := s.glLive n }
  | _ => s

/-- The last cycle in which the `SOF` of a response counts: `RTMO` after the end of the request (R354). -/
def State.glDue (s : State) (n : Nat) (t : GlTxn) : Nat :=
  t.at_ + s.glFrameTime n t.frame + s.fld (F.GL_CFG_RTMO n) * cyclesPerUs

/-- The attempt ends with a timeout (R355). -/
def State.glNoAnswer (s : State) (n : Nat) (t : GlTxn) : State :=
  let s := (s.setFlag (F.GL_STAT_TMO n) true).incSat (F.GL_CNT_TMO_CNT n)
  (s.when (!t.echoed) (·.setFlag (F.GL_STAT_ECHOERR n) true)).glAttemptFails n

/-- A response frame of the addressed driver, which ends now, after the exact echo (R349, R354). Its `SOF` came in time, or the attempt has
timed out. The drivers behind it have repeated it (R345). A frame that matches no open request is ignored, and the attempt goes on
until its timeout. -/
def State.glReply (s : State) (n : Nat) (t : GlTxn) (resp : List Byte) : State :=
  match splitFrame resp with
  | none => s
  | some (adr, cmd, pl, crcOk) =>
    let s := s.each ((List.range (s.glNdrv n)).filter fun d => crcOk && t.req.pos < d) fun s d =>
      s.modDrv n d fun x => { x.rateIn s.now with frameAt := s.now }
    if s.glDue n t < s.now + 10 * s.glBit n - s.glFrameTime n resp then s.glNoAnswer n t
    else if !crcOk then ((s.setFlag (F.GL_STAT_CRCERR n) true).incSat (F.GL_CNT_CRC_CNT n)).glAttemptFails n
    else
      let d := t.req.pos
      let refused := cmd == 0x0F && pl.length == 2
      if adr != 128 + t.seq * 16 + d || !(refused || (cmd == t.req.cmd && t.req.lenOk (s.drvVer n d) pl.length)) then s
      else
        let s := (s.glDone n).modGl n fun p => { p with fresh := p.fresh.filter fun x => x != d }
        let s := match t.req with
          | .status _ kind => if refused then s.when (kind == 2 || kind == 3) (·.drvBad n d) else s.glStatus n d kind pl
          | r => s.glAnswer n r refused pl
        s.glNext n

/-- What comes back at `GL_n_SDI` for the open transaction: the echo, and the response when one has arrived (R354).
DESIGN CHOICE, unsafe (log entry 33). -/
def State.glResponse (s : State) (n : Nat) (echo resp : List Byte) : State :=
  match (s.gl n).txn with
  | none => s
  | some t =>
    let (ok, s) := s.glEcho n t echo
    if !ok then s
    else if t.req.broadcast then ((s.glDone n).glBroadcast n t echo).glNext n
    else if resp = [] then s
    else s.glReply n t resp

/-- `RTMO` runs out without a response, counted from the end of the request (R354, R355). -/
def State.glTimeout (s : State) (n : Nat) : State :=
  match (s.gl n).txn with
  | none => s
  | some t => if s.now < s.glDue n t then s else s.glNoAnswer n t

end Sys2Proof.Machine
end

