-- ==== Sys2Proof/Machine/SafetyStep.lean ====
section
/-! DEFINITION. A failed compare of the safety controller (R293, R294, R298, R733). The commands that stand for the safety
controller's own work are steps whose compares have passed. -/

namespace Sys2Proof.Machine

/-- The safety controller has failed: `EC_SCFAIL`, and the hardware sequencer's entry to AXLE_SAFE (R294, R298). -/
def State.scFails (s : State) : State :=
  ((s.setFlag F.EC_SC_STAT_SCFAIL true).raise Ev.EC_SCFAIL axle 0).enterAxleSafe true true

/-- The cycles of the 10 ms of R294. -/
def scWindow : Nat := 10 * cyclesPerMs

/-- A step has failed within the last 10 ms (R294). -/
def State.scNear (s : State) : Bool := (s.sc.misAt.map fun c => decide (s.now ≤ c + scWindow)).getD false

/-- A compare of a step has failed, and the step is repeated (R293). -/
def State.scMis (s : State) : State :=
  (((s.setFlag F.EC_SC_STAT_SCMIS true).incSat F.EC_SC_STAT_REP_CNT).raise Ev.EC_SCMIS axle 0).modSc fun c => { c with misAt := some s.now }

/-- A step that writes nothing ends: its compares pass; or one fails and the step is repeated, well or not (R293, R294). -/
def State.scStep (s : State) (failed again : Bool) : State :=
  if !failed then s else s.scMis.when (again || s.scNear) State.scFails

/-- A read of a task step returns a bus error: the step is handled as one whose compare failed, and the repeated step meets the same byte
again (R733).
DEDUCED, unsafe (log entry 47). -/
def State.scBusError (s : State) : State := s.scStep true true

end Sys2Proof.Machine
end

