-- ==== Sys2Proof/Machine/Can.lean ====
section
/-! DEFINITION. The CAN FD controllers (R681 to R695, R722, R734). A command stands for a whole frame or error: the bits of a frame are left out. -/

namespace Sys2Proof.Machine

def State.can (s : State) (k : Nat) : Can := vget s.cans k Can.reset
def State.modCan (s : State) (k : Nat) (f : Can → Can) : State := { s with cans := vmod s.cans k f }
def State.raiseCan (s : State) (e : Ev.Src) (k : Nat) : State := s.raise e axle k

/-- The codes of `CAN_STAT.CSTATE` that are stored. -/
def canOff : Nat := 0
def canInteg : Nat := 1
def canActive : Nat := 2
def canPassive : Nat := 3
def canBusOff : Nat := 4

/-- A controller runs (R682, R722). -/
def State.canRuns (s : State) (k : Nat) : Bool := (s.inForce && s.flag (F.CAN_CFG_EN k)) || (s.sys == sysDefaults && k == 0)
/-- A controller takes part in the traffic. -/
def State.canLive (s : State) (k : Nat) : Bool :=
  s.fld (F.CAN_STAT_CSTATE k) == canActive || s.fld (F.CAN_STAT_CSTATE k) == canPassive

/-- `CAN_n_STB` is asserted (R682). -/
def State.canStandby (s : State) (k : Nat) : Bool := (s.can k).startAt.isNone

/-- A controller starts to run (R682). -/
def State.canStart (s : State) (k : Nat) : State :=
  if s.canRuns k && (s.can k).startAt.isNone then s.modCan k fun c => { c with startAt := some s.now } else s

/-- Bus integration starts. -/
def State.canIntegStart (s : State) (k : Nat) : State :=
  (s.setFld (F.CAN_STAT_CSTATE k) canInteg).modCan k fun c => { c with integAt := s.now }

/-- 50 µs later it starts bus integration (R682). -/
def State.canIntegrate (s : State) (k : Nat) : State :=
  if (s.can k).startAt == some (s.now - 50 * cyclesPerUs) && 50 * cyclesPerUs ≤ s.now && s.fld (F.CAN_STAT_CSTATE k) == canOff then s.canIntegStart k
  else s

/-- The cycles of a period of the 80 MHz CAN clock. -/
def canClk : Nat := 5

/-- The cycles of a nominal-phase bit, with the values of R722 in DEFAULTS, and of a data-phase bit (R683). -/
def State.canBit (s : State) (k : Nat) : Nat :=
  canClk * if s.sys == sysDefaults then 1 + 127 + 32
    else s.fld (F.CAN_NBT_NBRP k) * (1 + s.fld (F.CAN_NBT_NTSEG1 k) + s.fld (F.CAN_NBT_NTSEG2 k))
def State.canDataBit (s : State) (k : Nat) : Nat :=
  canClk * (s.fld (F.CAN_DBT_DBRP k) * (1 + s.fld (F.CAN_DBT_DTSEG1 k) + s.fld (F.CAN_DBT_DTSEG2 k)))
/-- The sample points, in cycles from the start of a bit (R683), and the secondary one in a data bit of a frame that is sent (R684). -/
def State.canSample (s : State) (k : Nat) : Nat :=
  canClk * if s.sys == sysDefaults then 1 + 127 else s.fld (F.CAN_NBT_NBRP k) * (1 + s.fld (F.CAN_NBT_NTSEG1 k))
def State.canDataSample (s : State) (k : Nat) : Nat :=
  canClk * if s.flag (F.CAN_TDC_TDCE k) then min 255 (s.fld (F.CAN_STAT_TDCV k) + s.fld (F.CAN_TDC_TDCO k))
    else s.fld (F.CAN_DBT_DBRP k) * (1 + s.fld (F.CAN_DBT_DTSEG1 k))
/-- The recessive bits that end bus integration, and of which bus-off recovery counts 128 (R682, R693). -/
def canIdleBits : Nat := 11

/-- The state that the error counters ask for, with the flags and events of R692. `t0` and `r0` are the counters before. -/
def State.canCounters (s : State) (k t0 r0 t r : Nat) : State :=
  let s := (s.setFld (F.CAN_STAT_TEC k) (min 255 t)).setFld (F.CAN_STAT_REC k) (min 255 r)
  let s := s.when (t0 < 96 && r0 < 96 && (96 ≤ t || 96 ≤ r)) fun s => (s.setFlag (F.CAN_FLAG_EWARN k) true).raiseCan Ev.CAN_EWARN k
  if !s.canLive k then s
  else if 127 < t || 127 < r then
    if s.fld (F.CAN_STAT_CSTATE k) == canPassive then s
    else ((s.setFld (F.CAN_STAT_CSTATE k) canPassive).setFlag (F.CAN_FLAG_EPASS k) true).raiseCan Ev.CAN_EPASS k
  else s.setFld (F.CAN_STAT_CSTATE k) canActive

/-- 11 recessive bits have ended bus integration. -/
def State.canIntegrated (s : State) (k : Nat) : State :=
  if s.fld (F.CAN_STAT_CSTATE k) != canInteg || s.now < (s.can k).integAt + canIdleBits * s.canBit k then s
  else s.setFld (F.CAN_STAT_CSTATE k)
    (if 127 < s.fld (F.CAN_STAT_TEC k) || 127 < s.fld (F.CAN_STAT_REC k) then canPassive else canActive)

/-! ### Buffers -/

/-- Buffer `b` of controller `k`. -/
def canBuf (k b : Nat) : Nat := 0x7D0000 + k * 0x800 + b * 0x50

/-- The bytes of a frame by its `DLC`. -/
def dlcLen (fd : Bool) (dlc : Nat) : Nat :=
  if dlc ≤ 8 then dlc else if fd then [12, 16, 20, 24, 32, 48, 64].getD (dlc - 9) 64 else 8
/-- The least `DLC` that carries `n` bytes. -/
def lenDlc (n : Nat) : Nat := ((List.range 16).find? fun d => n ≤ dlcLen true d).getD 15

/-- A `BHDR` word. -/
def canHdr (full fdf brs esi ide oneshot : Bool) (dlc : Nat) : Word :=
  BitVec.ofNat 32 (b2n full * 2 ^ 31 + b2n fdf * 2 ^ 30 + b2n brs * 2 ^ 29 + b2n esi * 2 ^ 28 + b2n ide * 2 ^ 27 + b2n oneshot * 2 ^ 26 + dlc * 2 ^ 16)

/-- A transmit request ends with a result (R687, R688, R693, R734). -/
def State.canEnd (s : State) (k b res : Nat) (txerr : Bool) : State :=
  let h := s.peek32 (canBuf k b)
  let s := (s.write32 (canBuf k b) (Word.put h 31 1 0)).write32 (canBuf k b + 0x48) (BitVec.ofNat 32 res)
  let s := (s.setBit (F.CAN_TXS_TXREQ k) b false).modCan k fun c => { c with gone := c.gone.filter fun x => x != b }
  let s := s.when (res == 1) (·.setBit (F.CAN_TXS_TXOK k) b true)
  s.when txerr (·.setBit (F.CAN_TXS_TXERR k) b true)

/-- The safety controller writes a transmit buffer and sets its request (R685). -/
def State.canRequest (s : State) (k b id : Nat) (fd oneshot : Bool) (data : List Byte) : State :=
  let h := canHdr true fd (fd && s.flag (F.CAN_CFG_BRSE k)) false false oneshot (lenDlc data.length)
  let s := (s.write32 (canBuf k b) h).write32 (canBuf k b + 4) (BitVec.ofNat 32 id)
  let s := (s.writeBytes (canBuf k b + 8) data).write32 (canBuf k b + 0x48) 0
  (s.setBit (F.CAN_TXS_TXREQ k) b true).modCan k fun c =>
    { c with reqAt := c.reqAt.set b s.now, gone := c.gone.filter fun x => x != b }

def State.canPending (s : State) (k b : Nat) : Bool := bitOf (s.fld (F.CAN_TXS_TXREQ k)) b

/-- The safety controller withdraws a request (R688); an EVT is never withdrawn (R712). DESIGN CHOICE, unsafe (log entry 46). -/
def State.canWithdraw (s : State) (k b : Nat) (onWire : Bool) : State :=
  if !s.canPending k b || b == 2 then s
  else if onWire then s.modCan k fun c => { c with gone := c.gone ++ [b] }
  else s.canEnd k b 3 false

/-- Where a frame stands in arbitration: the smaller value wins. -/
def State.canArb (s : State) (k b : Nat) : Nat :=
  let ide := bitOf (s.peek32 (canBuf k b)).toNat 27
  let id := (s.peek32 (canBuf k b + 4)).toNat
  if ide then bitsOf id 18 11 * 2 ^ 19 + 2 ^ 18 + bitsOf id 0 18 else bitsOf id 0 11 * 2 ^ 19

/-- The buffer whose frame a controller offers, among the requests set by cycle `c` (R686). -/
def State.canOffer (s : State) (k c : Nat) : Option Nat :=
  ((List.range 8).filter fun b => s.canPending k b && (s.can k).reqAt.getD b 0 ≤ c).foldl (fun best b =>
    match best with
    | none => some b
    | some x => if s.canArb k b < s.canArb k x then some b else some x) none

/-- Entry into bus-off (R693). -/
def State.canToBusOff (s : State) (k : Nat) : State :=
  let s := ((s.setFld (F.CAN_STAT_CSTATE k) canBusOff).setFlag (F.CAN_FLAG_BOFF k) true).incSat (F.CAN_CNT2_BOFF_CNT k)
  let s := (s.modCan k fun c => { c with boAt := s.now, gone := [] }).raiseCan Ev.CAN_BOFF k
  s.each ((List.range 8).filter (s.canPending k)) fun s b => s.canEnd k b 4 true

/-- An error that the controller detects (R692, R694): `inc` names the change of ISO 11898-1: 0 none, 1 `REC` + 1, 2 `REC` + 8, 3 `TEC` + 8. -/
def State.canError (s : State) (k err : Nat) (dataPhase : Bool) (inc : Nat) : State :=
  if !s.canLive k then s
  else
    let s := (s.incSat (F.CAN_CNT_ERR_CNT k)).setFld (if dataPhase then F.CAN_LEC_DLEC k else F.CAN_LEC_LEC k) err
    let t := s.fld (F.CAN_STAT_TEC k)
    let r := s.fld (F.CAN_STAT_REC k)
    let t' := if inc == 3 then t + 8 else t
    let r' := if inc == 1 then r + 1 else if inc == 2 then r + 8 else r
    let s := s.canCounters k t r t' r'
    s.when (255 < t') (·.canToBusOff k)

/-- Bus-off ends: after `BOHOLD`, and not before 128 occurrences of 11 recessive bits can have come (R693). -/
def State.canRecover (s : State) (k : Nat) : State :=
  if s.canState k != 5 || s.now < (s.can k).boAt + s.fld (F.CAN_CFG_BOHOLD k) * cyclesPerMs + 128 * canIdleBits * s.canBit k then s
  else
    let s := (s.setFld (F.CAN_STAT_TEC k) 0).setFld (F.CAN_STAT_REC k) 0
    (s.setFld (F.CAN_STAT_CSTATE k) canActive).raiseCan Ev.CAN_RECOV k

/-- A frame whose transmission ends: 0 sent, 1 lost in arbitration, 2 ended by an error. It began `ago` cycles before the end, and `tdcv` is
the delay measured in it (R684 to R688, R734). The buffer that was sent is returned. -/
def State.canTransmit (s : State) (k outcome ago tdcv : Nat) : Option Nat × State :=
  match s.canOffer k (s.now - ago) with
  | none => (none, s)
  | some b =>
    if !s.canLive k then (none, s)
    else
      match s.readWords reqCan (canBuf k b) 18 with
      | (none, s) => (none, s.canEnd k b 3 true)
      | (some ws, s) =>
        let h := (ws.headD 0).toNat
        let gone := (s.can k).gone.contains b
        let s := s.when (s.flag (F.CAN_TDC_TDCE k) && bitOf h 30 && bitOf h 29) (·.setFld (F.CAN_STAT_TDCV k) (min 255 tdcv))
        if outcome == 0 then
          let t := s.fld (F.CAN_STAT_TEC k)
          let r := s.fld (F.CAN_STAT_REC k)
          (some b, (s.canCounters k t r (t - 1) r).canEnd k b 1 false)
        else if gone then (none, s.canEnd k b 3 false)
        else if bitOf h 26 then (none, s.canEnd k b 2 true)
        else (none, s)

/-! ### Reception -/

/-- A frame on the bus, as a receiver sees it. -/
structure CanFrame where
  ide  : Bool
  fdf  : Bool
  brs  : Bool
  esi  : Bool
  rtr  : Bool
  res  : Bool
  id   : Nat
  dlc  : Nat
  data : List Byte
  deriving DecidableEq, Repr

/-- Filter `j` matches the frame (R689). -/
def State.canMatch (s : State) (k j : Nat) (f : CanFrame) : Bool :=
  s.flag (F.CAN_FID_FEN k j) && s.flag (F.CAN_FID_FIDE k j) == f.ide && (!s.flag (F.CAN_FID_FFDO k j) || f.fdf)
    && Nat.land (Nat.xor f.id (s.fld (F.CAN_FID_FID k j))) (s.fld (F.CAN_FMSK_FMSK k j)) == 0

/-- A frame is stored into receive buffer `j` (R690). DESIGN CHOICE, unsafe (log entry 46). -/
def State.canStore (s : State) (k j : Nat) (f : CanFrame) : State :=
  let a := canBuf k (8 + j)
  let s := (s.write32 a (canHdr true f.fdf f.brs f.esi f.ide false f.dlc)).write32 (a + 4) (BitVec.ofNat 32 f.id)
  (s.writeBytes (a + 8) (f.data.take (dlcLen f.fdf f.dlc))).setBit (F.CAN_RXS_RXFULL k) j true

/-- The receive error counter after a good frame, as ISO 11898-1 counts; above 127 it takes a value from 119 to 127 that the standard
leaves open.
DESIGN CHOICE, unsafe (log entry 46). -/
def State.canGood (s : State) (k : Nat) : State :=
  let t := s.fld (F.CAN_STAT_TEC k)
  let r := s.fld (F.CAN_STAT_REC k)
  if r ≤ 127 then s.canCounters k t r t (r - 1)
  else
    let (w, s) := s.free
    s.canCounters k t r t (119 + w.toNat % 9)

/-- A protocol exception (R695). -/
def State.canException (s : State) (k : Nat) : State :=
  (((s.incSat (F.CAN_CNT2_PXE_CNT k)).setFlag (F.CAN_FLAG_PXEF k) true).canIntegStart k).raiseCan Ev.CAN_PXE k

/-- A frame of another node ends (R689, R690, R695). In DEFAULTS nothing is stored (R722). -/
def State.canReceive (s : State) (k : Nat) (f : CanFrame) : State :=
  if !s.canLive k then s
  else
    let fdoe := s.flag (F.CAN_CFG_FDOE k) && s.sys != sysDefaults
    let pxe := s.flag (F.CAN_CFG_PXE k) || s.sys == sysDefaults
    if f.fdf && (f.res || !fdoe) then if pxe then s.canException k else s.canError k 2 false 1
    else
      let s := s.canGood k
      if f.rtr || s.sys == sysDefaults then s
      else
        let m := (List.range 16).filter fun j => s.canMatch k j f
        match m.find? fun j => !bitOf (s.fld (F.CAN_RXS_RXFULL k)) j with
        | some j => s.canStore k j f
        | none =>
          if m == [] then s
          else ((s.setFlag (F.CAN_FLAG_RXOVF k) true).incSat (F.CAN_CNT_RXOVF_CNT k)).raiseCan Ev.CAN_RXOVF k

end Sys2Proof.Machine
end

