-- ==== Sys2Proof/Machine/Image.lean ====
section
/-! DEFINITION. The configuration image (R772 to R796, R803): its header, its directory, checks 2 to 9 of a slot, and the records of its
sections. A slot is the list of its bytes from its first byte on; a byte that the list does not reach is erased flash, 0xFF. -/

namespace Sys2Proof.Machine

/-- The `n` bytes at an offset of a slot. -/
def slice (b : List Byte) (o n : Nat) : List Byte :=
  let l := (b.drop o).take n
  l ++ List.replicate (n - l.length) 0xFF#8

/-- DESIGN CHOICE, safe (log entry 28). -/
def u8 (b : List Byte) (o : Nat) : Nat := (b.getD o 0xFF#8).toNat
def u16 (b : List Byte) (o : Nat) : Nat := leNat (slice b o 2)
def u32 (b : List Byte) (o : Nat) : Nat := leNat (slice b o 4)
def zeros (l : List Byte) : Bool := l.all (· == 0#8)

/-! ### Header and directory -/

/-- A directory entry (R775). -/
structure DirEnt where
  typ  : Nat
  inst : Nat
  ofs  : Nat
  slen : Nat
  scrc : Nat
  deriving DecidableEq, Repr

def imgFmt (b : List Byte) : Nat := u16 b 0x04
def imgNsec (b : List Byte) : Nat := u16 b 0x06
def imgLen (b : List Byte) : Nat := u32 b 0x08
def imgFlsize (b : List Byte) : Nat := u32 b 0x14
def imgFlags (b : List Byte) : Nat := u32 b 0x18

/-- Where the directory ends and the first section begins: the first multiple of 16 after it (R775). -/
def dirEnd (b : List Byte) : Nat := 0x40 + 16 * imgNsec b

def dirEnt (b : List Byte) (i : Nat) : DirEnt :=
  let e := 0x40 + 16 * i
  ⟨u16 b e, u16 b (e + 2), u32 b (e + 4), u32 b (e + 8), u32 b (e + 12)⟩

def dirEnts (b : List Byte) : List DirEnt := (List.range (imgNsec b)).map (dirEnt b)

/-- What Lantern knows when it checks a slot: the geometry of the flash, the OTP, and the identity of the part. -/
structure SlotCtx where
  slotB   : Bool
  dsize   : Nat
  es      : Nat
  key     : Option (List Byte)
  fmt2Dis : Bool
  devId   : Nat
  deriving DecidableEq, Repr

/-- The section types of R780; type 0x0009 does not occur in format 2 (R779). -/
def secTypeOk (fmt t : Nat) : Bool := (1 ≤ t && t ≤ 8) || (t == 9 && fmt == 3) || t == 0xA || t == 0xF

/-- The header obeys R774, R779 and R772, and `FLSIZE` its bounds. DEDUCED, unsafe (log entry 30). -/
def headerOk (c : SlotCtx) (b : List Byte) : Bool :=
  let fmt := imgFmt b
  let fls := imgFlsize b
  let len := imgLen b
  1 ≤ imgNsec b && imgNsec b ≤ (if fmt == 3 then 64 else 32)
    && len % 16 == 0 && zeros (slice b 0x1C 4) && zeros (slice b 0x30 12)
    && (if fmt == 3 then imgFlags b < 2 else imgFlags b == 0)
    && (imgFlags b % 2 == 1 || zeros (slice b 0x20 16))
    && (c.es != 0 && fls % c.es == 0) && fls < c.dsize / 2
    && len + 4 ≤ (if c.slotB then c.dsize - c.dsize / 2 - fls else c.dsize / 2)

/-- The directory entries obey R775 and R776, taken in order from the end of the sections before them; the index of the first that does
not, or the end of the last section. -/
def dirWalk (b : List Byte) (fmt len : Nat) : List DirEnt → Nat → Nat → Except Nat Nat
  | [], _, fin => .ok fin
  | e :: es, i, fin =>
    if !secTypeOk fmt e.typ then .error i
    else if e.slen == 0 then
      if e.ofs == 0 && e.scrc == 0 then dirWalk b fmt len es (i + 1) fin else .error i
    else if e.ofs % 16 == 0 && e.slen % 4 == 0 && fin ≤ e.ofs && (fin != dirEnd b || e.ofs == fin) && e.ofs + e.slen ≤ len
        && zeros (slice b fin (e.ofs - fin)) then
      dirWalk b fmt len es (i + 1) (e.ofs + e.slen)
    else .error i

/-- Check 6 of R777: no failure, or the section concerned if there is one. DEDUCED, unsafe (log entry 30). -/
def check6 (c : SlotCtx) (b : List Byte) : Option (Option Nat) :=
  if !headerOk c b then some none
  else match dirWalk b (imgFmt b) (imgLen b) (dirEnts b) 0 (dirEnd b) with
    | .error i => some (some i)
    | .ok fin => if fin == imgLen b then none else some none

/-- Check 7: the first section whose `SCRC` is wrong. -/
def check7 (b : List Byte) : List DirEnt → Nat → Option Nat
  | [], _ => none
  | e :: es, i => if e.slen == 0 || crc32c (slice b e.ofs e.slen) == e.scrc then check7 b es (i + 1) else some i

/-- Check 9 (R778): the bytes below `LEN` with `MAC` read as 0. -/
def macOk (key b : List Byte) : Bool :=
  let m := slice b 0 (imgLen b)
  imgFlags b % 2 == 1 && aesCmac key (m.take 0x20 ++ List.replicate 16 0#8 ++ m.drop 0x30) == slice b 0x20 16

/-- Checks 2 to 9 of R777, in order: the cause of the first that fails, with the section that it concerns. -/
def slotFault (c : SlotCtx) (b : List Byte) : Option (Nat × Option Nat) :=
  if u32 b 0 != 0x4D495842 then some (2, none)
  else if !(imgFmt b == 3 || (imgFmt b == 2 && !c.fmt2Dis && c.key.isNone)) then some (3, none)
  else if crc32c (slice b 0 0x3C) != u32 b 0x3C then some (4, none)
  else if !(u16 b 0x0C == bitsOf c.devId 8 12 && u8 b 0x0E == bitsOf c.devId 4 4 && u8 b 0x0F ≤ c.devId % 16) then some (5, none)
  else match check6 c b with
    | some s => some (6, s)
    | none =>
      match check7 b (dirEnts b) 0 with
      | some i => some (7, some i)
      | none =>
        if crc32c (slice b 0 (imgLen b)) != u32 b (imgLen b) then some (8, none)
        else match c.key with
          | some k => if macOk k b then none else some (9, none)
          | none => none

/-- The image of a slot. -/
def imgOf (b : List Byte) : Img :=
  { fmt := imgFmt b, build := u32 b 0x10, flsize := imgFlsize b, icrc := u32 b (imgLen b)
    secs := ((dirEnts b).filter fun e => e.slen != 0).map fun e => ⟨e.typ, e.inst, slice b e.ofs e.slen⟩ }

/-! ### Section records -/

/-- The sections of a type, in directory order. -/
def Img.of (m : Img) (t : Nat) : List Sec := m.secs.filter fun x => x.typ == t

/-- Cuts a section into records of `n` bytes. -/
def chunks (n : Nat) : List Byte → Nat → List (List Byte)
  | _, 0 => []
  | l, k + 1 => if l.isEmpty then [] else l.take n :: chunks n (l.drop n) k

/-- The words of a byte list. -/
def wordsOf (l : List Byte) : List Word := (chunks 4 l (l.length / 4)).map fun c => BitVec.ofNat 32 (leNat c)

/-- The register writes of a REG section (R782); `none` where a record is broken. -/
def regRecords : List Word → Nat → Option (List (Nat × Word))
  | [], _ => some []
  | _, 0 => none
  | w :: ws, n + 1 =>
    let a := Word.get w 0 24
    let k := Word.get w 24 8
    if a % 4 != 0 || ws.length < k then none
    else (regRecords (ws.drop k) n).map fun r => ((List.range k).zip (ws.take k)).map (fun p => (a + 4 * p.1, p.2)) ++ r

/-- Every register write of the image, in section and record order (R783). -/
def Img.regWrites (m : Img) : Option (List (Nat × Word)) :=
  (m.of 1).foldl (fun acc x => acc.bind fun l => (regRecords (wordsOf x.data) (x.data.length + 1)).map (l ++ ·)) (some [])

/-- The records of a TABLE or WORK section: offset and bytes (R785, R788). -/
def tableRecords : List Byte → Nat → Option (List (Nat × List Byte))
  | [], _ => some []
  | _, 0 => none
  | l, n + 1 =>
    let a := u32 l 0
    let k := u32 l 4
    if l.length < 8 || a % 4 != 0 || k % 4 != 0 || l.length < 8 + k then none
    else (tableRecords (l.drop (8 + k)) n).map fun r => (a, (l.drop 8).take k) :: r

def Img.tableWrites (m : Img) (t : Nat) : Option (List (Nat × List Byte)) :=
  (m.of t).foldl (fun acc x => acc.bind fun l => (tableRecords x.data (x.data.length + 1)).map (l ++ ·)) (some [])

/-- The contexts of the CONTEXT sections: number and bytes (R787). -/
def Img.ctxWrites (m : Img) : Option (List (Nat × List Byte)) :=
  let rs := (m.of 3).flatMap fun x => chunks 1028 x.data (x.data.length + 1)
  if rs.all fun r => r.length == 1028 && u16 r 0 < 384 && u16 r 2 == 0 then some (rs.map fun r => (u16 r 0, r.drop 4)) else none

/-- The schedule of the SCHED section: its descriptors and its entries (R786). -/
def Img.sched (m : Img) : Option (List Word × List Word) :=
  match m.of 4 with
  | [] => some ([], [])
  | x :: _ =>
    let nd := u16 x.data 0
    let ne := u16 x.data 2
    if 256 < nd || 2048 < ne || x.data.length != 4 + 4 * nd + 8 * ne then none
    else some (wordsOf ((x.data.drop 4).take (4 * nd)), wordsOf (x.data.drop (4 + 4 * nd)))

/-- The driver configurations: port, position, and the values of addresses 0x10 to 0x3F (R789). -/
def Img.glDrv (m : Img) : Option (List (Nat × Nat × List Byte)) :=
  let rs := (m.of 5).flatMap fun x => chunks 52 x.data (x.data.length + 1)
  if rs.all fun r => r.length == 52 && u8 r 0 < 4 && u8 r 1 < 8 && u16 r 2 == 0 then some (rs.map fun r => (u8 r 0, u8 r 1, r.drop 4))
  else none

/-- The fault-reaction entries (R790). -/
def Img.frt (m : Img) : Option (List FrEntry) :=
  let rs := (m.of 6).flatMap fun x => chunks 8 x.data (x.data.length + 1)
  if rs.all fun r => r.length == 8 && u8 r 3 < 32 && u8 r 7 == 0 then
    some (rs.map fun r =>
      { src := bitsOf (u16 r 0) 0 9, conv := bitsOf (u16 r 0) 9 3, react := bitsOf (u16 r 0) 12 4
        arg := u8 r 2 % 16, sec := u8 r 2 / 16, sarg := u8 r 3 % 16, pleng := bitOf (u8 r 3) 4
        relt := u16 r 4, relmax := u8 r 6 })
  else none

/-- The pairs of track and descriptor of a record (R791, R793). -/
def pairsAt (l : List Byte) (n : Nat) : List (Nat × Nat) := (List.range n).map fun i => (u8 l (2 * i), u8 l (2 * i + 1))

/-- The bytes that the pairs take, padded to a multiple of 4. -/
def pairBytes (n : Nat) : Nat := (2 * n + 3) / 4 * 4

/-- The variants of a CVAR section, the valid ones and the others (R791). -/
def cvarRecords (k : Nat) : List Byte → Nat → Option (List (Bool × CVar))
  | [], _ => some []
  | _, 0 => none
  | l, f + 1 =>
    let n := u8 l 7
    let sz := 8 + pairBytes n
    if l.length < 8 || 32 < n || l.length < sz || 15 < u8 l 0 || 1 < u8 l 1 || !zeros ((l.take sz).drop (8 + 2 * n)) then none
    else
      (cvarRecords k (l.drop sz) f).map fun r =>
        (u8 l 1 == 1, { conv := k, num := u8 l 0, units := u16 l 2, flags := u16 l 4, bvar := u8 l 6, trks := pairsAt (l.drop 8) n }) :: r

def Img.cvars (m : Img) : Option (List (Bool × CVar)) :=
  (m.of 7).foldl (fun acc x => acc.bind fun l => (cvarRecords x.inst x.data (x.data.length + 1)).map (l ++ ·)) (some [])

/-- A source code of a position interface (R51). -/
def posSource (i : Nat) : Bool := i == 1 || i == 2 || (8 ≤ i && i ≤ 0x13)

/-- A resource of a kind of the unit map exists (R792). -/
def unitIndexOk (k i : Nat) : Bool := if k == 5 then posSource i else i < [40, 12, 6, 384, 6, 0, 48, 32].getD k 0

/-- The unit map (R792). -/
def Img.units (m : Img) : Option (List UnitRow) :=
  let rs := (m.of 8).flatMap fun x => chunks 4 x.data (x.data.length + 1)
  if rs.all fun r => r.length == 4 && u8 r 0 < 8 && unitIndexOk (u8 r 0) (u16 r 1) && u8 r 3 < 0x80 && bitsOf (u8 r 3) 4 3 < 5 then
    some (rs.map fun r => ⟨u8 r 0, u16 r 1, u8 r 3 % 16, bitsOf (u8 r 3) 4 3⟩)
  else none

/-- The hand-over and supply entries (R793). -/
def handRecords : List Byte → Nat → Option (List HandRow)
  | [], _ => some []
  | _, 0 => none
  | l, f + 1 =>
    let n := u8 l 3
    let k := u8 l 1
    let sz := 4 + pairBytes n
    if l.length < 4 || l.length < sz || 32 < n || 15 < u8 l 2 || !zeros ((l.take sz).drop (4 + 2 * n))
        || !((u8 l 0 < 2 && (k == 1 || k == 2)) || (u8 l 0 == 3 && (k == 3 || k == 4))) || (k != 1 && n != 0) then none
    else (handRecords (l.drop sz) f).map fun r => ⟨u8 l 0, k, u8 l 2, pairsAt (l.drop 4) n⟩ :: r

def Img.hand (m : Img) : Option (List HandRow) :=
  (m.of 9).foldl (fun acc x => acc.bind fun l => (handRecords x.data (x.data.length + 1)).map (l ++ ·)) (some [])

/-- The variants of a converter in force of the unit map: those valid in its section, or the one variant that it has without a section
(R791). -/
def Img.variants (m : Img) (k : Nat) : List CVar :=
  if (m.of 7).any fun x => x.inst == k then ((m.cvars.getD []).filter fun p => p.1 && p.2.conv == k).map (·.2)
  else
    let us := ((m.units.getD []).filter fun u => u.conv == k).map (·.unit)
    [{ conv := k, num := 0, units := us.foldl (fun x u => if bitOf x u then x else x + 2 ^ u) 0, flags := 0, bvar := 0, trks := [] }]

end Sys2Proof.Machine
end

