-- ==== Sys2Proof/Machine/Load.lean ====
section
/-! DEFINITION. The loading of an image into the registers and the SRAM (R218, R270, R782 to R788, R874). -/

namespace Sys2Proof.Machine

/-! ### Registers -/

/-- The addresses of the registers of a row of the register map. -/
def RegRow.addrs (r : RegRow) : List Nat :=
  (List.range r.n1).flatMap fun i => (List.range r.n2).map fun j => r.base + i * r.s1 + j * r.s2

/-- Every (img) field takes its default, or its reset value where none is stated (R2, R783). -/
def State.loadDefaults (s : State) : State :=
  s.each (regRows.filter fun r => r.imgMask != 0) fun s r => s.each r.addrs fun s a =>
    s.setReg a ((s.reg a &&& ~~~ BitVec.ofNat 32 r.imgMask) ||| (BitVec.ofNat 32 r.dflt &&& BitVec.ofNat 32 r.imgMask))

/-- The default of `TC_TRAMP`, which the manual states apart from its table (R783). -/
def trampDefault : Word := 0x0000A3D7
/-- The default of `TSH` of an on-die channel. -/
def dieTsh : Nat := 0x09B0

/-- The defaults that hold for some instances of a layout only. -/
def State.loadInstDefaults (s : State) : State :=
  let s := s.each [0, 1] fun s t => s.setReg (Reg.TC_TRAMP t) trampDefault
  s.each (List.range 8) fun s k => s.setFld (F.TS_THB_TSH (16 + k)) dieTsh

/-- The channels that the STO gate masks by default: those with `EN` = 1, `CONV` 0 or 1 and `SUMP` = 0 (R338). -/
def State.stoMaskDefault (s : State) : Nat :=
  ((List.range 40).filter fun c => s.flag (F.PG_CFG_EN c) && s.fld (F.PG_CFG_CONV c) < 2 && !s.flag (F.PG_CFG_SUMP c)).foldl
    (fun m c => m + 2 ^ c) 0

/-- The defaults that are stated in terms of other fields, for the fields that no record has written (R783). -/
def State.loadFormed (s : State) (ws : List (Nat × Word)) : State :=
  let m := s.stoMaskDefault
  let s := s.when (!ws.any fun p => p.1 == Reg.PG_STOMASK0) (·.setFld F.PG_STOMASK0_MASK0 (m % 2 ^ 32))
  s.when (!ws.any fun p => p.1 == Reg.PG_STOMASK1) (·.setFld F.PG_STOMASK1_MASK1 (m / 2 ^ 32))

/-- The shadow copy of every commit group is made equal to the active copy (R784). -/
def State.syncShadows (s : State) : State :=
  s.each regGroups fun s g => s.each (groupRegs g) fun s a => s.setShad a (s.reg a)

/-- The copy of R874: the active copies of a channel take its shadow compare angles, phase offset and control, with no load point. -/
def State.pgInitial (s : State) (c : Nat) : State :=
  let cp (s : State) (sh ac : Nat) : State := s.setReg ac (s.reg sh)
  let s := cp (cp (cp (cp (cp s (Reg.PG_SCMPA c) (Reg.PG_ACMPA c)) (Reg.PG_SCMPB c) (Reg.PG_ACMPB c)) (Reg.PG_SCMPC c) (Reg.PG_ACMPC c))
    (Reg.PG_SCMPD c) (Reg.PG_ACMPD c)) (Reg.PG_SPHOFS c) (Reg.PG_APHOFS c)
  ((s.setFld (F.PG_ACTL_SRC c) (s.fld (F.PG_SCTL_SRC c))).setFld (F.PG_ACTL_FH c) (s.fld (F.PG_SCTL_FH c))).setFld
    (F.PG_ACTL_FL c) (s.fld (F.PG_SCTL_FL c))

/-- The registers of the image (R783, R784, R874). -/
def State.loadRegs (s : State) (m : Img) : State :=
  let ws := m.regWrites.getD []
  let s := s.loadDefaults.loadInstDefaults
  let s := (s.each ws fun s p => s.setReg p.1 p.2).loadFormed ws
  s.syncShadows.each (List.range 40) State.pgInitial

/-! ### SRAM -/

/-- The offsets of the schedule area within a bank (R786). -/
def schedDesc : Nat := 0x1F8000
def schedEnts : Nat := 0x1F8400
def schedEnd : Nat := 0x1FC400

/-- A context of the image: its 1 024 bytes, and the shadow copy of its commit group (R218, R787). -/
def State.loadContext (s : State) (c : Nat) (b : List Byte) : State :=
  (s.writeBytes (ctxAddr c) b).writeBytes (ctxShadow c) ((b.drop 0x150).take 0x180)

/-- The stages of a context. -/
def State.ctxStages (s : State) (c : Nat) : List Stage :=
  (List.range (min (s.cfld (F.CX_CFG_NSTG c)) 24)).map fun j => Stage.ofWords (s.ctxWord c (0x90 + 8 * j)) (s.ctxWord c (0x94 + 8 * j))

/-- The state words that a stage holds, with their widths, from its first state word. -/
def Stage.stateUse (g : Stage) : List (Nat × Bool) := if g.kind == 15 then [] else (kindStates g.kind).map fun p => (g.t + p.1, p.2)

/-- The low words of the 64-bit states of a context. -/
def State.wideStates (s : State) (c : Nat) : List Nat :=
  ((s.ctxStages c).flatMap Stage.stateUse).filterMap fun p => if p.2 then some p.1 else none

/-- The negation under R269 of lead state word `i`: over the whole value where it is a word of a 64-bit state. -/
def State.echoWord (s : State) (c i : Nat) : Word :=
  let lead (k : Nat) : Nat := (s.peek32 (leadState c + 4 * k)).toNat
  if (s.wideStates c).any fun j => i == j + 1 then BitVec.ofNat 32 ((2 ^ 64 - (lead (i - 1) + 2 ^ 32 * lead i)) % 2 ^ 64 / 2 ^ 32)
  else BitVec.ofNat 32 (2 ^ 32 - lead i)

/-- Lantern writes the Echo state words of a context as the negation of its lead state words (R270), and as 0 on a split engine (R288). -/
def State.loadEcho (s : State) (c : Nat) : State :=
  let word (i : Nat) : Word := if s.engSplit (s.ctxEng c) then 0 else s.echoWord c i
  s.each (List.range 28) fun t i => t.write32 (echoState c + 4 * i) (word i)

/-- The scheduled slots of a context take region 0, with `GSJ` at its end (R247). -/
def State.loadGains (s : State) (c : Nat) : State :=
  if !bitOf (s.ctxWord c 8).toNat 31 then s
  else
    let base := tabA + (s.ctxWord c 0xC).toNat % 2 ^ 21
    let hd := (s.peek32 (base + 0x1C)).toNat
    let n := bitsOf hd 0 6
    let first := bitsOf hd 8 5
    let tb := bitsOf hd 16 3
    let s := s.each (List.range (2 * n)) fun s i => s.write32 (ctxAddr c + 0x1D0 + 8 * first + 4 * i) (s.peek32 (base + 0x20 + 4 * i))
    (s.setCfld (F.CX_ST0_GSREG c) 0).setCfld (F.CX_ST0_GSJ c) (2 ^ tb)

/-- The contexts of the image that `keep` admits, with the Echo state words as they stand in the image. -/
def State.loadContexts (s : State) (m : Img) (keep : Nat → Bool) : State :=
  s.each ((m.ctxWrites.getD []).filter fun p => keep p.1) fun s p => (s.loadContext p.1 p.2).loadGains p.1

/-- Lantern writes these contexts (R270, R787, R788). -/
def State.writeContexts (s : State) (m : Img) (keep : Nat → Bool) : State :=
  (s.loadContexts m keep).each (((m.ctxWrites.getD []).map Prod.fst).filter keep) State.loadEcho

/-- TABLE, SCHED and WORK sections (R785 to R787). -/
def State.loadTables (s : State) (m : Img) : State :=
  let s := s.each ((m.tableWrites 2).getD []) fun s p => s.writeBytes (tabA + p.1) p.2
  let sc := m.sched.getD ([], [])
  let s := (s.writeWords (tabA + schedDesc) sc.1).writeWords (tabA + schedEnts) sc.2
  s.each ((m.tableWrites 0xA).getD []) fun s p => s.writeBytes p.1 p.2

end Sys2Proof.Machine
end

