-- ==== Sys2Proof/Machine/ImageChecks.lean ====
section
/-! DEFINITION. The image checks of the chapters on angle domains, conversion, current capture, Flowstone and Echo (R7, R21, R101, R159,
R203, R264, R290). The checks read the image as it would stand once loaded: the registers and the SRAM of a state, and the sections. -/

namespace Sys2Proof.Machine

/-- Material implication of a check. -/
def imp (a b : Bool) : Bool := !a || b

/-- No two elements of a list are equal. -/
def distinct {α : Type} [BEq α] : List α → Bool
  | [] => true
  | x :: xs => !xs.contains x && distinct xs

/-- The numbers of a list ascend, each at least the one before. -/
def ascending : List Nat → Bool
  | [] => true
  | [_] => true
  | x :: y :: l => x ≤ y && ascending (y :: l)

def strictlyAscending : List Nat → Bool
  | [] => true
  | [_] => true
  | x :: y :: l => x < y && strictlyAscending (y :: l)

def State.domOff (c : State) (d : Nat) : Bool := c.fld (F.AD_CFG_KIND d) == 0
def State.isSlave (c : State) (d : Nat) : Bool := !c.domOff d && c.fld (F.AD_CFG_SRC d) == 0x21

/-! ### Schedules of the image -/

def State.tracksOn (c : State) : List Nat := (List.range 32).filter fun t => c.flag (F.DL_TRK_CFG_EN t)

/-- The pairs of track and descriptor of the valid variants and of the hand-over entries, with their converter. -/
def Img.pairs (m : Img) : List (Nat × Nat × Nat) :=
  ((List.range 5).flatMap fun k => (m.variants k).flatMap fun v => v.trks.map fun p => (k, p))
    ++ (m.hand.getD []).flatMap fun h => h.trks.map fun p => (h.conv, p)

/-- The schedules that a track can run: its active one, and those that variants and hand-overs name. -/
def State.schedsOf (c : State) (m : Img) (t : Nat) : List Nat :=
  (c.fld (F.DL_TRK_SCHED_ACTIVE t) :: (m.pairs.filter fun p => p.2.1 == t).map (·.2.2)).eraseDups

/-- `FIRST` and `COUNT` of a descriptor. -/
def State.descRange (c : State) (i : Nat) : Nat × Nat :=
  let w := c.peek32 (descAddr i)
  (descFirst w, descCount w)

/-- The indices of a schedule's entries. -/
def State.schedIdx (c : State) (i : Nat) : List Nat :=
  let r := c.descRange i
  (List.range (min r.2 2048)).map (r.1 + ·)

/-- Every entry that a running track can run, with its track. -/
def State.runEntries (c : State) (m : Img) : List (Nat × Entry) :=
  c.tracksOn.flatMap fun t => (c.schedsOf m t).flatMap fun d => (c.schedIdx d).map fun j => (t, c.entry j)

/-- The starts of a sequence: track, converter mask, sequence, and whether a window opens. -/
def State.starts (c : State) (m : Img) : List (Nat × Nat × Nat × Bool) :=
  (c.runEntries m).filterMap fun p =>
    if p.2.action == actSeq || p.2.action == Machine.actWinOpen then
      some (p.1, p.2.target, p.2.arg % 32, p.2.action == Machine.actWinOpen) else none

/-- The converters that own a track on a domain or on one of its slaves. -/
def State.trackConvs (c : State) (d : Nat) : List Nat :=
  ((c.tracksOn.filter fun t => (d :: c.slaves d).contains (c.trkDom t)).map c.trkConv).eraseDups

/-- The converters that start sequence `q` of converter `n` of the conversion subsystem. -/
def State.seqConvs (c : State) (m : Img) (n q : Nat) : List Nat :=
  (((c.starts m).filter fun x => bitOf x.2.1 n && x.2.2.1 == q).map fun x => c.trkConv x.1).eraseDups

/-- The sequences of a converter that hold entries. -/
def State.seqsOf (c : State) (n : Nat) : List Nat := (List.range 32).filter fun q => c.seqCount n q != 0

/-- The converters that own an entry of a converter, through the sequences that hold it. -/
def State.entConvs (c : State) (m : Img) (n j : Nat) : List Nat :=
  ((c.seqsOf n).filter fun q => c.seqFirst n q ≤ j && j < c.seqFirst n q + c.seqCount n q).flatMap fun q => c.seqConvs m n q

/-- The converters that own a converter of the conversion subsystem, or its fitter. -/
def State.adcOwners (c : State) (m : Img) (n : Nat) : List Nat :=
  (((c.starts m).filter fun x => bitOf x.2.1 n).map fun x => c.trkConv x.1).eraseDups

/-- A resource with the owners `l` may be used by converter `k`. -/
def ownedBy (l : List Nat) (k : Nat) : Bool := l.isEmpty || l.contains k

/-! ### Angle domains and Dripline (R21, R101) -/

/-- The largest change of angle per cycle that the limits of a domain admit. -/
def State.domLimit (c : State) (d : Nat) : Nat :=
  c.fld (F.AD_RMAX_RATE_MAX d) + c.fld (F.AD_WIN_ERR_MAX d) * 2 ^ 16 / 2 ^ c.fld (F.AD_GAIN_KP_SH d)

def State.chkDomains (c : State) : Bool :=
  (List.range 16).all fun d =>
    let k := c.fld (F.AD_CFG_KIND d)
    k ≤ 4
      && imp (k == 1 || k == 2) (c.fld (F.AD_CFG_SRC d) != 0 && c.fld (F.AD_THR_BTMO d) != 0)
      && imp (k != 0) (c.fld (F.AD_RMAX_RATE_MAX d) != 0 && 8 ≤ c.fld (F.AD_GAIN_KI_SH d))
      && imp (c.isSlave d)
          (let a := c.fld (F.AD_CFG_MASTER d)
           c.fld (F.AD_GAIN_RATIO d) != 0 && a != d && !c.domOff a && !c.isSlave a)

def State.chkTracks (c : State) : Bool :=
  (c.tracksOn.all fun t =>
    let d := c.trkDom t
    c.trkConv t < 5 && c.fld (F.DL_TRK_CFG_PLOG t) ≤ 6 && !c.domOff d
      && (if c.isSlave d then c.fld (F.AD_GAIN_RATIO d) * c.domLimit (c.fld (F.AD_CFG_MASTER d)) else c.domLimit d) < c.trkP t / 2)
    && ((List.range 5).all fun k =>
      let l := c.tracksOn.filter fun t => c.trkConv t == k
      l.isEmpty || (l.filter fun t => c.flag (F.DL_TRK_CFG_LEAD t)).length == 1)

/-- An entry has a code of R79 and no reserved bit set. DEDUCED, unsafe (log entry 31). -/
def State.chkEntryBits (c : State) (j : Nat) : Bool :=
  let e := c.entry j
  1 ≤ e.action && e.action ≤ 0xA && Word.get (c.peek32 (entryAddr j + 4)) 5 3 == 0 && imp e.delay (e.word0 < 2 ^ 16)

/-- The targets of an entry exist, and no code is reserved (R101, R374, R418, R508, R554, R594, R763, R839). -/
def State.chkTarget (c : State) (e : Entry) : Bool :=
  if e.action == actSeq || e.action == Machine.actWinOpen || e.action == Machine.actWinClose then e.target < 64
  else if e.action == actLoop || e.action == actOut then e.arg % 512 < 384
  else if e.action == Machine.actStrobe then
    if e.target < 40 then (e.arg == 1 || e.arg == 2 || e.arg == 3) && c.flag (F.PG_CFG_EN e.target)
    else if e.target < 42 then e.arg == 1 || e.arg == 2
    else if e.target == 42 then e.arg == 1
    else if 49 ≤ e.target && e.target ≤ 52 then e.arg == 1 && c.flag (F.AC_CFG_EN (e.target - 49))
    else false
  else if e.action == actMark then 1 ≤ e.target && e.target < 64 && c.flag (F.GQ_CFG_EN e.target)
  else if e.action == actProfile then e.target < 16
  else if e.action == actSnap then e.target < 16 && e.arg ≤ 255
  else true

/-- The targets of an entry belong to the converter `k` of a track that runs it (R21, R101, R763). -/
def State.chkTargetOf (c : State) (k : Nat) (e : Entry) : Bool :=
  if e.action == actLoop || e.action == actOut then
    imp (bitOf (c.ctxWord (e.arg % 512) 0).toNat 31) (c.ctxConv (e.arg % 512) == k)
  else if e.action == actMark then c.gqConv e.target == k
  else true

def State.chkSchedules (c : State) (m : Img) : Bool :=
  let sc := m.sched.getD ([], [])
  ((List.range sc.1.length).all fun i =>
    let w := c.peek32 (descAddr i)
    Nat.land w.toNat 0xF000F800 == 0 && descFirst w + descCount w ≤ 2048)
    && ((List.range (sc.2.length / 2)).all fun j => c.chkEntryBits j && c.chkTarget (c.entry j))
    && ((List.range sc.1.length).all fun i =>
      let es := (c.schedIdx i).map c.entry
      (c.schedIdx i).all c.chkEntryBits && imp (es != []) ((es.map (·.delay)).headD false == false)
        && ascending ((es.filter fun e => !e.delay).map (·.word0)))
    && (c.tracksOn.all fun t => (c.schedsOf m t).all fun d => ((c.schedIdx d).map c.entry).all fun e =>
      (e.delay || e.word0 < c.trkP t) && c.chkTarget e && c.chkTargetOf (c.trkConv t) e)

/-- No schedule entry serves two converters (R21). -/
def State.chkOwners (c : State) (m : Img) : Bool :=
  let uses := c.tracksOn.flatMap fun t => (c.schedsOf m t).map fun d => (c.trkConv t, c.descRange d)
  uses.all fun a => uses.all fun b =>
    a.1 == b.1 || a.2.2 == 0 || b.2.2 == 0 || a.2.1 + a.2.2 ≤ b.2.1 || b.2.1 + b.2.2 ≤ a.2.1

/-! ### Conversion subsystem (R159) -/

/-- An input code that a converter can convert (R108, R109). -/
def State.inputOk (c : State) (n i : Nat) : Bool :=
  if i < 0x60 then i / 32 == n / 2 && !(i % 2 == 1 && c.flag (F.AIN_CFG_DIFF (i - 1))) else i < 0x63

def State.entField (c : State) (n j : Nat) (f : Nat → Nat → Fld) : Nat := c.fld (f n j)

/-- The entries of a sequence. -/
def State.seqEnts (c : State) (n q : Nat) : List Nat := (List.range (c.seqCount n q)).map (c.seqFirst n q + ·)

/-- The image gives an entry of a converter: it writes the entry, or a sequence holds it. -/
def State.entGiven (c : State) (m : Img) (n j : Nat) : Bool :=
  ((m.regWrites.getD []).any fun p => p.1 == (F.ADC_ENT_INPUT n j).addr) || (c.seqsOf n).any fun q => (c.seqEnts n q).contains j

/-- An entry (R108, R109, R145). -/
def State.chkEnt (c : State) (n j : Nat) : Bool :=
  c.inputOk n (c.entInput n j) && c.fld (F.ADC_ENT_AVG n j) ≤ 4
    && imp (c.flag (F.ADC_ENT_OWT n j)) (c.entInput n j < 0x60 && c.fld (F.AIN_CFG_PULL (c.entInput n j)) != 3)

def State.chkSeq (c : State) (m : Img) (n q : Nat) : Bool :=
  let es := c.seqEnts n q
  c.seqFirst n q + c.seqCount n q ≤ 64 && c.seqWlen n q ≤ 4 && c.seqWlen n q ≤ c.seqCount n q
    && ((es.take (c.seqWlen n q)).all fun j => c.fld (F.ADC_ENT_DWELL n j) == 0 && c.fld (F.ADC_ENT_AVG n j) == 0
        && !c.flag (F.ADC_ENT_OWT n j) && !c.flag (F.ADC_ENT_TQ n j))
    && (c.seqConvs m n q).length ≤ 1
    && (((c.starts m).filter fun x => bitOf x.2.1 n && x.2.2.1 == q).all fun x =>
        imp x.2.2.2 (c.seqWlen n q != 0)
          && ((es.filter fun j => c.flag (F.ADC_ENT_XCHK n j)).all fun j =>
            let o := n / 2 * 2 + (1 - n % 2)
            bitOf x.2.1 o && (c.seqEnts o q).contains j && c.flag (F.ADC_ENT_XCHK o j) && c.entInput o j == c.entInput n j))

/-- A row that names no condition of use holds for every instance, in use or not. DEDUCED, unsafe (log entry 31). -/
def State.chkConversion (c : State) (m : Img) : Bool :=
  ((List.range 6).all fun n =>
    ((List.range 32).all fun q => c.chkSeq m n q) && ((List.range 64).all fun j => imp (c.entGiven m n j) (c.chkEnt n j))
      && imp (c.flag (F.ADC_CTRL_TQ_EN n))
          (let g := c.fld (F.ADC_CTRL_TQ_GQ n)
           g != 0 && c.flag (F.GQ_CFG_EN g) && c.fld (F.GQ_CFG_IW g) == 2 && ownedBy (c.adcOwners m n) (c.gqConv g)))
    && ((List.range 96).all fun i => shiftOk (c.fld (F.AIN_GS_GS i)) && !c.domOff (c.fld (F.AIN_CFG_CDOM i))
        && !(i % 2 == 1 && c.flag (F.AIN_CFG_DIFF i)))
    && ((c.starts m).all fun x => (List.range 6).all fun n => imp (bitOf x.2.1 n && x.2.2.2) (c.seqWlen n x.2.2.1 != 0))

/-! ### Current capture (R203) -/

/-- Only the first row of R203 is limited to a fitter in use. DEDUCED, unsafe (log entry 31). -/
def State.chkFitter (c : State) (m : Img) (f : Nat) : Bool :=
  let mask := c.fld (F.FIT_PG_PHMASK f)
  let chs := [c.fld (F.FIT_PG_PG0 f), c.fld (F.FIT_PG_PG1 f), c.fld (F.FIT_PG_PG2 f)]
  let full := c.flag (F.FIT_CFG_ISTAR f) || c.flag (F.FIT_CFG_RECON f)
  imp (c.flag (F.FIT_CFG_EN f)) (c.flag (F.ADC_CTRL_EN f)) && 3 ≤ c.fld (F.FIT_TIME_NMIN f) && imp full (mask == 7)
    && imp (c.flag (F.FIT_CFG_RECON f)) (c.flag (F.FIT_CFG_ISTAR f))
    && ((bitList mask 3).all fun x => chs.getD x 0 < 40 && ownedBy (c.adcOwners m f) (c.pgConv (chs.getD x 0)))
    && imp (!c.flag (F.FIT_CFG_VSRC f)) ((c.starts m).all fun x => imp (x.2.2.2 && bitOf x.2.1 f) (4 ≤ c.seqWlen f x.2.2.1))
    && !c.domOff (c.fld (F.FIT_CFG_CDOM f)) && c.fld (F.FIT_SM_DS_CNT f) != 0

def State.chkCapture (c : State) (m : Img) : Bool :=
  (List.range 6).all fun f => shiftOk (c.fld (F.FIT_YS_YS f)) && c.chkFitter m f

/-! ### Flowstone and Echo (R7, R264, R290) -/

/-- The contexts that the image enables. -/
def State.ctxsOn (c : State) : List Nat := (List.range 384).filter fun x => bitOf (c.ctxWord x 0).toNat 31
def State.ctxInputs (c : State) (x : Nat) : List Word := (List.range 32).map fun i => c.ctxWord x (0x10 + 4 * i)

/-- The `OUT` stages of the image: context, target, and whether it is immediate. -/
def State.outsOf (c : State) : List (Nat × Nat × Bool) :=
  c.ctxsOn.flatMap fun x => ((c.ctxStages x).filter fun g => g.kind == 15).map fun g => (x, g.target, bitOf g.opt 0)

/-- Some `OUT` stage of a context of converter `k` that satisfies `p` on (target, immediate). -/
def State.outAny (c : State) (k : Nat) (p : Nat → Bool → Bool) : Bool :=
  c.outsOf.any fun o => c.ctxConv o.1 == k && p o.2.1 o.2.2

/-- One context writes every target of a list, by its output load. -/
def State.oneLoop (c : State) (ts : List Nat) : Bool :=
  c.ctxsOn.any fun x => ts.all fun t => c.outsOf.any fun o => o.1 == x && o.2.1 == t && !o.2.2

/-- The converters to which a target belongs, if it exists as one (R236); a measurement port and an exchange word belong to none. -/
def State.targetOwners (c : State) (m : Img) (a : Nat) : Option (List Nat) :=
  if isXw a || isPort a then (if a % 4 == 0 then some [] else none)
  else if a % 4 != 0 then none
  else if 0x040000 ≤ a && a < 0x040000 + 40 * 0x80 && 0x18 ≤ a % 0x80 && a % 0x80 ≤ 0x2C then some [c.pgConv ((a - 0x040000) / 0x80)]
  else if 0x028000 ≤ a && a < 0x028600 && 0x30 ≤ a % 0x100 && a % 0x100 ≤ 0x3C then some (c.adcOwners m ((a - 0x028000) / 0x100))
  else if (List.range 16).any fun p => a == Reg.PF_MEAS p then some []
  else if a == Reg.DC_ITOT || a == Reg.DC_VERR then some [2]
  else if a == Reg.CH_UA || a == Reg.CH_UB || a == Reg.CH_VAMP then some [3]
  else if (List.range 4).any fun n => a == Reg.AC_DUTY n || a == Reg.AC_UA n || a == Reg.AC_UB n then some [4]
  else match [0, 1].find? fun t => [Reg.TC_TREQ t, Reg.TC_OBS0A t, Reg.TC_OBS0G t, Reg.TC_OBS1A t, Reg.TC_OBS1G t, Reg.TC_OBSCONF t,
      Reg.TM_UA t 0, Reg.TM_UB t 0, Reg.TM_UA t 1, Reg.TM_UB t 1].contains a with
    | some t => some [t]
    | none =>
      match (List.range 64).find? fun g => a == Reg.GQ_PUSH g || a == Reg.GQ_PUSHE g || a == Reg.GQ_END g with
      | some g => if g != 0 && c.flag (F.GQ_CFG_EN g) then some [c.gqConv g] else none
      | none => none

/-- Targets that the chapters keep from an immediate `OUT`: those of the modulators, the charger and the actuators, and `DC_ITOT`.
DEDUCED, unsafe (log entry 32). -/
def loadOnly (a : Nat) : Bool :=
  ([0, 1].any fun t => [Reg.TM_UA t 0, Reg.TM_UB t 0, Reg.TM_UA t 1, Reg.TM_UB t 1].contains a)
    || a == Reg.CH_UA || a == Reg.CH_UB || a == Reg.CH_VAMP || a == Reg.DC_ITOT
    || (List.range 4).any fun n => a == Reg.AC_DUTY n || a == Reg.AC_UA n || a == Reg.AC_UB n

/-- The converters whose tracks tick a profile generator. -/
def State.profOwners (c : State) (m : Img) (g : Nat) : List Nat :=
  ((c.runEntries m).filter fun p => p.2.action == actProfile && p.2.target == g).map fun p => c.trkConv p.1

/-- The converter of a register's block instance, where the instance has one. DEDUCED, unsafe (log entry 31). -/
def State.regOwners (c : State) (m : Img) (a : Nat) : List Nat :=
  if 0x020000 ≤ a && a < 0x026000 then c.adcOwners m ((a - 0x020000) / 0x1000)
  else if 0x028000 ≤ a && a < 0x028600 then c.adcOwners m ((a - 0x028000) / 0x100)
  else if 0x040000 ≤ a && a < 0x041400 then [c.pgConv ((a - 0x040000) / 0x80)]
  else if 0x050000 ≤ a && a < 0x050100 then [c.fld (F.RS_CFG_CONV ((a - 0x050000) / 0x80))]
  else if 0x051000 ≤ a && a < 0x051400 then [c.qdConv ((a - 0x051000) / 0x80)]
  else if 0x052000 ≤ a && a < 0x052100 then [c.hlConv ((a - 0x052000) / 0x40)]
  else if 0x058000 ≤ a && a < 0x058400 then c.profOwners m ((a - 0x058000) / 0x40)
  else if 0x010000 ≤ a && a < 0x010400 then c.trackConvs ((a - 0x010000) / 0x40)
  else if 0x060000 ≤ a && a < 0x060600 then [c.cmpConv ((a - 0x060000) / 0x20)]
  else if 0x070000 ≤ a && a < 0x071000 then [(a - 0x070000) / 0x800]
  else if 0x071000 ≤ a && a < 0x071400 then [(a - 0x071000) / 0x200]
  else if 0x080000 ≤ a && a < 0x080800 then [2]
  else if 0x080800 ≤ a && a < 0x081000 then [3]
  else if 0x090100 ≤ a && a < 0x090500 then [4]
  else if 0x011000 ≤ a && a < 0x011400 then [c.trkConv ((a - 0x011000) / 0x20)]
  else if 0x0C1000 ≤ a && a < 0x0C2000 then (if a < 0x0C1040 then [] else [c.gqConv ((a - 0x0C1000) / 0x40)])
  else []

/-- An input descriptor (R223, R264). -/
def State.chkInput (c : State) (m : Img) (k : Nat) (d : Word) : Bool :=
  let n := d.toNat
  let rest (l : List (Nat × Nat)) : Bool := l.foldl (fun x f => putBits x f.1 f.2 0) (bitsOf n 0 28) == 0
  match bitsOf n 28 4 with
  | 0 => rest []
  | 1 => rest [(16, 3), (0, 6)] && bitsOf n 16 3 < 6 && ownedBy (c.entConvs m (bitsOf n 16 3) (bitsOf n 0 6)) k
  | 2 => rest [(16, 3), (0, 7)] && bitsOf n 16 3 < 6 && ownedBy (c.adcOwners m (bitsOf n 16 3)) k
  | 3 => rest [(24, 4), (0, 17)] && ownedBy (c.trackConvs (bitsOf n 24 4)) k
  | 4 => rest [(24, 4)] && ownedBy (c.trackConvs (bitsOf n 24 4)) k
  | 5 => rest [(24, 4), (0, 2)] && bitsOf n 0 2 < 3 && ownedBy (c.profOwners m (bitsOf n 24 4)) k
  | 6 => rest [(0, 9)]
  | 7 =>
    let a := bitsOf n 0 24
    rest [(0, 24)] && isReg a && ownedBy (c.regOwners m a) k && !((List.range 64).any fun g => a == Reg.GQ_POPTAG g)
  | _ => false

/-- An operand code that R222 gives. -/
def opCodeOk (x : Nat) : Bool := x < 0x60 || x == 0xFF

/-- A stage (R264). -/
def State.chkStage (c : State) (x j : Nat) : Bool :=
  let g := Stage.ofWords (c.ctxWord x (0x90 + 8 * j)) (c.ctxWord x (0x94 + 8 * j))
  let h := signed 8 g.opt
  let sts := [0, 0, 0, 2, 5, 4, 4, 2, 0, 1, 0, 0, 0, 0, 0, 0].getD g.kind 0
  bitsOf (c.ctxWord x (0x90 + 8 * j)).toNat 24 4 == 0
    && ((g.operands fun t => c.fld (F.FF_CFG_MODE t)).all fun o => opCodeOk o.1)
    && (if g.kind == 15 then g.opt < 2
        else g.d < 32 && imp (0xB ≤ g.kind) (g.d < 31)
          && imp (kindCoeffs g.kind != 0) (g.k + kindCoeffs g.kind ≤ 32) && imp (sts != 0) (g.t + sts ≤ 28)
          && (if g.kind == 5 then decide (h ≠ 0 ∧ h.natAbs ≤ 16)
              else if g.kind == 0xA then g.opt < 48 && c.flag (F.FF_CFG_EN g.opt)
              else if g.kind == 0xB then g.opt < 2
              else g.opt == 0))

/-- The gain schedule of a context (R250, R264). -/
def State.chkGains (c : State) (x : Nat) : Bool :=
  let a := c.cfld (F.CX_GSADR_GSADR x)
  let w (i : Nat) : Word := c.peek32 (tabA + a + 4 * i)
  let n := bitsOf (w 7).toNat 0 6
  let up (i : Nat) : Bool := decide ((w i).toInt < (w (i + 1)).toInt ∧ (w (i + 1)).toInt < (w (i + 2)).toInt)
  n != 0 && bitsOf (w 7).toNat 8 5 + n ≤ 32 && up 0 && up 3 && decide (0 ≤ (w 6).toInt)
    && a % 8 == 0 && a + 0x20 + 128 * n ≤ bankSize
    && ((List.range n).all fun i =>
      let s0 := w (8 + 2 * i + 1)
      shiftOk s0.toNat && s0.toNat < 64 && (List.range 16).all fun r => w (8 + 2 * (r * n + i) + 1) == s0)

/-- Every Echo state word of a context is the negation of the lead state word, over the whole state value where a stage holds a 64-bit state
there, or 0 on a split engine (R269, R270, R290). -/
def State.chkEchoStates (c : State) (x : Nat) : Bool :=
  if c.engSplit (c.ctxEng x) then (List.range 28).all fun j => c.peek32 (echoState x + 4 * j) == 0
  else
    let l (b i : Nat) : Nat := (c.peek32 (b + 4 * i)).toNat
    let wide := c.wideStates x
    (wide.all fun i =>
      (l (leadState x) i + 2 ^ 32 * l (leadState x) (i + 1) + l (echoState x) i + 2 ^ 32 * l (echoState x) (i + 1)) % 2 ^ 64 == 0)
      && (List.range 28).all fun i =>
        wide.any (fun j => i == j || i == j + 1) || (l (leadState x) i + l (echoState x) i) % 2 ^ 32 == 0

/-- DEDUCED, unsafe (log entry 31). -/
def State.chkContext (c : State) (m : Img) (x : Nat) : Bool :=
  let e := c.ctxEng x
  let k := c.ctxConv x
  let nst := c.cfld (F.CX_CFG_NSTG x)
  let outs := (c.ctxStages x).filter fun g => g.kind == 15
  let sm := c.cfld (F.CX_SUPV_SMODE x)
  c.flag (F.FE_CFG_EN e) && nst ≤ 24 && k < 5
    && Nat.land (c.ctxWord x 0).toNat 0x00E00FFF == 0 && !bitOf (c.ctxWord x 4).toNat 29
    && Nat.land (c.ctxWord x 8).toNat 0x7F0000FF == 0 && (c.ctxWord x 0xC).toNat < 2 ^ 21
    && !(c.cfld (F.CX_CFG_SAFE x) == 1 && c.engSplit e) && !(c.cfld (F.CX_CFG_LANE x) == 1 && !c.engSplit e)
    && ((List.range nst).all fun j => c.chkStage x j)
    && outs.length ≤ 16 && distinct (outs.map (·.target))
    && (outs.all fun g =>
      (match c.targetOwners m g.target with
        | some l => ownedBy l k
        | none => false) && !(bitOf g.opt 0 && loadOnly g.target))
    && ((c.ctxInputs x).all fun d => c.chkInput m k d)
    && ((List.range 32).all fun i => let sh := (c.ctxWord x (0x1D4 + 8 * i)).toNat; shiftOk sh && sh < 64)
    && imp (c.cfld (F.CX_GS_GSEN x) == 1) (c.chkGains x)
    && sm != 3 && imp (sm == 1) (c.cfld (F.CX_SUPV_WATCH x) < nst)
    && c.chkEchoStates x

/-- A safety context reads no exchange word and no measurement port that a context without `SAFE` writes (R290). -/
def State.chkSafeInputs (c : State) : Bool :=
  let unsafe_ := (c.outsOf.filter fun o => c.cfld (F.CX_CFG_SAFE o.1) == 0).map fun o => o.2.1
  (c.ctxsOn.filter fun x => c.cfld (F.CX_CFG_SAFE x) == 1).all fun x => (c.ctxInputs x).all fun d =>
    let n := d.toNat
    let t := bitsOf n 28 4
    !(t == 6 && unsafe_.contains (0x7E0000 + 4 * bitsOf n 0 9)) && !((t == 3 || t == 4) && unsafe_.contains (0x010400 + 8 * bitsOf n 24 4))

/-! ### Phases of the loops (R24 to R26, R124) -/

/-- The input descriptors that the stages of an enabled context, its supervision and its gain schedule read. -/
def State.readInputs (c : State) (x : Nat) : List Nat :=
  if bitOf (c.ctxWord x 0).toNat 31 then
    let ops := ((c.ctxStages x).flatMap fun g => (g.operands fun t => c.fld (F.FF_CFG_MODE t)).map (·.1))
      ++ (if c.cfld (F.CX_SUPV_SMODE x) == 2 then [c.cfld (F.CX_SUPV_WATCH x)] else [])
      ++ (if c.cfld (F.CX_GS_GSEN x) == 1 then [c.cfld (F.CX_GS_GX x), c.cfld (F.CX_GS_GY x)] else [])
    (ops.filter fun o => 0x20 ≤ o && o < 0x40).map fun o => (c.ctxWord x (0x10 + 4 * (o - 0x20))).toNat
  else []

/-- The fitters, and the sequence entries by converter, whose results a context reads (R223). -/
def State.fitReads (c : State) (x : Nat) : List Nat := (c.readInputs x).filterMap fun d => if bitsOf d 28 4 == 2 then some (bitsOf d 16 3) else none
def State.entReads (c : State) (x : Nat) : List (Nat × Nat) :=
  (c.readInputs x).filterMap fun d => if bitsOf d 28 4 == 1 then some (bitsOf d 16 3, bitsOf d 0 6) else none

/-- The cycle in which the result of the `k`-th entry after the position of a run is written (R130, R133). -/
def State.entReady (c : State) (n : Nat) (r : SeqRun) : Nat → Nat
  | 0 => ((c.entTimes n r).getLast?).getD r.at_ + codeLatency
  | k + 1 => c.entReady n { r with pos := r.pos + 1, at_ := ((c.entTimes n r).getLast?).getD r.at_ + 5 } k

/-- The longest time from the start of a sequence by `SEQ_START`, or from the close of its window, to the result of its entry `k`: with any
one slice excluded (R124), at any place of the grid. -/
def State.entWorst (c : State) (n q k : Nat) (window : Bool) : Nat :=
  ((List.range 4).flatMap fun i => (List.range 20).map fun u =>
    let c := c.setBit (F.ADC_STAT_SLEX n) i true
    if window then
      if k < c.seqWlen n q then codeLatency
      else c.entReady n ⟨q, 0, 0, c.seqWlen n q, 0, u / 20 * 20 + 20⟩ (k - c.seqWlen n q) - u
    else c.entReady n ⟨q, 0, 0, 0, 0, u + 10⟩ k - u).foldl max 0

/-- A chain of entries: an angle entry and the delay entries that follow it. -/
def chainsOf : List Entry → List (List Entry)
  | [] => []
  | e :: es =>
    match chainsOf es with
    | (a :: l) :: ls => if a.delay then (e :: a :: l) :: ls else [e] :: (a :: l) :: ls
    | ls => [e] :: ls

/-- Along a chain, in cycles from its angle entry: the cycle of the entry, the closes of the windows by converter, the starts of sequences
(converter, sequence, whether by the close of a window, cycle), the cycle from which each lane is free, and the last cycles of the runs. -/
structure Phases where
  ok     : Bool
  t      : Nat
  closes : List (Nat × Nat)
  seqs   : List (Nat × Nat × Bool × Nat)
  free   : List (Nat × Nat)
  ends   : List (Nat × Nat)
  deriving DecidableEq, Repr

/-- The least time from the close of a window to a loop that reads its fit (R25). -/
def fitDelay : Nat := 100

/-- The lane of a context, among the eight lanes. -/
def State.laneKey (c : State) (x : Nat) : Nat := 2 * c.ctxEng x + c.ctxLane x

/-- The enabled contexts that some schedule starts. -/
def State.ctxStarted (c : State) (m : Img) : List Nat :=
  (((c.runEntries m).filter fun p => p.2.action == actLoop).map fun p => p.2.arg % 512).eraseDups.filter c.ctxsOn.contains

/-- The longest wait of a context for the runs that other chains start: each of the other contexts of its lane can have one run ahead of it
(R95), and a lane holds one run and 7 others before it (R208). DEDUCED, unsafe (log entry 29). -/
def State.otherWait (c : State) (m : Img) (chain : List Entry) (x : Nat) : Nat :=
  let own := (chain.filter fun e => e.action == actLoop).map fun e => e.arg % 512
  let l := ((c.ctxStarted m).filter fun y => !own.contains y && c.laneKey y == c.laneKey x).map c.runLength
  ((l.mergeSort (fun a b => decide (b ≤ a))).take laneQueueSize).foldl (· + ·) 0

/-- One entry of a chain (R24 to R26, R124): a loop that reads fit results starts at a fixed time after the close of their windows, no earlier
than `fitDelay`; a loop starts when the results of the sequence entries that it reads are written; and the output load of a loop that
reads fit results fires, at a fixed time after the close, when its run is complete (R210, R238).
DEDUCED, unsafe (log entry 29). -/
def State.phaseStep (c : State) (m : Img) (wins : List (Nat × Nat)) (chain : List Entry) (p : Phases) (e : Entry) : Phases :=
  let p := { p with t := if e.delay then p.t + e.word0 % 65536 else 0 }
  let at_ (l : List (Nat × Nat)) (k : Nat) : Option Nat := (l.find? fun q => q.1 == k).map (·.2)
  let x := e.arg % 512
  if e.action == Machine.actWinClose then
    let ns := bitList e.target 6
    { p with closes := ns.map (·, p.t) ++ p.closes
             seqs := ((wins.filter fun w => ns.contains w.1).map fun w => (w.1, w.2, true, p.t)) ++ p.seqs }
  else if e.action == actSeq then
    { p with seqs := ((bitList e.target 6).map fun n => (n, e.arg % 32, false, p.t)) ++ p.seqs }
  else if e.action == actLoop then
    let fits := (c.fitReads x).all fun f => match at_ p.closes f with
      | some t => decide (t + fitDelay ≤ p.t)
      | none => false
    let ents := (c.entReads x).all fun r => p.seqs.all fun q =>
      imp (q.1 == r.1 && (c.seqEnts q.1 q.2.1).contains r.2)
        (decide (q.2.2.2 + c.entWorst q.1 q.2.1 (r.2 - c.seqFirst q.1 q.2.1) q.2.2.1 ≤ p.t))
    let done := max (p.t + 1) ((at_ p.free (c.laneKey x)).getD 0) + c.runLength x
    { p with ok := p.ok && fits && ents, free := (c.laneKey x, done) :: p.free, ends := (x, done + c.otherWait m chain x) :: p.ends }
  else if e.action == actOut then
    { p with ok := p.ok && (c.fitReads x == [] || match at_ p.ends x with
        | some t => decide (t < p.t)
        | none => false) }
  else p

/-- The entries of a schedule. -/
def State.schedEntries (c : State) (d : Nat) : List Entry := (c.schedIdx d).map c.entry

/-- The windows that a schedule opens: converter and sequence. -/
def winsOf (l : List Entry) : List (Nat × Nat) :=
  (l.filter fun e => e.action == Machine.actWinOpen).flatMap fun e => (bitList e.target 6).map (·, e.arg % 32)

/-- No schedule that a track can run keeps a loop from its phases (R26). -/
def State.chkPhases (c : State) (m : Img) : Bool :=
  c.tracksOn.all fun t => (c.schedsOf m t).all fun d => (chainsOf (c.schedEntries d)).all fun l =>
    (l.foldl (c.phaseStep m (winsOf (c.schedEntries d)) l) ⟨true, 0, [], [], [], []⟩).ok

/-! ### Engines (R264) -/

def State.chkEngines (c : State) (m : Img) : Bool :=
  (c.ctxsOn.all fun x => c.chkContext m x) && distinct (c.outsOf.map fun o => o.2.1) && c.chkSafeInputs
    && ((List.range 16).all fun p =>
      shiftOk (c.fld (F.PF_SH_VS p)) && shiftOk (c.fld (F.PF_SH_AS p)) && shiftOk (c.fld (F.PF_SH_JS p))
        && imp (c.flag (F.PF_CFG_EN p))
          (c.fld (F.PF_CFG_VSH p) ≤ 24 && c.fld (F.PF_CFG_ASH p) ≤ 24 && !c.domOff (c.fld (F.PF_CFG_CDOM p))))

end Sys2Proof.Machine
end

