-- ==== Sys2Proof/Machine/ImageChecks2.lean ====
section
/-! DEFINITION. The image checks of the chapters on the power stage, modulation, traction control, position, the DC/DC converter, the
charger and the actuators (R374, R418, R449, R495, R526, R554, R594). -/

namespace Sys2Proof.Machine

/-! ### Power stage (R374) -/

def State.chkChannel (c : State) (x : Nat) : Bool :=
  let mode := c.pgMode x
  let conv := c.pgConv x
  mode != 3 && imp (mode == 1) (c.flag (F.PG_CFG_OCEN x)) && conv < 4
    && 512 ≤ c.fld (F.PG_DTFLOOR_DTFLOOR x) && c.fld (F.PG_DTFLOOR_DTFLOOR x) ≤ 128000
    && c.fld (F.PG_DTR_DTR x) ≤ 128000 && c.fld (F.PG_DTF_DTF x) ≤ 128000
    && 40 ≤ c.fld (F.PG_HS_HSTMO x) && c.fld (F.PG_HS_HSTMO x) ≤ 4000 && c.fld (F.PG_HS_ONTMO x) != 0 && c.fld (F.PG_HS_OCFILT x) ≤ 7
    && !c.domOff (c.fld (F.PG_CFG_CDOM x)) && imp (c.flag (F.PG_CFG_SUMP x)) (mode != 1 && conv < 2)

/-- The driver entries with `DEN` = 1: port, position, channel, and the switches. -/
def State.drvRows (c : State) : List (Nat × Nat × Nat × Bool × Bool) :=
  (List.range 4).flatMap fun n => ((List.range 8).filter fun d => c.flag (F.GL_DMAP_DEN n d)).map fun d =>
    (n, d, c.fld (F.GL_DMAP_CH n d), c.flag (F.GL_DMAP_SWH n d), c.flag (F.GL_DMAP_SWL n d))

def State.chkPower (c : State) (m : Img) : Bool :=
  let rows := c.drvRows
  ((List.range 40).all fun x => imp (c.flag (F.PG_CFG_EN x)) (c.chkChannel x))
    && ((List.range 4).all fun n =>
      let nd := c.fld (F.GL_CFG_NDRV n)
      imp (c.flag (F.GL_CFG_EN n))
        (1 ≤ nd && nd ≤ 8 && c.fld (F.GL_CFG_RATE n) != 3
          && 20 + nd * 24 ≤ 10 * c.fld (F.GL_CFG_RTMO n) && nd * 100 ≤ c.fld (F.GL_POLL_POLL n)))
    && (rows.all fun r => r.2.2.1 < 40 && c.flag (F.PG_CFG_EN r.2.2.1) && c.fld (F.GL_DMAP_VMINOR r.1 r.2.1) ≤ 4
      && rows.all fun q => (r.1 == q.1 && r.2.1 == q.2.1) || r.2.2.1 != q.2.2.1
        || !((r.2.2.2.1 && q.2.2.2.1) || (r.2.2.2.2 && q.2.2.2.2)))
    && (let gl := m.glDrv.getD []
        (rows.all fun r => gl.any fun g => g.1 == r.1 && g.2.1 == r.2.1)
          && gl.all fun g => rows.any fun r => g.1 == r.1 && g.2.1 == r.2.1)

/-! ### Traction modulation (R418) -/

def State.tmSetRows (c : State) : List (Nat × Nat) :=
  [(0, 0), (0, 1), (1, 0), (1, 1)].filter fun p => c.tmEnabled p.1 && c.flag (F.TM_SCFG_EN p.1 p.2)

/-- A point record of a slot. -/
def State.chkPoint (c : State) (m n i : Nat) : Bool :=
  let o := c.pointOfs m n i
  let as_ := (List.range n).map fun j => c.tmWord m (o + 8 + 4 * j)
  c.tmWord m (o + 4) % 16 == n && as_.all (· < 0x40000000) && ascending as_ && (as_.drop 1).all (· != 0)
    && imp (i + 1 == c.slotNpt m n) (!bitOf (c.tmWord m o) 31)
    && c.fld (F.TM_DBASE_DBASE m) + o + 8 + 4 * n ≤ bankSize

/-- The common-state list of slot `n` toward slot `n'`. -/
def State.chkList (c : State) (m n n' : Nat) (near : Bool) : Bool :=
  let t := c.tmWord m (c.slotTrans m n + 4 * (n' - 1))
  let cnt := bitsOf t 24 8
  let l := bitsOf t 0 24
  let w := (List.range cnt).map fun k => bitsOf (c.tmWord m (l + 8 * k + 4)) 16 16
  imp near (cnt != 0) && cnt ≤ 12 && ascending ((List.range cnt).map fun k => c.tmWord m (l + 8 * k))
    && w.all (fun x => x != 0 && x ≤ 0x1555) && c.fld (F.TM_DBASE_DBASE m) + l + 8 * cnt ≤ bankSize

def State.chkSlot (c : State) (m n : Nat) : Bool :=
  let ps := List.range (c.slotNpt m n)
  let ns := (c.slots m).filter fun x => 1 ≤ x
  c.slotNpt m n ≤ 512 && ps.all (c.chkPoint m n) && strictlyAscending (ps.map (c.pointM m n)) && c.slotRlo m n < c.slotRhi m n
    && c.fld (F.TM_DBASE_DBASE m) + c.slotTrans m n + 60 ≤ bankSize
    && ns.all fun n' => n' == n || c.chkList m n n' (!ns.any fun x => (n < x && x < n') || (n' < x && x < n))

def State.chkModulator (c : State) (im : Img) (m : Nat) : Bool :=
  let rd := c.tmRdom m
  let hand := im.hand.getD []
  let drapery := (c.slots m) != []
  !c.domOff (c.fld (F.TM_CFG_CDOM m)) && c.fld (F.AD_CFG_KIND rd) == 1
    && imp (c.flag (F.TM_CFG_PDEN m))
        (c.fld (F.AD_CFG_KIND (c.fld (F.TM_CFG_PDOM m))) == 1 && c.fld (F.AD_CFG_SRC (c.fld (F.TM_CFG_PDOM m))) == 0x40)
    && c.fld (F.TM_CFG_VCONV m) < 6 && ownedBy (c.entConvs im (c.fld (F.TM_CFG_VCONV m)) (c.fld (F.TM_CFG_VENT m))) m
    && (c.tmSets m).all (fun k => imp (c.flag (F.TM_SCFG_EN m k)) ((c.tmChs m k).all fun x =>
        x < 40 && c.pgMode x == 1 && c.pgConv x == m && !c.domOff (c.fld (F.PG_CFG_EDOM x))))
    && c.fld (F.TM_DBASE_DBASE m) + 240 ≤ bankSize && ((c.slots m).filter fun x => 1 ≤ x).all (c.chkSlot m)
    && imp drapery ((hand.any fun h => h.conv == m && h.kind == 1) && hand.any fun h => h.conv == m && h.kind == 2)

/-- The angles of the load points of a channel, as angles of its carrier domain (R315). -/
def State.loadAngles (c : State) (x : Nat) : List Nat :=
  let o := c.reg (Reg.PG_APHOFS x)
  let a := (wordOf (c.fld (F.PG_LOAD_LDANG x) * 65536) - o).toNat
  if !c.flag (F.PG_LOAD_LDEN x) then [] else if c.flag (F.PG_LOAD_LD2 x) then [a, (a + 2 ^ 31) % 2 ^ 32] else [a]

/-- The largest rate of a domain, in angle-word LSB per cycle. -/
def State.rateMax (c : State) (d : Nat) : Nat :=
  if c.isSlave d then c.fld (F.AD_GAIN_RATIO d) * c.fld (F.AD_RMAX_RATE_MAX (c.fld (F.AD_CFG_MASTER d))) else c.fld (F.AD_RMAX_RATE_MAX d)

/-- The cycles from the writes of `TM_UA` and `TM_UB` to the load point that can take their result (R380, R418). -/
def loadLead : Nat := 25

/-- An output load `t` cycles after an angle entry of offset `o` on track `k` falls `loadLead` cycles or more before every load point of channel
`x` that can follow it, at any rate of the domain, and no strobe of its chain makes one sooner. A track on another domain than the channel's
carrier domain keeps no distance. DEDUCED, unsafe (log entry 29). -/
def State.loadClear (c : State) (k o t x : Nat) (strobes : List Nat) : Bool :=
  let d := c.trkDom k
  let p := c.trkP k
  d == c.fld (F.PG_CFG_CDOM x)
    && ((c.loadAngles x).all fun a =>
      let gap := (a + 2 ^ 33 - (c.reg (Reg.DL_TRK_BASE k)).toNat - o) % p
      let gap := if gap = 0 && t != 0 then p else gap
      c.rateMax d * (t + loadLead) ≤ gap)
    && strobes.all fun u => u < t || t + loadLead ≤ u

/-- A chain with the cycles of its entries from its angle entry. -/
def timed : Nat → List Entry → List (Nat × Entry)
  | _, [] => []
  | t, e :: es => let t := if e.delay then t + e.word0 % 65536 else 0; (t, e) :: timed t es

/-- No output load to the references of a set falls less than `loadLead` cycles before a load point of the set's channels (R418). -/
def State.chkLoads (c : State) (im : Img) (m k : Nat) : Bool :=
  let loads (x : Nat) : Bool := c.outsOf.any fun o => o.1 == x && (o.2.1 == Reg.TM_UA m k || o.2.1 == Reg.TM_UB m k)
  c.tracksOn.all fun t => (c.schedsOf im t).all fun d => (chainsOf (c.schedEntries d)).all fun l =>
    let es := timed 0 l
    let o := (l.head?.map (·.word0)).getD 0
    es.all fun p => imp (p.2.action == actOut && loads (p.2.arg % 512)) ((c.tmChs m k).all fun x =>
      c.loadClear t o p.1 x ((es.filter fun q => q.2.action == Machine.actStrobe && q.2.target == x && q.2.arg != 2).map (·.1)))

def State.chkModulation (c : State) (im : Img) : Bool :=
  c.tmSetRows.all (fun p => c.chkLoads im p.1 p.2) &&
  [0, 1].all (fun m => imp (c.tmEnabled m) (c.chkModulator im m)) && distinct (c.tmSetRows.flatMap fun p => c.tmChs p.1 p.2)

/-! ### Traction control (R449) -/

/-- A table block (R428). -/
def State.chkTcTable (c : State) (a : Nat) : Bool :=
  let w (o : Nat) : Word := c.peek32 (tabA + a + o)
  let nt := bitsOf (w 0).toNat 0 8
  let nf := bitsOf (w 0).toNat 8 8
  let rs := 8 + 8 * nt
  let pos (o : Nat) : Bool := decide (0 < (w o).toInt)
  a % 8 == 0 && 2 ≤ nt && nt ≤ 32 && 2 ≤ nf && nf ≤ 32 && (w 0).toNat < 2 ^ 16 && a + 0x60 + nf * rs ≤ bankSize
    && pos 4 && (w 8).toNat < 2 ^ 31 && pos 0xC && pos 0x10 && w 0x14 == 0 && w 0x18 == 0 && w 0x1C == 0
    && (List.range nf).all fun k =>
      let o := 0x60 + k * rs
      decide (0 ≤ (w (o + 4)).toInt) && decide ((w (o + 4)).toInt ≤ (w o).toInt)
        && (List.range nt).all fun j => decide ((w (o + 8 + 8 * j)).toInt ≤ 0) && decide (0 ≤ (w (o + 12 + 8 * j)).toInt)

/-- The exchange words that the safety parts of the BX960 write from word `b` on are not targets of an `OUT` stage. -/
def State.xwFree (c : State) (b n : Nat) : Bool := !c.outsOf.any fun o => 0x7E0000 + 4 * b ≤ o.2.1 && o.2.1 < 0x7E0000 + 4 * (b + n)

def State.chkController (c : State) (t : Nat) : Bool :=
  let k := c.fld (F.AD_CFG_KIND (c.fld (F.TC_CFG_CDOM t)))
  let ntc := c.fld (F.TC_TH_NTC t)
  c.tmEnabled t && c.fld (F.TC_CFG_RDOM t) == c.tmRdom t && (k == 3 || k == 4) && c.fld (F.AD_CFG_KIND (c.fld (F.TC_CFG_RDOM t))) == 1
    && c.fld (F.TC_CFG_XWB t) ≤ 504 && c.xwFree (c.fld (F.TC_CFG_XWB t)) 8 && c.flag (F.TC_VBS_VALID t 0)
    && ((List.range 4).all fun v => imp (c.flag (F.TC_VBS_VALID t v))
        (c.fld (F.TC_VBS_SETEN t v) != 0 && ((bitList (c.fld (F.TC_VBS_SETEN t v)) 2).all fun k => c.flag (F.TM_SCFG_EN t k))
          && c.chkTcTable (c.fld (F.TC_VBT_TAB t v))))
    && c.fld (F.TC_STEPS_ZSTEPS t) != 0 && c.fld (F.TC_STEPS_RCNT t) != 0 && c.fld (F.TC_DER_DERSTEPS t) != 0
    && c.fld (F.TC_VREG_VREG_HI t) < c.fld (F.TC_VREG_VREG_MAX t) && c.fld (F.TC_VMOT_VMOT_MIN t) < c.fld (F.TC_VMOT_VMOT_LO t)
    && c.fld (F.TC_CONF_CONF_LO t) ≤ c.fld (F.TC_CONF_CONF_OK t) && c.flag (F.TS_CFG_EN ntc)
    && imp (c.fld (F.TC_CMD_MODE t) == 2) (c.outAny t fun a _ => a == Reg.TC_TREQ t)

def State.chkTraction (c : State) : Bool := [0, 1].all fun t => imp (c.flag (F.TC_CFG_EN t)) (c.chkController t)

/-! ### Position and speed (R466, R495) -/

/-- The domains that a source can discipline. -/
def State.disciplined (c : State) (src : Nat) : List Nat :=
  (List.range 16).filter fun d => !c.domOff d && (c.fld (F.AD_CFG_SRC d) == src || c.fld (F.AD_CFG_SRC2 d) == src)

/-- A hold interval is positive and below `UPD_TMO` of every domain that the source disciplines; `UPD_TMO` = 0 is no timeout. -/
def State.holdOk (c : State) (src h : Nat) : Bool :=
  h != 0 && (c.disciplined src).all fun d => c.fld (F.AD_TIME_UPD_TMO d) == 0 || h < c.fld (F.AD_TIME_UPD_TMO d)

/-- The most cycles that can lie between the last samples of two once-entries of a sequence, with any one slice excluded, at any place of the
grid, and with no window between them (R124, R130). DEDUCED, unsafe (log entry 29). -/
def State.instantsApart (c : State) (n q a b : Nat) : Nat :=
  let p := min a b - c.seqFirst n q
  ((List.range 4).flatMap fun i => (List.range 20).map fun u =>
    let c := c.setBit (F.ADC_STAT_SLEX n) i true
    let r : SeqRun := ⟨q, 0, 0, p, 0, u⟩
    c.entReady n r (max a b - min a b) - c.entReady n r 0).foldl max 0

def State.chkResolver (c : State) (i : Nat) : Bool :=
  let ks := c.rsKs i
  let n := c.fld (F.RS_CFG_ADC i)
  let se := c.fld (F.RS_CFG_SENT i)
  let ce := c.fld (F.RS_CFG_CENT i)
  let once (q j : Nat) : Bool := c.seqFirst n q + c.seqWlen n q ≤ j && j < c.seqFirst n q + c.seqCount n q
  let ed := c.fld (F.RS_CFG_EDOM i)
  let r := c.fld (F.AD_RSET_HI_RSET_INT ed)
  let qd := c.fld (F.RS_NMOD_IXQD i)
  c.fld (F.RS_CFG_CONV i) ≤ 4 && c.fld (F.RS_NMOD_NMOD i) != 0 && ks != 0 && !c.domOff (c.fld (F.RS_CFG_CDOM i)) && n < 6
    && (if c.rsSinCos i then
          c.fld (F.RS_OFS_OSH i) == 0
            && imp (c.rsNeedsRef i) (c.flag (F.RS_NMOD_IXEN i) && qd < 8 && c.flag (F.QD_CFG_EN qd) && c.flag (F.QD_CFG_IDXEN qd))
        else c.fld (F.RS_NMOD_NMOD i) == 1 && ks % 2 ^ 40 == 0 && 21475 ≤ r && r ≤ 214748)
    && ((c.seqsOf n).any fun q => once q se && once q ce && c.instantsApart n q se ce ≤ 40)
    && c.fld (F.RS_WIN_AMIN i) < c.fld (F.RS_WIN_AMAX i) && c.fld (F.RS_QCTL_BADN i) != 0 && c.fld (F.RS_QCTL_GOODN i) != 0

def State.chkDecoder (c : State) (q : Nat) : Bool :=
  let nm := c.fld (F.QD_NMOD_NMOD q)
  c.qdConv q ≤ 4 && nm != 0 && c.qdKs q != 0 && !c.domOff (c.fld (F.QD_CFG_CDOM q))
    && c.fld (F.QD_NMOD_IDXEXP q) < nm && c.fld (F.QD_CMPV_CMPV q) < nm
    && imp (c.flag (F.QD_CMPC_AUTO q)) (c.fld (F.QD_CMPC_CMPSTEP q) != 0 && c.fld (F.QD_CMPC_CMPSTEP q) < nm)
    && imp (c.flag (F.QD_CMPC_CMPEN q)) (c.fld (F.QD_CMPV_CMPW q) != 0) && c.fld (F.QD_QCTL_ILLMAX q) != 0
    && imp (c.flag (F.QD_CFG_IDXEN q)) (c.fld (F.QD_IDXCFG_IMISS q) != 0)
    && imp (c.flag (F.QD_CFG_HREN q)) (c.flag (F.HL_CFG_EN (c.fld (F.QD_CFG_HSEL q))))
    && c.holdOk (8 + q) (c.fld (F.QD_TIME_QHOLD q))

def State.chkHall (c : State) (h : Nat) : Bool :=
  let sect (k : Nat) : Nat := bitsOf (c.fld (F.HL_CFG_HMAP h)) (3 * k) 3
  let used := ((List.range 8).map sect).filter (· != 7)
  c.hlConv h ≤ 4 && !c.domOff (c.fld (F.HL_CFG_CDOM h)) && !used.contains 6 && sect 0 == 7 && sect 7 == 7 && distinct used
    && c.fld (F.HL_QCTL_ABNMAX h) != 0 && c.holdOk (0x10 + h) (c.fld (F.HL_TIME_HHOLD h))

def State.chkPosition (c : State) : Bool :=
  [0, 1].all (fun i => imp (c.flag (F.RS_CFG_EN i)) (c.chkResolver i))
    && (List.range 8).all (fun q => imp (c.flag (F.QD_CFG_EN q)) (c.chkDecoder q))
    && (List.range 4).all (fun h => imp (c.flag (F.HL_CFG_EN h)) (c.chkHall h))

/-! ### DC/DC converter (R526) -/

def State.dcCellsOn (c : State) : List Nat := (List.range 6).filter fun k => c.flag (F.DC_CCFG_EN k)

/-- An entry of a sequence that a track of converter `k` starts. -/
def State.startedEnt (c : State) (m : Img) (k n j : Nat) : Bool := n < 6 && (c.entConvs m n j).contains k

/-- A comparator that exists and belongs to converter `k`. -/
def State.cmpOf (c : State) (k x : Nat) : Bool := x < 48 && c.cmpConv x == k

/-- The contexts whose output load writes every target of a list. -/
def State.loopsOf (c : State) (ts : List Nat) : List Nat :=
  c.ctxsOn.filter fun x => ts.all fun t => c.outsOf.any fun o => o.1 == x && o.2.1 == t && !o.2.2

/-- A track on domain `d` makes an output load of context `x` in each of its periods, of which a revolution has one at least, with every
schedule that it can run. -/
def State.loadsEvery (c : State) (m : Img) (d x : Nat) : Bool :=
  c.tracksOn.any fun t => c.trkDom t == d && (c.schedsOf m t).all fun i => (c.schedEntries i).any fun e => e.action == actOut && e.arg % 512 == x

/-- DEDUCED, unsafe (log entry 31). -/
def State.chkDcdc (c : State) (m : Img) : Bool :=
  let d := c.fld F.DC_CFG_DDOM
  let top := if c.isSlave d then c.fld (F.AD_CFG_MASTER d) else d
  let cells := c.dcCellsOn
  let ch (x : Nat) (mode : Nat) : Bool := x < 40 && c.pgMode x == mode && c.pgConv x == 2 && c.fld (F.PG_CFG_CDOM x) == d
  let th := [c.fld F.DC_TH12_TH1, c.fld F.DC_TH12_TH2, c.fld F.DC_TH34_TH3, c.fld F.DC_TH34_TH4, c.fld F.DC_TH5_TH5]
  !c.flag F.DC_CFG_EN || !c.domOff d && (c.fld (F.AD_CFG_KIND d) == 3 || c.isSlave d) && c.fld (F.AD_RMAX_RATE_MAX d) ≤ 10737418
    && imp (c.fld (F.AD_CFG_SRC top) == 0x20) (536871 ≤ c.fld (F.AD_RSET_HI_RSET_INT top)) && 1073742 ≤ c.fld F.DC_FMIN_FMINR
    && (cells.all fun k => ch (c.dcPri k) 1 && ch (c.dcSr k) 2 && c.flag (F.PG_LOAD_LDEN (c.dcPri k)) && !c.flag (F.PG_LOAD_LD2 (c.dcPri k))
      && c.fld (F.DC_CCFG_DEMODE k) != 3 && imp (c.fld (F.DC_CCFG_DEMODE k) != 0) (c.cmpOf 2 (c.fld (F.DC_CCFG_ZCMP k))))
    && distinct (cells.flatMap fun k => [c.dcPri k, c.dcSr k])
    && imp (c.flag F.DC_CFG_LSCEN) (c.cmpOf 2 (c.fld F.DC_CFG_LSCMP))
    && strictlyAscending th && c.fld F.DC_TH5_HYS ≤ th.headD 0 && c.fld F.DC_TIME_SHRAMP != 0 && c.fld F.DC_PHLIM_PHLIM ≤ 0x3FFFFFFF
    && c.flag (F.DC_VAR_VALID 0)
    && ((List.range 4).all fun v => imp (c.flag (F.DC_VAR_VALID v)) ((bitList (c.fld (F.DC_VAR_CELLEN v)) 6).all fun k => cells.contains k))
    && c.startedEnt m 2 (c.fld F.DC_MEAS_VOCONV) (c.fld F.DC_MEAS_VOENT) && c.startedEnt m 2 (c.fld F.DC_MEAS_VICONV) (c.fld F.DC_MEAS_VIENT)
    && (c.outsOf.any fun o => o.2.1 == Reg.DC_ITOT) && !(c.outsOf.any fun o => o.2.1 == Reg.DC_ITOT && o.2.2)
    && (c.outsOf.any fun o => o.2.1 == Reg.DC_VERR && o.2.2)
    && (cells.all fun k => (c.loopsOf [Reg.PG_SPHOFS (c.dcPri k), Reg.PG_SPHOFS (c.dcSr k)]).any fun x => c.loadsEvery m d x)

/-! ### Charger (R554) -/

/-- DEDUCED, unsafe (log entry 31). -/
def State.chkCharger (c : State) (m : Img) : Bool :=
  let md := c.fld F.CH_CFG_MDOM
  let k := c.fld (F.AD_CFG_KIND (c.fld F.CH_CFG_SDOM))
  let pfc := [0, 1, 2].map c.chPfcCh
  let chs := pfc ++ c.chDabChs
  let writes (a : Nat) : Bool := c.outAny 3 fun t _ => t == a
  !c.flag F.CH_CFG_EN || c.fld (F.AD_CFG_KIND md) == 2 && c.fld (F.AD_CFG_SRC md) == 0x40 && writes (0x010400 + 8 * md) && writes Reg.CH_VAMP
    && (k == 3 || k == 4)
    && (chs.all fun x => x < 40 && c.pgMode x == 1 && c.pgConv x == 3) && distinct chs
    && (pfc.all fun x => c.fld (F.PG_CFG_CDOM x) == c.fld (F.PG_CFG_CDOM (c.chPfcCh 0)))
    && c.flag (F.CH_VAR_VALID 0)
    && ((List.range 4).all fun v => imp (c.flag (F.CH_VAR_VALID v))
        (let md := c.fld (F.CH_VAR_PFCMODE v)
         md != 3 && imp (md == 1 || md == 2)
          (c.fld (F.CH_VAR_LEGA v) != c.fld (F.CH_VAR_LEGB v) && c.fld (F.CH_VAR_LEGA v) ≤ 2 && c.fld (F.CH_VAR_LEGB v) ≤ 2)))
    && c.fld F.CH_VBLIM_VBMIN < c.fld F.CH_VBLIM_VBOK && c.fld F.CH_VBLIM_VBOK ≤ c.fld F.CH_VBUS_VBUS
    && c.fld F.CH_VBUS_VBUS < c.fld F.CH_VBMAX_VBMAX && c.fld F.CH_VBMAX_VPRE != 0
    && c.fld F.CH_RAMP2_VBRAMP != 0 && c.fld F.CH_RAMP_ISLEW != 0 && c.fld F.CH_RAMP_IRAMP != 0 && c.fld F.CH_RAMP2_IDOWN != 0
    && c.fld F.CH_CP_CPDEB != 0 && c.fld F.CH_KAC_KAC != 0
    && c.fld F.CH_MAINS_FLO < c.fld F.CH_MAINS_FHI && c.fld F.CH_VAWIN_VAMIN < c.fld F.CH_VAWIN_VAMAX
    && ((bitList (c.fld F.CH_BTS_BTMASK) 4).all fun i => c.flag (F.TS_CFG_EN (bitsOf (c.fld F.CH_BTS_BTS) (4 * i) 4)))
    && decide (c.sfld F.CH_BTW_TBMIN + 2 * c.fld F.CH_BTH_TBHYS < c.sfld F.CH_BTW_TBMAX)
    && c.startedEnt m 3 (c.fld F.CH_CFG_VBCONV) (c.fld F.CH_CFG_VBENT)
    && c.oneLoop [Reg.CH_UA, Reg.CH_UB]

/-! ### Actuators (R594) -/

/-- Only the first row of R594 is limited to channels with `EN` = 1. DEDUCED, unsafe (log entry 31). -/
def State.chkActuator (c : State) (n : Nat) : Bool :=
  let ad := c.fld (F.AC_CFG_ADOM n)
  let k := c.fld (F.AD_CFG_KIND ad)
  let vs := [0, 1].filter fun v => c.flag (F.AC_VAR_VALID n v)
  let mode (v : Nat) : Nat := c.fld (F.AC_VAR_MODE n v)
  let mask (v : Nat) : Nat := c.fld (F.AC_VAR_LEGMASK n v)
  let legs (v : Nat) : Nat := (bitList (mask v) 3).length
  imp (c.flag (F.AC_CFG_EN n)) ((k == 3 || k == 4) && c.flag (F.AC_VAR_VALID n 0))
    && 500 ≤ c.fld (F.AC_DT_DCAP n) && c.fld (F.AC_DT_DCAP n) ≤ 1000 && 8 ≤ c.fld (F.AC_DT_ADT n) && c.fld (F.AC_DT_ADT n) ≤ 2000
    && 40 ≤ c.fld (F.AC_DT_REFT n)
    && (c.fld (F.AC_DT_REFT n) + 2 * c.fld (F.AC_DT_ADT n)) * c.fld (F.AD_RMAX_RATE_MAX ad) ≤ 2 ^ 31
    && 40 ≤ c.fld (F.AC_HS_AHSTMO n) && c.fld (F.AC_HS_AHSTMO n) ≤ 4000 && c.fld (F.AC_HS_AONTMO n) != 0 && c.fld (F.AC_HS_GMFILT n) ≤ 7
    && c.fld (F.AC_MON_BSPRE n) != 0
    && (vs.all fun v =>
      imp (mode v == 1 || mode v == 2) (mask v == 7) && imp (mode v == 3) (2 ≤ legs v) && imp (mode v != 0) (mask v != 0)
        && imp (mode v == 1) (c.fld (F.AD_CFG_KIND (c.fld (F.AC_CFG_RDOM n))) == 1 && c.oneLoop [Reg.AC_UA n, Reg.AC_UB n])
        && imp (mode v == 2) (c.flag (F.HL_CFG_EN (c.fld (F.AC_CFG_HSEL n))))
        && imp (2 ≤ mode v) ((c.outAny 4 fun a _ => a == Reg.AC_DUTY n) && !(c.outAny 4 fun a i => a == Reg.AC_DUTY n && i)))
    && ([0, 1].all fun v => imp (c.flag (F.AC_VAR_TWOLEG n v)) (mode v == 3 && legs v == 3))
    && imp (c.flag (F.AC_CFG_PLOCK n)) (vs.all fun v => mode v == 3)

def State.chkActuators (c : State) : Bool :=
  (List.range 4).all c.chkActuator
    && imp (c.flag F.AC_SUMP_SEN) (c.fld F.AC_SUMP_SOFF < c.fld F.AC_SUMP_SON && c.fld F.AC_SUMPT_SMAXON != 0)

end Sys2Proof.Machine
end

