-- ==== Sys2Proof/Machine/Link.lean ====
section
/-! DEFINITION. Axle Link (R696 to R721, and R722 in DEFAULTS): messages, the session, commands, status, events and requests. -/

namespace Sys2Proof.Machine

def State.modAl (s : State) (f : Al → Al) : State := { s with al := f s.al }
def State.raiseAl (s : State) (e : Ev.Src) : State := s.raise e axle 0

/-- The codes of `AL_STAT.SSTATE`. -/
def ssOff : Nat := 0
def ssAnnounce : Nat := 1
def ssOpen : Nat := 2
def ssHold : Nat := 3
def State.sess (s : State) : Nat := s.fld F.AL_STAT_SSTATE
/-- A session exists. -/
def State.sessOn (s : State) : Bool := s.sess == ssOpen || s.sess == ssHold
/-- A version as a number that orders versions by major, then by minor (R698). -/
def alVerNum (major minor : Nat) : Nat := 256 * major + minor
def State.alVer (s : State) : Nat := s.al.ver
/-- The code of a version in `AL_STAT.VER`: a minor version above 15 shows as 15. -/
def verField (v : Nat) : Nat := v / 256 % 16 * 16 + min 15 (v % 256)
/-- The version of a code with the major in [7:4] and the minor in [3:0]. -/
def verOfField (x : Nat) : Nat := alVerNum (x / 16) (x % 16)

/-- The message codes (R696). -/
def msgCmdTrac : Nat := 1
def msgStatTrac : Nat := 2
def msgCmdAux : Nat := 3
def msgStatAux : Nat := 4
def msgEvt : Nat := 5
def msgReq : Nat := 6
def msgRsp : Nat := 7
def msgSessReq : Nat := 8
def msgSessRsp : Nat := 9
def msgAnnounce : Nat := 0xE

/-- The transmit buffers that the safety controller uses. DESIGN CHOICE, unsafe (log entry 46). -/
def bufStatTrac : Nat := 0
def bufStatAux : Nat := 1
def bufEvt : Nat := 2
def bufRsp : Nat := 3
def bufSessRsp : Nat := 4
def bufAnnounce : Nat := 5
def bufBusy : Nat := 6

/-- The identifier of a message (R696). -/
def State.alId (s : State) (msg : Nat) : Nat := 0x100 * s.fld F.AL_CFG_ALIDB + 0x10 * msg + s.fld F.AL_CFG_NODE

/-- The controller of a path: 0 primary, 1 secondary. -/
def State.pathCtl (s : State) (p : Nat) : Option Nat :=
  if p == 0 then some (s.fld F.AL_CFG_PRI)
  else if s.fld F.AL_CFG_SEC < 4 then some (s.fld F.AL_CFG_SEC) else none
/-- The path of a controller. -/
def State.linkPath (s : State) (k : Nat) : Option Nat := [0, 1].find? fun p => s.pathCtl p == some k
/-- The controllers of both paths. -/
def State.pathCtls (s : State) : List Nat := [0, 1].filterMap s.pathCtl
def State.busOff (s : State) (k : Nat) : Bool := s.fld (F.CAN_STAT_CSTATE k) == canBusOff
/-- The path is in the session and not lost. -/
def F.alPath (p : Nat) : Fld := if p == 0 then F.AL_STAT_PPATH else F.AL_STAT_SPATH
/-- The controllers on which status and events go out (R710, R712). -/
def State.sendCtls (s : State) : List Nat := if s.flag F.AL_STAT_DUAL then s.pathCtls else [s.fld F.AL_STAT_APATH]

def State.alSend (s : State) (k b msg : Nat) (data : List Byte) : State := s.canRequest k b (s.alId msg) true false data

/-- Bytes padded with 0 to a length. -/
def padTo (n : Nat) (bs : List Byte) : List Byte := bs ++ List.replicate (n - bs.length) 0#8
def le16 (n : Nat) : List Byte := leBytes 2 n
def le32b (n : Nat) : List Byte := leBytes 4 n
def wordAt (bs : List Byte) (i : Nat) : Word := BitVec.ofNat 32 (leNat ((bs.drop i).take 4))
def halfAt (bs : List Byte) (i : Nat) : Nat := leNat ((bs.drop i).take 2)
def byteAt (bs : List Byte) (i : Nat) : Nat := (bs.getD i 0#8).toNat

/-! ### Commits of the safety controller (R707) -/

/-- Writes a field of a shadow copy. -/
def State.shadFld (s : State) (f : Fld) (v : Nat) : State := s.setShad f.addr (Word.put (s.shad f.addr) f.lsb f.width v)

/-- A shadow copy of the group differs from its active copy. -/
def State.groupDiffers (s : State) (g : Nat) : Bool := (groupRegs g).any fun a => s.shad a != s.reg a

/-- A commit on behalf of Axle Link: held back while an earlier one waits (R707). -/
def State.alCommit (s : State) (g : Nat) : State :=
  if s.commits.any fun c => c.group == g then s.modAl fun a => { a with deferred := insertNat g a.deferred }
  else if !s.groupDiffers g then s
  else
    let (r, s) := s.requestCommit g false
    s.when (r == cgRejected) (·.modAl fun a => { a with rej := true })

/-- The commits that were held back and may be requested now (R707). -/
def State.alDeferred (s : State) : State :=
  let ready := s.al.deferred.filter fun g => !s.commits.any fun c => c.group == g
  (s.modAl fun a => { a with deferred := a.deferred.filter fun g => !ready.contains g }).each ready State.alCommit

/-! ### The session -/

/-- The actions of a link loss, with what R721 does after them. -/
def State.lossActions (s : State) : State :=
  let s := s.each s.tcEnabled fun s t => (s.shadFld (F.TC_CMD_MODE t) 0).alCommit (0x07A + t)
  let s := s.when (s.flag F.CH_CFG_EN) fun s => (s.shadFld F.CH_CMD_CHG 0).alCommit 0x07D
  let s := s.each (bitList (s.fld F.AL_SOLOSS_SOLOSS) 8) fun s n => s.setFlag (F.SO_STAT_CMD n) false
  let s := ((s.setFlag F.AL_FLAG_LOSS true).incSat F.AL_CNT2_LOSS_CNT).raiseAl Ev.AL_LOSS
  let s := ((((s.unmark .announce 0).setFld F.AL_STAT_SSTATE ssAnnounce).setFlag F.AL_STAT_DUAL false).setFlag F.AL_STAT_PPATH false).setFlag F.AL_STAT_SPATH false
  ((s.setFld F.AL_STAT_VER 0).setFld F.AL_STAT_SID 0).modAl fun a => { a with evq := [], evOut := 0, ver := 0 }

/-- The active path of a single-mode session becomes the path of controller `k`; its timers start. -/
def State.takePath (s : State) (k : Nat) : State :=
  let s := s.setFld F.AL_STAT_APATH k
  let s := s.each [0, 1] fun s p => s.setFlag (F.alPath p) (s.pathCtl p == some k)
  s.modAl fun a => { a with lastAt := List.replicate 4 s.now }

/-- A session opens on controller `k` (R704). -/
def State.sessionOpen (s : State) (k ver sid : Nat) (dual : Bool) : State :=
  let s := (((s.setFld F.AL_STAT_SSTATE ssOpen).setFlag F.AL_STAT_DUAL dual).setFld F.AL_STAT_VER (verField ver)).setFld F.AL_STAT_SID sid
  let s := s.takePath k
  let s := s.when dual fun s => s.each [0, 1] fun s p => s.setFlag (F.alPath p) (((s.pathCtl p).map fun c => !s.busOff c).getD false)
  let s := s.modAl fun a => { a with alvT := none, alvA := none, evq := [], evSeq := 0, evLost := 0, evOut := 0, tok := none, rsp := [], fmtSeen := false, ver := ver }
  s.raiseAl Ev.AL_OPEN

/-- A version from its two bytes, minor first (R698). -/
def verCode (bs : List Byte) (i : Nat) : Nat := alVerNum (byteAt bs (i + 1)) (byteAt bs i)

/-- The highest version of the BX960 (R701). -/
def alMaxVer : Nat := alVerNum 2 3
def alMinVer : Nat := alVerNum 1 0

/-- The word of `LT_ICRC`: the check word of the image in force. -/
def State.icrc (s : State) : Nat := (s.reg Reg.LT_ICRC).toNat

/-- SESS_RSP (R701, R702). -/
def State.sessRsp (s : State) (k op res ver sid : Nat) (dual : Bool) : State :=
  s.alSend k bufSessRsp msgSessRsp
    (bytes [op, res + b2n dual * 128] ++ bytes [ver % 256, ver / 256] ++ le16 sid ++ bytes [s.sys, s.fld F.AL_CFG_NODE]
      ++ le32b (s.reg Reg.DEV_ID).toNat ++ le32b s.icrc)

/-- The oldest waiting message that `p` accepts, and the messages without it. -/
def takeMsg (p : AlMsg → Bool) : List AlMsg → Option AlMsg × List AlMsg
  | [] => (none, [])
  | m :: ms =>
    if p m then (some m, ms)
    else
      let (r, rest) := takeMsg p ms
      (r, m :: rest)

def State.alTake (s : State) (p : AlMsg → Bool) : Option AlMsg × State :=
  let (m, rest) := takeMsg p s.al.inbox
  (m, s.modAl fun a => { a with inbox := rest })

def isSess (op : Nat) (m : AlMsg) : Bool := m.msg == msgSessReq && byteAt m.data 0 == op
def isReq (op : Nat) (m : AlMsg) : Bool := m.msg == msgReq && byteAt m.data 1 == op

/-- An OPEN (R702 to R704). -/
def State.sessOpenReq (s : State) : State :=
  let (m, s) := s.alTake (isSess 1)
  match m with
  | none => s
  | some m =>
    let sid := halfAt m.data 6
    let v := min alMaxVer (verCode m.data 4)
    if s.sess == ssOff then s
    else if v < verCode m.data 2 || v < alMinVer || v < verOfField (s.fld F.AL_CFG_VMIN) then s.sessRsp m.ctl 1 1 0 sid false
    else
      let dual := byteAt m.data 1 == 1 && s.flag F.AL_CFG_DUALEN && (s.pathCtl 1).isSome && alVerNum 2 0 ≤ v
      let same := s.sessOn && sid == s.fld F.AL_STAT_SID && v == s.alVer
      if s.sess == ssOpen && same && (s.flag F.AL_STAT_DUAL || m.ctl == s.fld F.AL_STAT_APATH) then
        s.sessRsp m.ctl 1 0 v sid (s.flag F.AL_STAT_DUAL)
      else if same then
        let s := (s.setFld F.AL_STAT_SSTATE ssOpen).takePath m.ctl
        ((s.setFlag F.AL_FLAG_FAILOVER true).raiseAl Ev.AL_FAILOVER).sessRsp m.ctl 1 0 v sid false
      else
        let s := s.when s.sessOn State.lossActions
        (s.sessionOpen m.ctl v sid dual).sessRsp m.ctl 1 0 v sid dual

/-- A CLOSE (R705). -/
def State.sessCloseReq (s : State) : State :=
  let (m, s) := s.alTake (isSess 2)
  match m with
  | none => s
  | some m =>
    let sid := halfAt m.data 6
    if s.sess == ssOff then s
    else if s.sessOn && sid == s.fld F.AL_STAT_SID then
      let s := s.sessRsp m.ctl 2 0 s.alVer sid (s.flag F.AL_STAT_DUAL)
      s.lossActions.raiseAl Ev.AL_CLOSE
    else s.sessRsp m.ctl 2 3 0 sid false

/-- The session enters ANNOUNCE when the BX960 leaves TEST (R700). -/
def State.linkFollow (s : State) : State :=
  s.when (s.inForce && s.flag F.AL_CFG_EN && s.sess == ssOff) fun s =>
    (s.unmark .announce 0).setFld F.AL_STAT_SSTATE ssAnnounce

/-! ### Commands -/

/-- The places of a path's arrival cycles: CMD_TRAC, then CMD_AUX. -/
def arrIdx (p msg : Nat) : Nat := 2 * p + if msg == msgCmdAux then 1 else 0

/-- A valid command arrives (R718, R720). -/
def State.cmdArrives (s : State) (m : AlMsg) : State :=
  match s.linkPath m.ctl with
  | none => s
  | some p =>
    if s.sess != ssOpen then s
    else
      let rejoin := s.flag F.AL_STAT_DUAL && !s.flag (F.alPath p) && !s.busOff m.ctl
      let s := s.when rejoin fun s => (s.setFlag (F.alPath p) true).modAl fun a =>
        { a with lastAt := (a.lastAt.set (2 * p) s.now).set (2 * p + 1) s.now }
      s.modAl fun a => { a with lastAt := a.lastAt.set (arrIdx p m.msg) s.now }

/-- Whether a valid command is accepted (R706). -/
def State.cmdAccepted (s : State) (m : AlMsg) (last : Option Nat) : Bool :=
  s.sess == ssOpen && (s.linkPath m.ctl).isSome && (s.flag F.AL_STAT_DUAL || m.ctl == s.fld F.AL_STAT_APATH)
    && last != some (byteAt m.data 0)

/-- The fields of a traction block of CMD_TRAC (R699, R707, R708). -/
def State.tracBlock (s : State) (t : Nat) (b : List Byte) : State :=
  let v := s.alVer
  let s := s.shadFld (F.TC_CMD_MODE t) (byteAt b 0)
  let s := s.setShad (Reg.TC_TSET t) (wordAt b 4)
  let s := s.when (alVerNum 1 1 ≤ v) (·.setShad (Reg.TC_SSET t) (wordAt b 8))
  let s := (s.setShad (Reg.TC_TMOT t) (wordAt b 12)).setShad (Reg.TC_TGEN t) (wordAt b 16)
  let s := s.when (alVerNum 2 3 ≤ v) fun s => (s.setShad (Reg.TC_TRAMP t) (wordAt b 20)).setShad (Reg.TC_SRAMP t) (wordAt b 24)
  s.alCommit (0x07A + t)

/-- CMD_TRAC (R706 to R708). DEDUCED, unsafe (log entry 47). -/
def State.cmdTrac (s : State) : State :=
  let (m, s) := s.alTake fun m => m.msg == msgCmdTrac
  match m with
  | none => s
  | some m =>
    let s := s.cmdArrives m
    if !s.cmdAccepted m s.al.alvT then s
    else
      let s := (s.modAl fun a => { a with alvT := some (byteAt m.data 0) }).incSat F.AL_CNT_ACC_CNT
      s.each s.tcEnabled fun s t => s.tracBlock t ((m.data.drop (4 + 28 * t)).take 28)

/-- The generator of `PFT0` or `PFT1`, when it is used (R709). -/
def State.alGen (s : State) (i : Nat) : Option Nat :=
  let on := if i == 0 then s.flag F.AL_MAP_PF0EN else s.flag F.AL_MAP_PF1EN
  let g := if i == 0 then s.fld F.AL_MAP_PF0 else s.fld F.AL_MAP_PF1
  if on && s.flag (F.PF_CFG_EN g) then some g else none

/-- The fields of CMD_AUX (R699, R709). -/
def State.auxFields (s : State) (d : List Byte) : State :=
  let b1 := byteAt d 1
  let s := s.when (s.flag F.DC_CFG_EN) fun s =>
    let s := (s.shadFld F.DC_CMD_RUN (b1 % 2)).shadFld F.DC_CMD_VSET (halfAt d 4)
    (s.shadFld F.DC_ILIM_ILIM (halfAt d 6)).alCommit 0x07C
  let s := s.when (s.flag F.CH_CFG_EN) fun s =>
    let s := (s.shadFld F.CH_CMD_CHG (b1 / 2)).shadFld F.CH_CMD_PH1 (b1 / 4)
    ((s.shadFld F.CH_CMD_IMAXV (halfAt d 8)).setShad Reg.CH_IBAT (wordAt d 12)).alCommit 0x07D
  let s := s.each ((List.range 8).filter fun n => s.flag (F.SO_CFG_EN n)) fun s n => s.setFlag (F.SO_STAT_CMD n) (bitOf (byteAt d 2) n)
  if s.alVer < alVerNum 1 2 then s
  else
    let s := s.each [0, 1] fun s i =>
      match s.alGen i with
      | some g => (s.setShad (Reg.PF_TGT g) (wordAt d (16 + 4 * i))).alCommit (0x080 + g)
      | none => s
    s.each [0, 1, 2, 3] fun s i => s.write32 (xwAddr (s.fld F.AL_MAP_AXWB + i)) (wordAt d (24 + 4 * i))

/-- CMD_AUX (R706, R707, R709). -/
def State.cmdAux (s : State) : State :=
  let (m, s) := s.alTake fun m => m.msg == msgCmdAux
  match m with
  | none => s
  | some m =>
    let s := s.cmdArrives m
    if !s.cmdAccepted m s.al.alvA then s
    else ((s.modAl fun a => { a with alvA := some (byteAt m.data 0) }).incSat F.AL_CNT_ACC_CNT).auxFields m.data

/-! ### Status -/

/-- A block of STAT_TRAC (R710). -/
def State.statBlock (s : State) (t : Nat) : List Byte :=
  if !s.flag (F.TC_CFG_EN t) then List.replicate 28 0#8
  else
    let st := s.view (Reg.TC_STAT t)
    let flags := b2n (s.flag (F.TC_STAT_DERATE t)) + 2 * b2n (s.flag (F.TC_STAT_SETALW t)) + 4 * b2n (s.flag (F.TC_STAT_VLIMM t))
      + 8 * b2n (s.flag (F.TC_STAT_VLIMG t)) + 16 * Word.get st 25 1 + 32 * b2n (s.shortTrip t)
    let late := if alVerNum 2 1 ≤ s.alVer then le16 (s.fld (F.TC_TJ_TJ t)) ++ le16 (s.fld (F.TC_BUD_G t) / 2 ^ 9) else List.replicate 4 0#8
    bytes [s.fld (F.TC_STAT_STATE t), s.fld (F.FR_CVAR_VAR t), flags, s.fld (F.safeCmd t)]
      ++ le32b (s.reg (Reg.TC_TR t)).toNat ++ le32b (s.reg (Reg.TC_LT t)).toNat
      ++ le32b ((s.dom (s.tcRdom t)).rate.toNat / 2 ^ 8 % 2 ^ 32) ++ le32b (s.reg (Reg.TM_VDCU t)).toNat ++ late ++ List.replicate 4 0#8

/-- The bits of a list of Booleans, the first in bit 0. -/
def bitsOfList (l : List Bool) : Nat := l.foldr (fun b n => 2 * n + b2n b) 0

/-- The bytes of STAT_TRAC after `ALV`. -/
def State.statTracBody (s : State) : List Byte :=
  bytes [s.sys, b2n s.al.rej, s.fld F.SUP_STAT_SAGLVL] ++ s.statBlock 0 ++ s.statBlock 1 ++ List.replicate 4 0#8

/-- The bytes of STAT_AUX after `ALV`. -/
def State.statAuxBody (s : State) : List Byte :=
  let ft (i : Nat) (a : Nat → Nat) : List Byte :=
    le32b (((s.alGen i).map fun g => (s.reg (a g)).toNat).getD 0)
  let done (i : Nat) : Bool := ((s.alGen i).map fun g => s.flag (F.PF_STAT_DONE g)).getD false
  let eight (f : Nat → Bool) : Nat := bitsOfList ((List.range 8).map f)
  let ts := ((List.range 24).filter fun k => s.flag (F.TS_CFG_EN k)).foldl (fun m k => max m (s.fld (F.TS_VAL_TSTATE k))) 0
  bytes [s.fld F.DC_STAT_STATE + 4 * s.fld F.DC_STAT_VAR + 16 * s.fld F.DC_STAT_NSET,
      s.fld F.CH_STAT_STATE + 8 * s.fld F.CH_STAT_VAR, s.fld F.CH_STAT_CAUSE + 16 * s.fld F.CH_STAT_ATT,
      s.fld F.CH_CPSTAT_CPST + 16 * s.fld F.CH_PP_PPST, s.fld F.CH_STAT_TEMPOK + 2 * s.fld F.CH_FLAG_BTAPER]
    ++ le16 (s.fld F.CH_IAV_IAV) ++ le32b (code 32 (s.dc.vout.getD 0)) ++ le32b (s.reg Reg.DC_ITOT).toNat
    ++ bytes [(List.range 4).foldl (fun n i => n + s.fld (F.AC_STAT_STATE i) * 4 ^ i) 0, b2n (done 0) + 2 * b2n (done 1),
        eight fun n => s.flag (F.SO_STAT_ENRG n), eight fun n => s.flag (F.SO_STAT_FAULT n),
        eight fun n => s.flag (F.SI_CFG_EN n) && s.fld (F.SI_STAT_SISTATE n) != siRelease,
        eight fun n => s.flag (F.SI_CFG_EN n) && s.fld (F.SI_STAT_SISTATE n) == siFault]
    ++ le16 (s.fld F.SUP_STAT_VSYSV) ++ ft 0 Reg.PF_POS ++ ft 1 Reg.PF_POS ++ bytes [ts] ++ List.replicate 15 0#8

def State.alv (s : State) (i : Nat) : Nat := s.al.alvOut.getD i 0
def State.bumpAlv (s : State) (i : Nat) : State := s.modAl fun a => { a with alvOut := a.alvOut.set i ((a.alvOut.getD i 0 + 1) % 256) }

/-- STAT_TRAC and STAT_AUX, every `STATT` ms (R710). -/
def State.sendStatus (s : State) : State :=
  if s.sess != ssOpen || !s.past .status 0 (s.fld F.AL_TIME_STATT * cyclesPerMs) then s
  else
    let s := s.mark .status 0
    let t := bytes [s.alv 0] ++ s.statTracBody
    let x := bytes [s.alv 1] ++ s.statAuxBody
    let s := ((s.bumpAlv 0).bumpAlv 1).modAl fun a => { a with rej := false }
    s.each s.sendCtls fun s k =>
      let late := s.canPending k bufStatTrac || s.canPending k bufStatAux
      let s := s.when late fun s => ((s.canWithdraw k bufStatTrac false).canWithdraw k bufStatAux false).setFlag F.AL_FLAG_TXLATE true
      (s.alSend k bufStatTrac msgStatTrac t).alSend k bufStatAux msgStatAux x

/-! ### Events -/

/-- The capacity of the Axle Link event queue (R711). -/
def alQueueSize : Nat := 32

/-- An entry of the matrix FIFO passes the Axle Link queue (R711, R881). -/
def State.alEvent (s : State) (e : FifoEntry) : State :=
  if !s.sessOn || e.r.sev < s.fld F.AL_MAP_EVMIN then s
  else
    let seq := s.al.evSeq
    let s := s.modAl fun a => { a with evSeq := (seq + 1) % 65536 }
    if s.al.evq.length < alQueueSize then s.modAl fun a => { a with evq := a.evq ++ [⟨seq, e.r, e.tus⟩] }
    else
      let s := s.modAl fun a => { a with evLost := a.evLost + 1 }
      ((s.setFlag F.AL_FLAG_EVLOST true).incSat F.AL_CNT2_EVLOST_CNT).raiseAl Ev.AL_EVLOST

/-- An entry of EVT (R712). -/
def State.evtEntry (s : State) (e : AlEv) : List Byte :=
  let age := if alVerNum 2 1 ≤ s.alVer then min 0xFFFF ((s.now / cyclesPerUs - e.tus) / 1000) else 0
  le16 e.seq ++ le16 (e.r.src + 512 * e.r.sev) ++ bytes [e.r.lvl + 8 * e.r.conv] ++ le16 age

/-- EVT (R712): sent while no earlier one is pending, at most once per millisecond. DEDUCED, unsafe (log entry 47). -/
def State.sendEvt (s : State) : State :=
  let free := s.sendCtls.filter fun k => !s.canPending k bufEvt
  let soon := match s.al.evAt with
    | some c => decide (s.now < c + cyclesPerMs)
    | none => false
  if s.sess != ssOpen || s.al.evq == [] || soon || free == [] || (s.al.evOut != 0 && free.length != s.sendCtls.length) then s
  else
    let l := s.al.evq.take 4
    let body := padTo 32 (bytes [s.alv 2, l.length, min 255 s.al.evLost, 0] ++ l.flatMap s.evtEntry)
    let s := (s.bumpAlv 2).modAl fun a => { a with evOut := l.length, evLost := 0, evAt := some s.now }
    s.each free fun s k => s.alSend k bufEvt msgEvt body

/-- A frame of buffer `b` of controller `k` has been sent: the entries of the last EVT leave the queue when it is the first path that has sent
it (R712). -/
def State.alSent (s : State) (k b : Nat) : State :=
  s.when (b == bufEvt && s.al.evAt == some ((s.can k).reqAt.getD b 0)) (·.modAl fun a => { a with evq := a.evq.drop a.evOut, evOut := 0 })

/-! ### ANNOUNCE -/

/-- The bytes of ANNOUNCE (R701). -/
def State.announceBytes (s : State) (node : Nat) : List Byte :=
  bytes [s.fld F.LT_STAT_DEFAULTS_IN_USE + 2 * b2n (s.sess == ssHold), node, 0, 1, 3, 2, s.sys, (s.reg Reg.DEV_ID).toNat % 256]

/-- ANNOUNCE on each path that is not bus-off, on entry into the state and every `ANNT` ms (R701). -/
def State.sendAnnounce (s : State) : State :=
  if (s.sess != ssAnnounce && s.sess != ssHold) || !s.past .announce 0 (s.fld F.AL_TIME2_ANNT * cyclesPerMs) then s
  else (s.mark .announce 0).each (s.pathCtls.filter fun k => !s.busOff k) fun s k =>
    s.canRequest k bufAnnounce (s.alId msgAnnounce) false true (s.announceBytes (s.fld F.AL_CFG_NODE))

/-- ANNOUNCE in DEFAULTS, every 100 ms (R722). -/
def State.announceDefaults (s : State) : State :=
  if s.sys != sysDefaults || !s.past .announce 0 (100 * cyclesPerMs) then s
  else (s.mark .announce 0).canRequest 0 bufAnnounce 0x7E0 false true (s.announceBytes 0)

/-! ### Requests -/

/-- An answer: it is sent, and kept for a repeated token (R714). -/
def State.alRsp (s : State) (m : AlMsg) (res done : Nat) (data : List Byte) : State :=
  let bs := padTo 64 (bytes [byteAt m.data 0, byteAt m.data 1, res, done] ++ data)
  (s.modAl fun a => { a with tok := some (byteAt m.data 0), rsp := bs }).alSend m.ctl bufRsp msgRsp bs

/-- What every operation begins with (R713, R714): nothing outside OPEN, the busy answer, the repeated answer, and the checks of `COUNT`
and of the version. `f` carries the operation out.
DEDUCED, unsafe (log entry 47). -/
def State.alRequest (s : State) (m : AlMsg) (ver limit : Nat) (f : State → State) : State :=
  if s.sess != ssOpen then s
  else if s.pathCtls.any fun k => s.canPending k bufRsp then
    s.alSend m.ctl bufBusy msgRsp (padTo 64 (bytes [byteAt m.data 0, byteAt m.data 1, 5, 0]))
  else if s.al.tok == some (byteAt m.data 0) then s.alSend m.ctl bufRsp msgRsp s.al.rsp
  else if byteAt m.data 2 == 0 then s.alRsp m 0 0 []
  else if s.alVer < ver then s.alRsp m 2 0 []
  else if limit < byteAt m.data 2 then s.alRsp m 3 0 []
  else f s

/-- An operation that R713's table does not hold. -/
def State.alUnknown (s : State) (m : AlMsg) : State :=
  if s.sess == ssOpen && byteAt m.data 2 != 0 && s.al.tok != some (byteAt m.data 0) && !(s.pathCtls.any fun k => s.canPending k bufRsp)
  then s.alRsp m 1 0 [] else s.alRequest m 0 255 id

/-- The condition of step 8 of the operating states apart from the restart command (R43, R715). -/
def State.restartOk (s : State) : Bool :=
  s.sys == sysAxleSafe && !s.sc.axFault
    && (List.range 8).all fun n => !(s.flag (F.SI_CFG_EN n) && s.flag (F.SI_CFG_AXLE n)) || s.fld (F.SI_STAT_SISTATE n) == siRelease

/-- The return to READY: the axle's commands end, and the controllers' own requests decide again (R715). DEDUCED, unsafe (log entry 42). -/
def State.restartAxle (s : State) : State :=
  let s := (s.setFld F.SYS_STAT_SYS_STATE sysReady).modSc fun c => { c with axDemand := false }
  let s := s.suspAll (2 ≤ s.fld F.SUP_STAT_SAGLVL || s.sc.suspTab)
  let s := s.each [0, 1] fun s k => s.when (s.fld (F.FR_CVAR_CMDSRC k) == srcAxle) fun s =>
    (s.setFld (F.FR_CVAR_CMDSRC k) srcNone).modScConv k fun c => { c with cmdRank := 0 }
  s.ss1AtReady

/-- REQ operation RESTART (R715). -/
def State.reqRestart (s : State) : State :=
  let (m, s) := s.alTake (isReq 1)
  match m with
  | none => s
  | some m =>
    s.alRequest m alMinVer 1 fun s =>
      if byteAt m.data 4 != 0x5A then s.alRsp m 3 0 []
      else if s.restartOk then s.restartAxle.alRsp m 0 1 [] else s.alRsp m 4 0 []

/-- The converter and the item number of a REARM item, when it names a channel or a leg (R716). -/
def State.rearmItem (s : State) (x : Nat) : Option (Nat × Nat) :=
  if x < 40 then some (s.pgConv x, x) else if 0x40 ≤ x ∧ x < 0x4C then some (4, x - 0x40) else none

/-- REQ operation REARM (R631, R716). -/
def State.reqRearm (s : State) : State :=
  let (m, s) := s.alTake (isReq 2)
  match m with
  | none => s
  | some m =>
    s.alRequest m (alVerNum 2 2) 60 fun s =>
      let items := ((m.data.drop 4).take (byteAt m.data 2)).map BitVec.toNat
      if items.any fun x => (s.rearmItem x).isNone then s.alRsp m 3 0 []
      else
        let l := items.filterMap s.rearmItem
        let res := l.map fun p => if s.rearmOk p.1 p.2 then 0#8 else 4#8
        (s.each l fun s p => s.rearmNote p.1 p.2).alRsp m 0 items.length res

/-- REQ operation READREG (R717). DEDUCED, unsafe (log entry 47). -/
def State.reqReadreg (s : State) : State :=
  let (m, s) := s.alTake (isReq 3)
  match m with
  | none => s
  | some m =>
    s.alRequest m alMinVer 15 fun s =>
      let l := (List.range (byteAt m.data 2)).map fun i => leNat ((m.data.drop (4 + 4 * i)).take 3)
      if l.any fun a => !isReg a || isMem a then s.alRsp m 6 0 []
      else
        let data := l.flatMap fun a => le32b (s.view a).toNat
        (s.each l fun s a => s.afterRead a false).alRsp m 0 l.length data

/-! ### Reception -/

/-- The length of a message that the BX960 receives (R696). -/
def msgLen (msg : Nat) : Option Nat :=
  if msg == msgCmdTrac then some 64 else if msg == msgCmdAux then some 48
  else if msg == msgReq then some 64 else if msg == msgSessReq then some 16 else none

/-- The content checks of a message (R701, R708). -/
def State.msgOk (s : State) (msg : Nat) (d : List Byte) : Bool :=
  if msg == msgCmdTrac then
    [4, 32].all fun i => byteAt d i % 4 != 3 && !(byteAt d i % 4 == 2 && s.sessOn && s.alVer < alVerNum 1 1)
  else if msg == msgSessReq then byteAt d 0 == 1 || byteAt d 0 == 2
  else true

/-- An invalid message (R697). DEDUCED, unsafe (log entry 47). -/
def State.badFormat (s : State) : State :=
  let s := (s.setFlag F.AL_FLAG_FMT true).incSat F.AL_CNT_FMT_CNT
  s.when (s.sessOn && !s.al.fmtSeen) fun s => (s.modAl fun a => { a with fmtSeen := true }).raiseAl Ev.AL_FMT

/-- The safety controller reads a full receive buffer and clears its `FULL` (R691, R697, R733). -/
def State.rxRead (s : State) (k j : Nat) : State :=
  let a := canBuf k (8 + j)
  if !bitOf (s.fld (F.CAN_RXS_RXFULL k)) j then s
  else
    match s.readWords reqSafety a 18 with
    | (none, s) => s.scBusError
    | (some ws, s) =>
      let h := (ws.headD 0).toNat
      let id := (ws.getD 1 0).toNat
      let data := (ws.drop 2).flatMap fun w => [byteOf w 0, byteOf w 1, byteOf w 2, byteOf w 3]
      let s := (s.write32 a (BitVec.ofNat 32 (h % 2 ^ 31))).setBit (F.CAN_RXS_RXFULL k) j false
      if s.sess == ssOff || (s.linkPath k).isNone then s
      else
        match [msgCmdTrac, msgCmdAux, msgReq, msgSessReq].find? fun m => s.alId m == id with
        | none => s
        | some msg =>
          let len := (msgLen msg).getD 0
          let ok := !bitOf h 27 && bitOf h 30 && dlcLen true (bitsOf h 16 4) == len && s.msgOk msg data
          let m : AlMsg := ⟨k, msg, data.take len⟩
          if !ok then s.badFormat
          else if msg == msgReq && !([1, 2, 3].contains (byteAt data 1)) then s.alUnknown m
          else s.modAl fun x => { x with inbox := x.inbox ++ [m] }

/-! ### Loss of a path -/

/-- A path of the open session is lost (R718). -/
def State.pathLate (s : State) (p : Nat) : Bool :=
  let tmo := s.fld F.AL_TIME_CMDTMO * cyclesPerMs
  ((s.pathCtl p).map s.busOff).getD true || s.al.lastAt.getD (2 * p) 0 + tmo ≤ s.now || s.al.lastAt.getD (2 * p + 1) 0 + tmo ≤ s.now

/-- PATH_LOSS (R718 to R720). -/
def State.pathLoss (s : State) (p : Nat) : State :=
  if s.sess != ssOpen || !s.flag (F.alPath p) || !s.pathLate p then s
  else
    let s := s.setFlag (F.alPath p) false
    if s.flag F.AL_STAT_DUAL then
      let s := s.raiseAl Ev.AL_PATH
      if s.flag F.AL_STAT_PPATH || s.flag F.AL_STAT_SPATH then s else s.lossActions
    else
      let other := (s.pathCtl (1 - p)).map fun k => !s.busOff k
      if s.fld F.AL_TIME2_FOHOLD != 0 && other == some true then
        (((s.unmark .announce 0).setFld F.AL_STAT_SSTATE ssHold).modAl fun a => { a with holdAt := s.now }).raiseAl Ev.AL_PATH
      else s.lossActions

/-- `FOHOLD` ends without a resume (R719). -/
def State.holdEnd (s : State) : State :=
  if s.sess == ssHold && s.al.holdAt + s.fld F.AL_TIME2_FOHOLD * cyclesPerMs ≤ s.now then s.lossActions else s

end Sys2Proof.Machine
end

