-- ==== Sys2Proof/Machine/ImageChecks3.lean ====
section
/-! DEFINITION. The image checks of the chapters on containment, safety, the vehicle link, memory and Galleries, start-up and the service
port (R627, R635, R680, R724, R763, R780 to R793, R803, R810, R839), and the whole of check 10. -/

namespace Sys2Proof.Machine

/-! ### Comparators and the traction Sump (R635) -/

def State.chkComparator (c : State) (x : Nat) : Bool :=
  let i := c.fld (F.CMP_CFG_INPUT x)
  let act := c.cmpAct x
  let ch := c.fld (F.CMP_CFG_BLKCH x)
  let p := c.fld (F.CMP_CFG_PAIR x)
  let hi := c.cmpThr x (F.CMP_TH_THHI x)
  let lo := c.cmpThr x (F.CMP_TH_THLO x)
  i < 0x60 && !(i % 2 == 1 && c.flag (F.AIN_CFG_DIFF (i - 1)))
    && decide (lo < hi) && decide (2 * (c.fld (F.CMP_HB_HYS x) : Int) < hi - lo)
    && imp (act == 1 || act == 2 || c.flag (F.CMP_CFG_BLANK x)) (ch < 40 && c.flag (F.PG_CFG_EN ch) && c.pgConv ch == c.cmpConv x)
    && imp (act == 3) (c.cmpConv x < 2)
    && (p == 63 || (p < 48 && p != x && c.cmpEn p && c.fld (F.CMP_CFG_INPUT p) == i))

def State.chkSump (c : State) : Bool :=
  let p := c.fld F.PR_CFG_SPCMP
  let i := c.fld (F.CMP_CFG_INPUT p)
  imp (c.flag F.PR_CFG_SPEN)
    (p < 48 && c.cmpEn p && ((List.range 40).any fun x => c.flag (F.PG_CFG_EN x) && c.flag (F.PG_CFG_SUMP x))
      && c.fld F.PR_SUMPT_SPMAXON != 0
      && (List.range 48).all fun x => imp (c.cmpEn x && c.cmpAct x == 3 && c.fld (F.CMP_CFG_INPUT x) == i)
        (decide (c.cmpThr p (F.CMP_TH_THHI p) < c.cmpThr x (F.CMP_TH_THHI x))))

/-! ### Fault-reaction entries (R616 to R628, R635) -/

/-- The converters whose default an entry replaces (R628): its own, or for `CONV` 7 the axle and every converter that has no entry of its
own for the event. -/
def frCovers (l : List FrEntry) (f : FrEntry) : List Nat :=
  if f.conv != 7 then [f.conv] else axle :: (List.range 5).filter fun k => !l.any fun g => g.src == f.src && g.conv == k

/-- An image entry that must equal the default for the converter (R627). -/
def frFixed (src k : Nat) : Bool :=
  (0x110 ≤ src && src ≤ 0x12F) || src == Ev.PR_CONV.num && k < 5 || src == Ev.TC_HOLDESC.num && k < 2
    || src == Ev.DC_HOLDESC.num && k == 2 || src == Ev.CH_HOLDESC.num && k == 3 || src == Ev.EC_SCFAIL.num && k == axle

/-- The lowest rank that an image entry may give for a converter; the floor of `DL_RDERR` is not tested (R627, R628). -/
def frFloor (src k : Nat) : Nat :=
  if src == Ev.PR_SUMPF.num && k < 2 then 4
  else if src == Ev.AC_VMOV.num && k == 4 then 2
  else if src == Ev.AD_SRCSW.num && (k == 0 || k == 1 || k == 4) then 1
  else if frRemoveDefaults.any fun p => p.1 == src && p.2.contains k then 1
  else 0

/-- An entry meets R627 for one converter whose default it replaces. -/
def frMeets (f : FrEntry) (k : Nat) : Bool :=
  let d := { frDefault { src := f.src, sev := 0, lvl := 0, conv := k, inst := 0 } with conv := f.conv }
  if frFixed f.src k then f == d
  else if f.src == Ev.PR_OV.num && (k == 0 || k == 1 || k == 3) then f == { d with relt := f.relt, relmax := f.relmax }
  else frFloor f.src k ≤ frRank f.react

def chkFrt (m : Img) : Bool :=
  let l := m.frt.getD []
  (l.all fun f =>
    (evSources.any fun e => e.num == f.src) && f.react ≤ 8 && (f.conv < 5 || f.conv == 7)
      && imp (frRank f.react == 1) (2 ≤ frRank f.sec)
      && ((frCovers l f).all fun k => frMeets f k)
      && imp (f.react == frVariant) (((frCovers l f).filter (· < 5)).all fun k => (m.variants k).any fun v => v.num == f.arg)
      && imp (f.react == frFlag) (f.arg ≤ 3)
      && imp f.pleng (4 ≤ frRank f.react)
      && imp (f.relt != 0 || f.relmax != 0) (f.react == frHold))
    && distinct (l.map fun f => (f.src, f.conv))

/-! ### Variants and units (R620, R635, R810) -/

/-- The units of a variant agree with the block variants that it names, for the blocks that the image enables. -/
def State.unitsAgree (c : State) (v : CVar) : Bool :=
  let b := v.bvar
  if v.conv < 2 then
    imp (c.flag (F.TC_CFG_EN v.conv)) (b < 4 && c.flag (F.TC_VBS_VALID v.conv b) && v.units % 4 == c.fld (F.TC_VBS_SETEN v.conv b))
  else if v.conv == 2 then imp (c.flag F.DC_CFG_EN) (b < 4 && c.flag (F.DC_VAR_VALID b) && v.units % 64 == c.fld (F.DC_VAR_CELLEN b))
  else if v.conv == 3 then
    imp (c.flag F.CH_CFG_EN) (b < 4 && c.flag (F.CH_VAR_VALID b) && (List.range 3).all fun i => bitOf v.units i == (c.chLegs b).contains i)
  else
    (List.range 4).all fun n =>
      let w := if bitOf b n then 1 else 0
      imp (c.flag (F.AC_CFG_EN n)) (c.flag (F.AC_VAR_VALID n w) && bitsOf v.units (3 * n) 3 == c.fld (F.AC_VAR_LEGMASK n w))

/-- The converter of a resource of the unit map, where the image gives it one (R619). -/
def State.resourceOk (c : State) (m : Img) (u : UnitRow) : Bool :=
  if u.kind == 0 then imp (c.flag (F.PG_CFG_EN u.index)) (c.pgConv u.index == u.conv)
  else if u.kind == 1 then u.conv == 4
  else if u.kind == 2 || u.kind == 4 then ownedBy (c.adcOwners m u.index) u.conv
  else if u.kind == 3 then imp (bitOf (c.ctxWord u.index 0).toNat 31) (c.ctxConv u.index == u.conv)
  else if u.kind == 5 then
    (if u.index < 3 then imp (c.flag (F.RS_CFG_EN (u.index - 1))) (c.fld (F.RS_CFG_CONV (u.index - 1)) == u.conv)
     else if u.index < 0x10 then imp (c.flag (F.QD_CFG_EN (u.index - 8))) (c.qdConv (u.index - 8) == u.conv)
     else imp (c.flag (F.HL_CFG_EN (u.index - 0x10))) (c.hlConv (u.index - 0x10) == u.conv))
  else if u.kind == 6 then imp (c.cmpEn u.index) (c.cmpConv u.index == u.conv)
  else
    let n := u.index / 8
    let d := u.index % 8
    imp (c.flag (F.GL_DMAP_DEN n d)) (c.pgConv (c.fld (F.GL_DMAP_CH n d)) == u.conv)

/-- A resource of a converter has a unit. -/
def Img.hasUnit (m : Img) (k kind i : Nat) : Bool := (m.units.getD []).any fun u => u.conv == k && u.kind == kind && u.index == i

/-- Every channel, actuator leg and fitter that a converter with several variants uses has a unit. -/
def State.chkUnitsOf (c : State) (m : Img) (k : Nat) : Bool :=
  imp (1 < (m.variants k).length)
    (((List.range 40).all fun x => imp (c.flag (F.PG_CFG_EN x) && c.pgConv x == k) (m.hasUnit k 0 x))
      && ((List.range 6).all fun f => imp (c.flag (F.FIT_CFG_EN f) && (c.adcOwners m f).contains k) (m.hasUnit k 2 f))
      && imp (k == 4) ((List.range 4).all fun n => imp (c.flag (F.AC_CFG_EN n)) ([0, 1].all fun v =>
          imp (c.flag (F.AC_VAR_VALID n v)) ((bitList (c.fld (F.AC_VAR_LEGMASK n v)) 3).all fun j => m.hasUnit k 1 (3 * n + j)))))

def State.chkVariants (c : State) (m : Img) : Bool :=
  let nd := (m.sched.getD ([], [])).1.length
  let hand := m.hand.getD []
  let all := m.cvars.getD []
  ((List.range 5).all fun k =>
    let vs := m.variants k
    (vs.any fun v => v.num == 0) && distinct (vs.map fun v => (v.units, v.flags)) && distinct (vs.map fun v => v.num) && c.chkUnitsOf m k)
    && (all.all fun p => imp p.1 (c.unitsAgree p.2))
    && ((m.units.getD []).all fun u => c.resourceOk m u) && distinct ((m.units.getD []).map fun u => (u.kind, u.index))
    && distinct (hand.map fun h => (h.conv, h.kind, h.cvn))
    && ([0, 1].all fun k => imp (c.tmEnabled k && c.slots k != [])
        ((hand.any fun h => h.conv == k && h.kind == 1 && h.cvn == 0) && hand.any fun h => h.conv == k && h.kind == 2 && h.cvn == 0))
    && (((all.flatMap fun p => p.2.trks.map fun q => (p.2.conv, q)) ++ hand.flatMap fun h => h.trks.map fun q => (h.conv, q)).all fun p =>
        p.2.1 < 32 && c.trkConv p.2.1 == p.1 && p.2.2 < nd)

def State.chkContainment (c : State) (m : Img) : Bool :=
  ((List.range 48).all fun x => imp (c.cmpEn x) (c.chkComparator x)) && c.chkSump && chkFrt m && c.chkVariants m

/-! ### Safety functions, temperature and supply (R680) -/

/-- DEDUCED, unsafe (log entry 31). -/
def State.chkTemp (c : State) (k : Nat) : Bool :=
  let mode := c.fld (F.TS_CFG_MODE k)
  let v := c.fld (F.TS_CFG_CONV k)
  mode != 3 && (v < 5 || v == 7) && (if k < 16 then mode != 2 else mode == 2) && c.fld (F.TS_CFG_TAGREE k) != 0
    && decide (c.sfld (F.TS_THA_TW k) < c.sfld (F.TS_THA_TT k)) && decide (c.sfld (F.TS_THA_TT k) < c.sfld (F.TS_THB_TSH k))
    && c.fld (F.TS_THB_HYS k) != 0

/-- A pair has a function, in use or not (R680). DEDUCED, unsafe (log entry 31). -/
def State.hasFunc (c : State) (fn : Nat) : Bool := (List.range 8).any fun n => c.fld (F.SI_CFG_FUNC n) == fn

def State.chkSafety (c : State) : Bool :=
  ((List.range 8).all fun n => imp (c.flag (F.SI_CFG_EN n))
      (c.fld (F.SI_CFG_FUNC n) < 5 && c.fld (F.SI_CFG_SFILT n) != 0 && 1 ≤ c.fld (F.SI_CFG_DISC n) && c.fld (F.SI_CFG_DISC n) ≤ 500))
    && ((List.range 8).all fun n => imp (c.flag (F.SO_CFG_EN n))
      (10 ≤ c.fld (F.SO_TIME_TPER n) && c.fld (F.SO_TIME_TPER n) ≤ 1000 && 50 ≤ c.fld (F.SO_TIME_TPW n) && c.fld (F.SO_TIME_TPW n) ≤ 500
        && c.fld (F.SO_TIME_TRB n) + c.fld (F.SO_TIME_TPW n) < 1000 * c.fld (F.SO_TIME_TPER n)))
    && imp (c.hasFunc fnSs1) (c.fld F.SF_SS1_SS1R != 0 && c.fld F.SF_SS1_SS1R ≤ c.fld F.SF_SS1_SS1T)
    && imp (c.hasFunc fnSls) (c.fld F.SF_SLS_SLSLIM != 0 && c.fld F.SF_SLS_SLST != 0)
    && ((List.range 24).all fun k => imp (c.flag (F.TS_CFG_EN k)) (c.chkTemp k))
    && decide (c.sfld F.TS_NVM_NVMTMIN < c.sfld F.TS_NVM_NVMTMAX)
    && c.fld F.TS_LINB_LINB % 8 == 0 && c.fld F.TS_LINB_LINB + 4 * 66 ≤ bankSize
    && strictlyAscending [c.fld F.SUP_L5_L5, c.fld F.SUP_L34_L4, c.fld F.SUP_L34_L3, c.fld F.SUP_L12_L2, c.fld F.SUP_L12_L1]
    && c.fld F.SUP_SAGT_SAGF != 0 && c.fld F.SUP_SAGT_SAGRAMP != 0

/-! ### Vehicle link (R724) -/

def State.chkCan (c : State) (k : Nat) : Bool :=
  let t1 := c.fld (F.CAN_NBT_NTSEG1 k)
  let t2 := c.fld (F.CAN_NBT_NTSEG2 k)
  let j := c.fld (F.CAN_NBT_NSJW k)
  let b := c.fld (F.CAN_NBT_NBRP k)
  let u1 := c.fld (F.CAN_DBT_DTSEG1 k)
  let u2 := c.fld (F.CAN_DBT_DTSEG2 k)
  let dj := c.fld (F.CAN_DBT_DSJW k)
  let db := c.fld (F.CAN_DBT_DBRP k)
  let fd := c.flag (F.CAN_CFG_FDOE k)
  1 ≤ b && b ≤ 32 && 2 ≤ t1 && 1 ≤ t2 && t2 ≤ 127 && 1 ≤ j && j ≤ min t1 t2 && 80 ≤ b * (1 + t1 + t2)
    && imp fd (1 ≤ db && db ≤ 8 && 2 ≤ u1 && u1 ≤ 31 && 1 ≤ u2 && u2 ≤ 16 && 1 ≤ dj && dj ≤ min u1 u2 && 10 ≤ db * (1 + u1 + u2))
    && imp (c.flag (F.CAN_CFG_BRSE k)) fd && imp (c.flag (F.CAN_TDC_TDCE k)) (db ≤ 2)

/-- A base frame with an Axle Link message code for node `n`. -/
def State.alFrame (c : State) (msg n : Nat) (fd : Bool) : CanFrame :=
  { ide := false, fdf := fd, brs := false, esi := false, rtr := false, res := false, id := 0x100 * c.fld F.AL_CFG_ALIDB + 0x10 * msg + n, dlc := 0, data := [] }

/-- A path of Axle Link stores the messages that the vehicle controller sends to the node, and none that the BX960 sends.
DEDUCED, unsafe (log entry 31). -/
def State.chkPath (c : State) (k : Nat) : Bool :=
  let stores (f : CanFrame) : Bool := (List.range 16).any fun j => c.canMatch k j f
  k < 4 && c.flag (F.CAN_CFG_EN k) && c.flag (F.CAN_CFG_FDOE k)
    && ([msgCmdTrac, msgCmdAux, msgReq, msgSessReq].all fun g => stores (c.alFrame g (c.fld F.AL_CFG_NODE) true))
    && (List.range 16).all fun n => !(stores (c.alFrame msgAnnounce n false)
        || [2, 4, 5, 7, 9].any fun g => stores (c.alFrame g n true))

/-- DEDUCED, unsafe (log entry 31). -/
def State.chkAxleLink (c : State) : Bool :=
  let pri := c.fld F.AL_CFG_PRI
  let sec := c.fld F.AL_CFG_SEC
  let vm := c.fld F.AL_CFG_VMIN
  let w := c.fld F.AL_MAP_AXWB
  c.chkPath pri && (sec == 4 || (c.chkPath sec && sec != pri)) && imp (c.flag F.AL_CFG_DUALEN) (sec != 4)
    && alMinVer ≤ verOfField vm && verOfField vm ≤ alMaxVer && c.fld F.AL_TIME_CMDTMO != 0 && c.fld F.AL_TIME_STATT != 0
    && c.fld F.AL_TIME_STATT < c.fld F.AL_TIME_CMDTMO && c.fld F.AL_TIME2_ANNT != 0
    && imp (c.flag F.AL_MAP_PF0EN) (c.flag (F.PF_CFG_EN (c.fld F.AL_MAP_PF0))) && imp (c.flag F.AL_MAP_PF1EN) (c.flag (F.PF_CFG_EN (c.fld F.AL_MAP_PF1)))
    && w ≤ 508 && c.xwFree w 4
    && (bitList (c.fld F.AL_SOLOSS_SOLOSS) 8).all fun n => c.flag (F.SO_CFG_EN n)

def State.chkLink (c : State) : Bool :=
  ((List.range 4).all fun k => imp (c.flag (F.CAN_CFG_EN k)) (c.chkCan k)) && imp (c.flag F.AL_CFG_EN) c.chkAxleLink

/-! ### Memory and Galleries (R763, R839) -/

/-- The storage of a Gallery: first byte and the byte after the last. -/
def State.gqSpan (c : State) (g : Nat) : Nat × Nat :=
  let b := (if g == 0 then evBase else queueBase) + c.fld (F.GQ_BASE_BASE g)
  (b, b + 9 * c.gqSlots g)

def State.chkGalleries (c : State) : Bool :=
  let on := (List.range 64).filter fun g => c.flag (F.GQ_CFG_EN g)
  (on.all fun g =>
    let r := c.gqSpan g
    2 ≤ c.gqSlots g && c.fld (F.GQ_BASE_BASE g) % 8 == 0
      && (if g == 0 then c.gqConv g == 7 && r.2 ≤ snapAddr 0 else c.gqConv g < 5 && r.2 ≤ 0x87FFC0)
      && on.all fun h => g == h || r.2 ≤ (c.gqSpan h).1 || (c.gqSpan h).2 ≤ r.1)
    && c.flag (F.GQ_CFG_EN 0)

def State.chkMemory (c : State) : Bool :=
  let d := c.fld F.MP_CTRL_SCRUBDIV
  (d == 0 || 16 ≤ d) && c.chkGalleries

/-- The trace recorder (R839). -/
def State.chkTrace (c : State) : Bool :=
  let n := c.fld F.TR_CFG_NCH
  imp (c.flag F.TR_CFG_EN)
    (1 ≤ n && n ≤ 8 && !c.domOff (c.fld F.TR_CFG_TDOM) && c.fld F.TR_CNT_PRE + c.fld F.TR_CNT_POST ≤ 1535
      && ((List.range n).all fun j =>
        let a := c.fld (F.TR_ADDR_TADDR j)
        isReg a && !(List.range 64).any fun g => a == Reg.GQ_POPTAG g))
    && (evSources.any fun e => e.num == c.fld F.TR_TRIG_TSRC)
    && c.fld F.TR_TRIG_TCONV != 5 && c.fld F.TR_TRIG_TCONV != 6

/-! ### Sections (R780 to R793, R803, R810) -/

/-- The occurrence and the instance of every section (R780). -/
def Img.chkSections (m : Img) : Bool :=
  let once (t k : Nat) : Bool := ((m.of t).filter fun x => x.inst == k).length ≤ 1
  m.secs.all fun x =>
    x.typ == 0xF || (if x.typ == 7 then x.inst < 5 && once 7 x.inst
      else x.inst == 0 && imp (x.typ == 4 || x.typ == 5 || x.typ == 6 || x.typ == 9) (once x.typ 0)
        && imp (x.typ == 8) (once 8 0))

/-- A register write of the image (R782). -/
def regWriteOk (p : Nat × Word) : Bool :=
  match regRow p.1 with
  | none => false
  | some r => r.imgMask != 0 && Nat.land (Nat.xor p.2.toNat r.reset) (0xFFFFFFFF - r.imgMask) == 0

/-- No two spans of bytes of a list share a byte. -/
def spansApart : List (Nat × Nat) → Bool
  | [] => true
  | x :: l => (l.all fun y => x.2 == 0 || y.2 == 0 || x.1 + x.2 ≤ y.1 || y.1 + y.2 ≤ x.1) && spansApart l

/-- The records of every section are in range, and no two write one bit or byte (R781 to R793). -/
def Img.chkRecords (m : Img) : Bool :=
  match m.regWrites, m.tableWrites 2, m.tableWrites 0xA, m.ctxWrites, m.sched with
  | some rg, some tb, some wk, some cx, some _ =>
    rg.all regWriteOk && distinct (rg.map Prod.fst)
      && (tb.all fun p =>
        let e := p.1 + p.2.length
        e ≤ bankSize && (e ≤ schedDesc || schedEnd ≤ p.1) && (e ≤ 0x1FEFC0 || 0x1FF000 ≤ p.1))
      && spansApart (tb.map fun p => (p.1, p.2.length))
      && (wk.all fun p => 0x7E0000 ≤ p.1 && p.1 + p.2.length ≤ 0x7E0800) && spansApart (wk.map fun p => (p.1, p.2.length))
      && distinct (cx.map Prod.fst) && (cx.all fun p => bitOf (u32 p.2 0) 31)
      && m.glDrv.isSome && m.frt.isSome && m.cvars.isSome && m.units.isSome && m.hand.isSome
      && distinct ((m.glDrv.getD []).map fun g => (g.1, g.2.1))
  | _, _, _, _, _ => false

/-! ### Check 10 -/

/-- The registers and the SRAM as the image would leave them. -/
def Img.candidate (m : Img) : State := ((State.reset.loadRegs m).loadTables m).loadContexts m fun _ => true

/-- The image checks of every chapter (check 10 of R777). -/
def Img.valid (m : Img) (es : Nat) : Bool :=
  m.chkSections && m.chkRecords && (m.flsize == 0 || 2 * es ≤ m.flsize)
    && (let c := m.candidate
        c.chkDomains && c.chkTracks && c.chkSchedules m && c.chkOwners m && c.chkConversion m && c.chkCapture m && c.chkEngines m && c.chkPhases m
          && c.chkPower m && c.chkModulation m && c.chkTraction && c.chkPosition && c.chkDcdc m && c.chkCharger m && c.chkActuators
          && c.chkContainment m && c.chkSafety && c.chkLink && c.chkMemory && c.chkTrace)

end Sys2Proof.Machine
end

