-- ==== Sys2Proof/Machine/Startup.lean ====
section
/-! DEFINITION. Reset, the reset sequencer and Lantern: LOAD, TEST, the factory defaults, the fault log and the OTP (R32, R33, R62,
R125, R296 to R298, R370, R417, R602, R605, R626, R659, R740 to R742, R764 to R771, R797 to R808, R833, R843, R848, R879). -/

namespace Sys2Proof.Machine

def State.modLt (s : State) (f : Lt → Lt) : State := { s with lt := f s.lt }

/-! ### Reset -/

/-- The causes of `SYS_STAT.RSTC`. -/
def rstPower : Nat := 0
def rstPin : Nat := 1
def rstSys : Nat := 2

/-- Reset is asserted (step 1 of the operating states): every register, buffer and memory takes its reset value. The OTP, the flash, the
voltages of the rails and the waiting commands stay; `RSTC` records the cause, and the bank classes stay unless the reset is a power-on one (R848).
DESIGN CHOICE, unsafe (log entry 7). DESIGN CHOICE, unsafe (log entry 8). DEDUCED, safe (log entry 52). -/
def State.enterReset (s : State) (cause : Nat) : State :=
  let por := cause == rstPower || (s.lt.held && s.lt.por)
  let r : State := { State.reset with
    freeCtr := s.freeCtr, pending := s.pending, rails := s.rails
    lt := { Lt.reset with held := true, por := por, region := s.lt.region, key := s.lt.key, frelDis := s.lt.frelDis, fmt2Dis := s.lt.fmt2Dis
                          factory := s.lt.factory && !por } }
  let r := r.setFld F.SYS_STAT_RSTC (if por then rstPower else cause)
  let r := ((r.setFlag F.OTP_STAT_KEYF s.lt.key.isSome).setFlag F.OTP_STAT_FRELDIS s.lt.frelDis).setFlag F.OTP_STAT_FMT2DIS s.lt.fmt2Dis
  if por then r else r.setReg Reg.IO_STAT (s.reg Reg.IO_STAT)

/-- The class of a bank from its voltage, in 10 mV (R848); `none` while the hold continues, which it also does below the power-on threshold of
the class (R847, R849). DESIGN CHOICE, unsafe (log entry 61). -/
def bankClass (v : Nat) : Option Nat := if 280 ≤ v then some 0 else if 150 ≤ v && v ≤ 220 then some 1 else none

/-- The rails whose class is fixed lie above their power-on thresholds (R847). -/
def State.railsUp (s : State) : Bool := [0, 1, 3].all fun i => s.railMin i ≤ s.railV i

/-- The hold of reset ends: cycles count from here (R102). At the end of a power-on hold the banks `VDD_IO_A` and `VDD_IO_C`, whose voltages are
the operands, are classed and `TMODE` is read (R843, R847, R848).
DESIGN CHOICE, unsafe (log entry 61). -/
def State.resetRelease (s : State) (tmode : Bool) (vioA vioC : Nat) : State :=
  if !s.lt.held then s
  else
    let go (s : State) : State :=
      let s : State := { s with now := 0, lt := { s.lt with held := false }, rails := s.rails.map fun r => { r with out := none, done := false } }
      s.each (List.range 6) fun s i => s.railTo i (s.railV i)
    if !s.lt.por then go s
    else
      match bankClass vioA, bankClass vioC with
      | some a, some c =>
        if !s.railsUp then s
        else
          let s := (s.setFld F.IO_STAT_CLSA a).setFld F.IO_STAT_CLSC c
          (go ((s.railTo 2 vioA).railTo 4 vioC)).modLt fun l => { l with por := false, factory := tmode }
      | _, _ => s

/-- The voltage of a rail becomes `v`, in 10 mV; below its power-on threshold the monitor holds the BX960 in RESET (R671). -/
def State.railChange (s : State) (i v : Nat) : State :=
  let s := s.railTo i v
  s.when (v < s.railMin i) (·.enterReset rstPower)

/-- `FL_RST_N` is deasserted 20 µs after reset release (R764). -/
def State.flashResetRelease (s : State) : State :=
  s.when (!s.lt.held && !s.lt.factory && 20 * cyclesPerUs ≤ s.now) (·.modLt fun l => { l with flRst := false })

/-- `LT_STAT.STEP` reaches a step. DEDUCED, unsafe (log entry 54). -/
def State.lanternStep (s : State) (n : Nat) : State := s.when (s.fld F.LT_STAT_STEP < n) (·.setFld F.LT_STAT_STEP n)

/-! ### Factory defaults -/

/-- The supply thresholds and times of DEFAULTS, by register, as their fields' defaults form them. -/
def supDefaults : List (Nat × Nat) :=
  [(Reg.SUP_L12, 0x070806A4), (Reg.SUP_L34, 0x064005AA), (Reg.SUP_L5, 0x04B00064), (Reg.SUP_SAGT, 0x0A064064)]

/-- An on-die temperature channel with its defaults (R799). -/
def State.dieDefaults (s : State) (k : Nat) : State :=
  let s := (((s.setFlag (F.TS_CFG_EN k) true).setFld (F.TS_CFG_MODE k) 2).setFld (F.TS_CFG_TAGREE k) 32).setFld (F.TS_CFG_DG k) 5243
  (s.setFld (F.TS_THB_TSH k) dieTsh).setFld (F.TS_THB_HYS k) 80

/-- `GQ_00` in DEFAULTS (R833). -/
def State.logDefaults (s : State) : State :=
  let s := ((s.setFlag (F.GQ_CFG_EN 0) true).setFlag (F.GQ_CFG_OVW 0) true).setFld (F.GQ_CFG_CONV 0) axle
  ((s.setFld (F.GQ_CFG_IW 0) 3).setFld (F.GQ_CFG_NSLOT 0) 8192).setFld (F.GQ_BASE_BASE 0) 0

/-- Both slots have failed: the BX960 enters DEFAULTS (R797, R799). -/
def State.enterDefaults (s : State) : State :=
  let s := (s.setFld F.SYS_STAT_SYS_STATE sysDefaults).setFlag F.LT_STAT_DEFAULTS_IN_USE true
  let s := (s.setFld F.MP_CTRL_SCRUBDIV 256).logDefaults
  let s := s.each ((List.range 8).map (16 + ·)) State.dieDefaults
  let s := s.each supDefaults fun s p => s.setReg p.1 (BitVec.ofNat 32 p.2)
  s.raise Ev.LT_DEFAULTS axle 0

/-! ### LOAD -/

/-- The OTP trim gives the slice coefficients of every converter (step 2 of R765): one value for each of the three coefficients of the
four slices of the six converters, in that order. -/
def State.loadTrim (s : State) (trim : List Nat) : State :=
  let fs := (List.range 6).flatMap fun n => (List.range 4).flatMap fun i => (s.coeffs n i).map fun c => c.1
  s.each (fs.zip trim) fun s p => s.setFld p.1 p.2

/-- The SFDP structure is valid (R770). -/
def sfdpSignature : Nat := 0x50444653
def sfdpValid (d : Sfdp) : Bool := d.sig == sfdpSignature && d.revB && 16 ≤ d.dwords
/-- The flash mode that Lantern takes, by its code in `LT_STAT.FMODE` (R771). -/
def sfdpMode (d : Sfdp) : Nat := if d.xspi then 3 else if d.fast144 then 2 else 1

/-- Flash discovery ends; without a valid structure both slots fail with cause 1 (R769 to R771). -/
def State.discover (s : State) (d : Sfdp) : State :=
  let s := (s.lanternStep 0x13).modLt fun l => { l with disc := none }
  if sfdpValid d then
    let s := (s.setFld F.LT_STAT_FMODE (sfdpMode d)).setFlag F.LT_STAT_ADDR4 (decide (24 < d.dlog))
    let s := (s.setFld F.LT_FLASH_DLOG d.dlog).setFld F.LT_FLASH_ESLOG d.eslog
    s.modLt fun l => { l with found := true, dsize := 2 ^ d.dlog, es := 2 ^ d.eslog }
  else ((s.setFld F.LT_FAIL_CAUSEA 1).setFld F.LT_FAIL_CAUSEB 1).enterDefaults

/-- The cycles of a bit in 1-1-1 mode at 25 MHz (R769). -/
def flBit : Nat := 16

/-- A command of discovery: its start and its end in cycles from the start of discovery, its code, its address bytes and its dummy cycles. -/
structure FlCmd where
  from_ : Nat
  to_   : Nat
  op    : Nat
  abyte : Nat
  dummy : Nat
  deriving DecidableEq, Repr

/-- The commands of discovery (R769): the reset of the flash, 100 µs, and the read of the SFDP structure. DESIGN CHOICE, unsafe (log entry 67). -/
def flCmds : List FlCmd :=
  let rst := 16 * flBit
  let rd := rst + 100 * cyclesPerUs
  [⟨0, 8 * flBit, 0x66, 0, 0⟩, ⟨8 * flBit, rst, 0x99, 0, 0⟩, ⟨rd, rd + (8 + 24 + 8) * flBit, 0x5A, 3, 8⟩]

/-- The command of discovery that is on the pins of the flash in this cycle. -/
def State.flCmd (s : State) : Option FlCmd :=
  match s.lt.disc with
  | none => none
  | some (c, _) => flCmds.find? fun x => decide (c + x.from_ ≤ s.now ∧ s.now < c + x.to_)

/-- The length of discovery. -/
def flDiscovery : Nat := (flCmds.map FlCmd.to_).foldl max 0

/-- The cycle in which discovery ends. -/
def State.flAt (s : State) : List Nat := (s.lt.disc.map fun p => p.1 + flDiscovery).toList

/-- What Lantern does by itself in this cycle: discovery ends (R769). -/
def State.lanternDo (s : State) : State :=
  match s.lt.disc with
  | some (c, d) => s.when (s.sys == sysLoad && c + flDiscovery ≤ s.now) (·.discover d)
  | none => s

/-- The PLL locks: RESET becomes LOAD, in which the safety controller keeps the actions of sag level 4 in force; the trim is loaded, and discovery
begins (steps 1 to 3 of R765, R668, R670). DESIGN CHOICE, safe (log entry 28). -/
def State.pllLock (s : State) (trim : List Nat) (trimOk : Bool) (d : Sfdp) : State :=
  if s.sys != sysReset || s.lt.held || s.lt.factory then s
  else
    let s := (s.setFld F.SYS_STAT_SYS_STATE sysLoad).sagStart
    let s := if trimOk then (s.setFlag F.OTP_STAT_TRIMOK true).loadTrim trim else s
    (s.lanternStep 0x12).modLt fun l => { l with disc := some (s.now, d) }

/-- The levels of the flash pins: `some true` asserted, `some false` deasserted, `none` high impedance. -/
structure FlPins where
  cs  : Option Bool
  rst : Option Bool
  bus : Bool
  deriving DecidableEq, Repr

/-- The pins of the flash: released by `FREL` (R800); in RESET deselected, with `FL_CK` and the data pins at high impedance and the flash in reset
(R764); selected while a command of discovery is sent or a program or erase operation runs. `bus` is false while `FL_CK` and the data pins are
at high impedance. -/
def State.flPins (s : State) : FlPins :=
  if s.flag F.LT_CTL_FREL && s.lt.op.isNone then ⟨none, none, false⟩
  else if s.sys == sysReset then ⟨some false, some s.lt.flRst, false⟩
  else ⟨some (s.flCmd.isSome || s.lt.op.isSome), some s.lt.flRst, true⟩

def State.slotCtx (s : State) (slotB : Bool) : SlotCtx :=
  ⟨slotB, s.lt.dsize, s.lt.es, s.lt.key, s.lt.fmt2Dis, (s.reg Reg.DEV_ID).toNat⟩

/-- Checks 2 to 10 of a slot's bytes: the cause of a failure, with the section that it concerns (R777).
DEDUCED, unsafe (log entry 29). DEDUCED, unsafe (log entry 30). -/
def State.checkSlot (s : State) (slotB : Bool) (b : List Byte) : Option (Nat × Option Nat) :=
  match slotFault (s.slotCtx slotB) b with
  | some f => some f
  | none => if (imgOf b).valid s.lt.es then none else some (10, none)

/-- The slot that passes comes into force (R797). -/
def State.takeSlot (s : State) (slotB : Bool) (m : Img) : State :=
  let s := (s.setFld F.LT_STAT_SLOT (if slotB then 2 else 1)).setFld F.LT_STAT_FMT m.fmt
  ((s.setFld F.LT_ICRC_LVAL m.icrc).setFld F.LT_BUILD_LVAL m.build).modLt fun l => { l with img := some m }

/-- The failure of a slot (R777). -/
def State.slotFails (s : State) (slotB : Bool) (f : Nat × Option Nat) : State :=
  if slotB then ((s.setFld F.LT_FAIL_CAUSEB f.1).setFlag F.LT_FAIL_SVB f.2.isSome).setFld F.LT_FAIL_SECB (f.2.getD 0)
  else ((s.setFld F.LT_FAIL_CAUSEA f.1).setFlag F.LT_FAIL_SVA f.2.isSome).setFld F.LT_FAIL_SECA (f.2.getD 0)

/-- The read of a slot completes: slot A first, slot B when slot A has failed, DEFAULTS when both have (R777, R797).
DESIGN CHOICE, safe (log entry 28). DEDUCED, unsafe (log entry 54). -/
def State.slotCheck (s : State) (slotB : Bool) (b : List Byte) : State :=
  let failedA := s.fld F.LT_FAIL_CAUSEA != 0
  if s.sys != sysLoad || !s.lt.found || s.lt.img.isSome || slotB != failedA then s
  else
    let f := s.checkSlot slotB b
    let s := s.lanternStep (if slotB then 0x16 else if f.any (·.1 < 10) then 0x14 else 0x15)
    let s := s.when (s.lt.key.isSome && (match f with | none => true | some (c, _) => 9 ≤ c)) (·.setFlag F.LT_STAT_AUTH true)
    match f with
    | none => s.takeSlot slotB (imgOf b)
    | some e => if slotB then (s.slotFails slotB e).enterDefaults else s.slotFails slotB e

/-! ### The fault-log region -/

/-- The bytes of a fault-log record (R803). -/
def State.flBytes (s : State) (r : FlRec) : List Byte :=
  let ev := r.r.src + r.r.sev * 2 ^ 9 + r.r.lvl * 2 ^ 11
  let vars := ((List.range 5).zip r.vars).foldl (fun n p => n + p.2 * 2 ^ (4 * p.1)) 0
  let b := leBytes 4 s.lt.seq ++ leBytes 2 (s.fld F.LT_FLSTAT_BOOT) ++ leBytes 2 0 ++ leBytes 4 r.tms ++ leBytes 2 ev
    ++ leBytes 1 (r.r.conv + r.state * 16) ++ leBytes 1 r.sag ++ leBytes 4 vars ++ leBytes 4 (s.reg Reg.DEV_ID).toNat
    ++ leBytes 4 s.icrc
  b ++ leBytes 4 (crc32c b)

/-- A record of the region is valid (R804). -/
def flValid (b : List Byte) : Bool := b.length == 32 && crc32c (b.take 28) == leNat (b.drop 28)
def flSeq (b : List Byte) : Nat := leNat (b.take 4)
/-- `SEQ` `a` exceeds `b` by a signed 32-bit difference. -/
def seqAfter (a b : Nat) : Bool := decide (0 < (BitVec.ofNat 32 a - BitVec.ofNat 32 b).toInt)
/-- The record number after another (R803). -/
def seqNext (n : Nat) : Nat := if n == 0xFFFFFFFE then 0 else (n + 1) % 2 ^ 32

/-- The records that the region holds. -/
def State.flSlots (s : State) : Nat := (s.lt.img.map Img.flsize).getD 0 / 32
/-- The records of an erase unit. -/
def State.flUnit (s : State) : Nat := s.lt.es / 32

/-- The last record of the region: the valid one whose `SEQ` exceeds every other; where no valid record does, the manual names none, and a
free one of them is taken.
DEDUCED, unsafe (log entry 53). -/
def State.flLast (s : State) : Option (Nat × List Byte) × State :=
  let l := s.lt.region.filter fun p => flValid p.2
  match l.find? fun p => l.all fun q => q.1 == p.1 || seqAfter (flSeq p.2) (flSeq q.2) with
  | some p => (some p, s)
  | none => if l.isEmpty then (none, s) else let (w, s) := s.free; (l[w.toNat % l.length]?, s)

/-- The scan of the region (R804). -/
def State.flScan (s : State) : State :=
  let on := s.flSlots != 0
  let (p, s) := s.flLast
  let (at_, seq, boot) := match p with
    | some (p, b) => ((p + 1) % s.flSlots, seqNext (flSeq b), (leNat ((b.drop 4).take 2) + 1) % 65536)
    | none => (0, 0, 0)
  let s := s.modLt fun l => { l with wpos := at_, seq := seq }
  ((s.setFld F.LT_FLSEQ_LVAL seq).setFld F.LT_FLSTAT_BOOT boot).setFlag F.LT_FLSTAT_FLON on

/-- The number of queued records shows in `QLEN`. -/
def State.flSync (s : State) : State := s.setFld F.LT_FLSTAT_QLEN s.lt.queue.length

/-- The fault-log queue holds 16 records (R805). -/
def flQueueSize : Nat := 16

/-- The fault-log queue takes an entry of the matrix FIFO, or refuses it; once the log is sealed a record would be lost (R805, R808). -/
def State.flTake (s : State) (e : FifoEntry) : State :=
  if !s.flag F.LT_FLSTAT_FLON || s.flag F.SUP_STAT_SEAL || s.sys == sysDefaults || e.r.sev < s.fld F.LT_FLCFG_FLMIN || e.r.src == Ev.LT_FLDROP.num then s
  else if s.lt.queue.length < flQueueSize then
    (s.modLt fun l => { l with queue := l.queue ++ [⟨e.tus / 1000, e.r, e.state, e.sag, (List.range 5).map fun k => s.fld (F.FR_CVAR_VAR k)⟩] }).flSync
  else (s.incSat F.LT_FLCNT_FLDROP_CNT).raise Ev.LT_FLDROP axle 0

/-- A record may be written now (R805, R807, R808). -/
def State.flReady (s : State) : Bool :=
  s.inForce && s.flag F.LT_FLSTAT_FLON && !s.flag F.LT_FLSTAT_FLSTOP && s.flag F.TS_STAT_NVMOK && !s.flag F.LT_CTL_FREL
    && s.lt.op.isNone && !s.lt.queue.isEmpty && !s.flag F.SUP_STAT_SEAL

/-- The oldest record is programmed at the write position; where that position enters an erase unit the next unit is erased first, and
where it is not erased its own unit (R806). -/
def State.flWrite (s : State) : State :=
  if !s.flReady then s
  else
    let p := s.lt.wpos
    let u := s.flUnit
    let k := p / u
    let next := (k + 1) % (s.flSlots / u)
    let dirty (k : Nat) : Bool := s.lt.region.any fun q => q.1 / u == k
    if p % u == 0 && !s.lt.erased.contains next then s.modLt fun l => { l with op := some (.erase next) }
    else if s.lt.region.any (fun q => q.1 == p) && dirty k then s.modLt fun l => { l with op := some (.erase k) }
    else
      match s.lt.queue with
      | [] => s
      | r :: _ => s.modLt fun l => { l with op := some (.program p r), erased := [] }

/-- An erase completes (R806). -/
def State.flErased (s : State) : State :=
  match s.lt.op with
  | some (.erase k) =>
    let u := s.flUnit
    s.modLt fun l => { l with op := none, region := l.region.filter fun q => q.1 / u != k, erased := k :: l.erased }
  | _ => s

/-- The 32 bytes that a failed program leaves; the manual does not give them. DEDUCED, unsafe (log entry 53). -/
def State.flGarbage (s : State) : List Byte × State :=
  ((List.range 8).flatMap fun i => leBytes 4 (Config.freeWord (s.freeCtr + i)).toNat, { s with freeCtr := s.freeCtr + 8 })

/-- The position of the region moves on by one record. -/
def State.flAdvance (s : State) (b : List Byte) : State :=
  s.modLt fun l => { l with op := none, region := mapSet l.region l.wpos (some b), wpos := (l.wpos + 1) % s.flSlots }

/-- The failed records after which the log stops (R807). -/
def flFailStop : Nat := 3

/-- The program of a record completes and reads back right or wrong (R806, R807). DEDUCED, unsafe (log entry 53). -/
def State.flReadback (s : State) (good : Bool) : State :=
  match s.lt.op with
  | some (.program _ r) =>
    if good then
      let s := s.flAdvance (s.flBytes r)
      let s := s.modLt fun l => { l with queue := l.queue.drop 1, seq := seqNext l.seq, fails := 0 }
      ((s.setFld F.LT_FLSEQ_LVAL s.lt.seq).incSat F.LT_FLCNT_FLWR_CNT).flSync
    else
      let (b, s) := s.flGarbage
      let s := ((s.flAdvance b).modLt fun l => { l with fails := l.fails + 1 }).raise Ev.LT_FLERR axle 0
      s.when (flFailStop ≤ s.lt.fails) fun s => (s.setFlag F.LT_FLSTAT_FLSTOP true).raise Ev.LT_FLSTOP axle 0
  | _ => s

/-! ### The end of LOAD -/

/-- What the image gives to the safety controller and to the Gate Link ports (R780). -/
def State.takeTables (s : State) (m : Img) : State :=
  let s := s.modSc fun c =>
    { c with frt := m.frt.getD [], units := m.units.getD [], hand := m.hand.getD [], cvars := (List.range 5).flatMap m.variants }
  s.each (m.glDrv.getD []) fun s g => s.modDrv g.1 g.2.1 fun d => { d with image := g.2.2 }

/-- Variant 0 of a converter, with the block variants that it names, is in force (R620). DEDUCED, unsafe (log entry 54). -/
def State.variantZero (s : State) (k : Nat) : State :=
  match s.cvar k 0 with
  | none => s
  | some c =>
    let s := ((s.setBlockVar k c.bvar).setFld (F.FR_CVAR_VAR k) 0).setFld (F.FR_CVAR_FLAGS k) c.flags
    if k < 2 then s.setFld (F.TC_STAT_VAR k) c.bvar
    else if k == 2 then s.setFld F.DC_STAT_VAR c.bvar
    else if k == 3 then s.setFld F.CH_STAT_VAR c.bvar
    else s.each (List.range 4) fun s n => s.setFld (F.AC_STAT_VAR n) (if bitOf c.bvar n then 1 else 0)

/-- Milliseconds from reset release, in 16 bits. -/
def State.msNow (s : State) : Nat := min (s.now / cyclesPerMs) 0xFFFF

/-- The scan of the fault-log region completes, the registers are written, and TEST begins (steps 7 and 8 of R765, R783). The region's
records are those that the flash holds.
DESIGN CHOICE, safe (log entry 28). -/
def State.endLoad (s : State) (region : List (Nat × List Byte)) : State :=
  match s.lt.img with
  | none => s
  | some m =>
    if s.sys != sysLoad then s
    else
      let s := (s.modLt fun l => { l with region := region }).flScan
      let s := ((s.loadRegs m).takeTables m).each (List.range 5) State.variantZero
      let s := ((s.lanternStep 0x18).setFld F.LT_TIME_TLOAD s.msNow).setFld F.SYS_STAT_SYS_STATE sysTest
      let s := (s.mark .test 0).adcTestStart.dcStartUp.chStartUp
      let s := ((s.each (List.range 2) State.rsStart).each (List.range 8) State.qdStart).each (List.range 4) State.hlStart
      let s := s.when (s.fld F.LT_STAT_SLOT == 2) (·.raise Ev.LT_SLOTB axle 0)
      s.when (!s.flag F.OTP_STAT_TRIMOK) (·.raise Ev.LT_TRIM axle 0)

/-! ### TEST -/

/-- A start-up test fails in a way that leads from TEST to AXLE_SAFE (step 6 of the operating states). -/
def State.testFails (s : State) (direct : Bool) : State := s.enterAxleSafe true direct

/-- The memory self-test completes: every word is 0; `defect` is the first failing address with its bank code (R740 to R742). -/
def State.memoryTest (s : State) (defect : Option (Nat × Nat)) : State :=
  if s.sys != sysTest || s.fld F.LT_STAT_STEP != 0x18 then s
  else
    let s := ({ s with mem := [], parBad := [], wbacks := [], wbBy := [], lastWb := [] } : State).lanternStep 0x21
    match defect with
    | none => s.setFlag F.MP_STAT_STPASS true
    | some (a, bank) =>
      let s := ((s.setFlag F.MP_STAT_STFAIL true).setFld F.MP_STADR_ADDR a).setFld F.MP_STADR_BANK bank
      (s.raise Ev.MP_STFAIL axle 0).testFails false

/-- Contexts from here on are written when the self-test of the engines has ended (R787). -/
def firstTestCtx : Nat := 380

/-- The second read of the image completes; `bad` is the first section whose `SCRC` fails, at which Lantern stops (R785 to R788, R798). -/
def State.sectionLoad (s : State) (bad : Option Nat) : State :=
  match s.lt.img with
  | none => s
  | some m =>
    if s.sys != sysTest || s.fld F.LT_STAT_STEP != 0x21 then s
    else
      let s := s.lanternStep 0x22
      let keep (c : Nat) : Bool := c < firstTestCtx
      match bad with
      | none => (s.loadTables m).writeContexts m keep
      | some i =>
        let m := { m with secs := m.secs.take i }
        (((s.loadTables m).writeContexts m keep).raise Ev.LT_LDERR axle 0).testFails false

/-- The converters that have a context on an engine. -/
def State.engConvs (s : State) (n : Nat) : List Nat :=
  (List.range 5).filter fun k => (List.range 384).any fun c => bitOf (s.ctxWord c 0).toNat 31 && s.ctxEng c == n && s.ctxConv c == k

/-- The SRAM that the self-test of the engines uses: its contexts with their shadow copies, its exchange words, and its table block in both banks
(R296). -/
def testBlocks : List (Nat × Nat) :=
  [(ctxAddr firstTestCtx, ctxAddr 384), (ctxShadow firstTestCtx, ctxShadow 384), (0x7E0000 + 4 * 504, 0x7E0000 + 4 * 512), (tabA + 0x1FF000, tabB),
   (tabB + 0x1FF000, tabEnd)]

/-- The bytes of a write that lie in a test block. -/
def State.writeTestBlocks (s : State) (a : Nat) (bs : List Byte) : State :=
  s.each bs.zipIdx fun s p => s.when (testBlocks.any fun r => r.1 ≤ a + p.2 && a + p.2 < r.2) fun s => s.writeBytes (a + p.2) [p.1]

/-- Step 4 of the self-test: the records of Echo are cleared, and the blocks that the test has used hold what the image gives them, 0 where it gives
nothing (R296, R787). -/
def State.engineTestEnd (s : State) (m : Img) : State :=
  let s := s.each (List.range 384) fun s c => s.setFld (F.EC_HIST_ECHIST c) 0
  let s := s.each (List.range 4) fun s n =>
    ((((s.setFld (F.EC_CNT_MIS_CNT n) 0).setFlag (F.EC_STAT_ESC n) false).setFlag (F.EC_STAT_MIS n) false).setFlag (F.EC_STAT_INJD n) false)
  let out (a : Nat) : Bool := testBlocks.all fun r => a < r.1 || r.2 ≤ a
  let s : State := { s with mem := s.mem.filter fun c => out c.1, parBad := s.parBad.filter out }
  let s := s.each ((m.tableWrites 2).getD []) fun s p => s.writeTestBlocks (tabA + p.1) p.2
  let s := s.each ((m.tableWrites 0xA).getD []) fun s p => s.writeTestBlocks p.1 p.2
  s.writeContexts m (firstTestCtx ≤ ·)

/-- An engine passes every step of its self-test (R296). -/
def enginePasses (t : EngineTest) : Bool := t.outs && t.leadInj && t.echoInj && t.kept

/-- The self-test of the engines and of the safety controller completes, and step 4 of R767 starts: the comparator self-tests and the Gate
Link ports (R296 to R298, R370, R605). What the tests find is told by the operands.
DESIGN CHOICE, safe (log entry 22). -/
def State.engineTest (s : State) (engs : List EngineTest) (core : CoreTest) : State :=
  match s.lt.img with
  | none => s
  | some m =>
    if s.sys != sysTest || s.fld F.LT_STAT_STEP != 0x22 then s
    else
      let s := s.engineTestEnd m
      let s := s.each (engs.zipIdx.filter fun p => s.flag (F.FE_CFG_EN p.2)) fun s p =>
        if enginePasses p.1 then s.setFlag (F.EC_STAT_STPASS p.2) true
        else (s.setFlag (F.EC_STAT_STFAIL p.2) true).raiseAll Ev.EC_STFAIL (s.engConvs p.2) p.2
      let s := s.lanternStep 0x23
      if core.forms && core.repeated then
        let s := s.setFlag F.EC_SC_STAT_SCSTPASS true
        (((s.mark .step4 0).each ((List.range 48).filter s.cmpEn) State.cmpTestBegin).each (List.range 4) State.glStart)
      else ((s.setFlag F.EC_SC_STAT_SCFAIL true).raise Ev.EC_SCFAIL axle 0).testFails true

/-- The 5 ms wait for the comparators ends (R602). -/
def State.resolveTimeout (s : State) : State :=
  match s.marked .connect 0 with
  | some c => if s.sys == sysTest && c + 5 * cyclesPerMs ≤ s.now then (s.unmark .connect 0).cmpUnresolved else s
  | none => s

/-- The enabled converters that have not reached `CONV`. -/
def State.unconverged (s : State) : List Nat :=
  (List.range 6).filter fun n => s.flag (F.ADC_CTRL_EN n) && !s.flag (F.ADC_STAT_CONV n)

/-- The end of the wait for `CONV`, 20 ms after the entry into TEST (R125, R767). -/
def State.convEnd (s : State) : Option Nat := (s.marked .test 0).map (· + 20 * cyclesPerMs)

/-- The cycle of that end while it lies ahead. -/
def State.convWaitAt (s : State) : List Nat := if s.sys == sysTest then s.convEnd.toList.filter (s.now < ·) else []

/-- The 20 ms wait for `CONV` ends (R125), whatever step Lantern is at.
DEDUCED, unsafe (log entry 48). -/
def State.convTimeout (s : State) : State :=
  s.when (s.sys == sysTest && s.convEnd == some s.now && !s.justNow .convWait 0) fun s =>
    (s.mark .convWait 0).each s.unconverged fun s n => s.raiseAll Ev.ADC_FAIL (s.adcConvs n) n

/-- The three activities of step 4 have ended: the safety I/O test, the start-up of the Gate Link ports, and the self-tests and the connection of
the comparators, which all are resolved or have had their 5 ms (R370, R602, R605, R659, R767). -/
def State.step4Done (s : State) : Bool :=
  s.sf.ioDone && ((List.range 4).all fun n => (s.gl n).stage != 1) && ((List.range 48).filter s.cmpEn).all fun k =>
    !s.flag (F.CMP_STAT_STBUSY k) && (!s.flag (F.CMP_STAT_UNRES k) || s.marked .connect 0 == none)

/-- Step 4 of TEST ends with the last of its activities, and step 5 with the last converter's `CONV` or with its wait (R125, R767). -/
def State.testFollow (s : State) : State :=
  if s.sys != sysTest then s
  else
    let s := s.when (s.fld F.LT_STAT_STEP == 0x23 && s.step4Done) (·.lanternStep 0x24)
    s.when (s.fld F.LT_STAT_STEP == 0x24 && (s.unconverged == [] || s.marked .convWait 0 == s.convEnd)) (·.lanternStep 0x25)

/-- The state in which a domain starts, its rate, and its direction (steps 1 to 3 of R62, R51, R68). A free domain with the source 0x21 meets the
conditions of step 1 and of step 2; it starts FREE.
DEDUCED, unsafe (log entry 54). DESIGN CHOICE, unsafe (log entry 62). -/
def State.domStart (s : State) (d : Nat) : State :=
  let k := s.fld (F.AD_CFG_KIND d)
  let src := s.fld (F.AD_CFG_SRC d)
  if k == 0 then s
  else if k == 4 || (k == 3 && src == 0) then
    ((s.setDomState d dsFree).modDom d fun x => { x with rate := s.rset d }).updateDir d
  else if src == 0x21 then s.setDomState d dsSlave
  else
    let s := s.setDomState d dsAcquire
    (s.when (k == 3) fun s => s.modDom d fun x => { x with rate := s.rset d }).updateDir d

/-- A track starts with a re-seek (R76). -/
def State.trackStart (s : State) (t : Nat) : State :=
  s.when (s.flag (F.DL_TRK_CFG_EN t)) fun s => (s.modTrk t fun k => { k with running := true }).reseek t

/-- After the waits of TEST, Lantern enables the domains, sets `DL_CTRL.RUN`, and starts the modulators in CARRIER (step 6 of R767, R417). -/
def State.domainEnable (s : State) : State :=
  if s.sys != sysTest || s.fld F.LT_STAT_STEP != 0x25 then s
  else
    let s := (s.lanternStep 0x26).each (List.range 16) fun s d => (s.domStart d).mark .boundary d
    let s := s.each ((List.range 16).filter fun d => s.domState d == dsSlave) fun s d => (s.slaveUpdate d).updateDir d
    let s := s.each [0, 1] fun s m => s.when (s.tmEnabled m) fun s =>
      (((s.setFld (F.TM_STAT_MODE m) tmCarrier).setFld (F.TM_STAT_PMODE m) tmCarrier).tmSetsFollow m)
    (s.setFlag F.DL_CTRL_RUN true).each (List.range 32) State.trackStart

/-- The decision round at the end of TEST, and the entry into READY or AXLE_SAFE (R626, step 7 of R767). -/
def State.testRound (s : State) : State :=
  if s.sys != sysTest || s.fld F.LT_STAT_STEP != 0x26 then s
  else
    let evs := s.undecided
    let (s, used, _, high) := ({ s with undecided := [] } : State).frRound evs
    let s := (s.lanternStep 0x27).when used (·.incSat F.FR_CNT_DEC_CNT)
    let s := s.each ((List.range 5).filter s.varPending) fun s k => s.takeVariant k 0
    if high then s.testFails false
    else
      let s := (s.lanternStep 0x30).setFld F.LT_TIME_TREADY s.msNow
      (s.setFld F.SYS_STAT_SYS_STATE sysReady).leaveTest.ss1AtReady

/-- The reference on `XIN` is lost (R33): the PLL runs on the internal oscillator, a level-5 fault event, which the manual does not name, and the
axle safe state, from LOAD too; DEFAULTS holds until reset (R799).
DESIGN CHOICE, unsafe (log entry 55). -/
def State.referenceLoss (s : State) : State :=
  if s.sys == sysReset then s
  else
    let (w, s) := s.free
    let e := (evSources[w.toNat % evSources.length]?).getD Ev.SUP_CORE
    let s := ({ s with pllInt := true } : State).raiseL e 3 5 axle 0
    if s.sys == sysDefaults then s else s.enterAxleSafe true true

/-! ### The flash pins and the OTP -/

/-- `FREL` is written (R800). -/
def State.setFrel (s : State) (on : Bool) : State :=
  if on && s.flag F.OTP_STAT_FRELDIS then s else s.setFlag F.LT_CTL_FREL on

/-- The code of an OTP command (R801). -/
def otpCode : Nat := 0x4F54

/-- An OTP program operation is commanded (R801): 1 the key, 2 `FRELDIS`, 3 `FMT2DIS`. -/
def State.otpProg (s : State) (pcode op : Nat) : State :=
  if s.sys != sysDefaults then s
  else if pcode != otpCode || op == 0 || s.flag F.OTP_STAT_PBUSY || (op == 1 && s.flag F.OTP_STAT_KEYF) then s.setFlag F.OTP_STAT_PERR true
  else (s.setFlag F.OTP_STAT_PBUSY true).modLt fun l => { l with otpOp := some op }

/-- The key that the staging registers hold. -/
def State.stagedKey (s : State) : List Byte := (List.range 4).flatMap fun k => leBytes 4 (s.reg (Reg.OTP_KEYW k)).toNat

/-- The operation completes, and verifies or not (R801). -/
def State.otpDone (s : State) (good : Bool) : State :=
  match s.lt.otpOp with
  | none => s
  | some op =>
    let s := (s.setFlag F.OTP_STAT_PBUSY false).modLt fun l => { l with otpOp := none }
    if !good then s.setFlag F.OTP_STAT_PERR true
    else if op == 1 then
      let k := s.stagedKey
      (s.setFlag F.OTP_STAT_KEYF true).modLt fun l => { l with key := some k }
    else if op == 2 then (s.setFlag F.OTP_STAT_FRELDIS true).modLt fun l => { l with frelDis := true }
    else (s.setFlag F.OTP_STAT_FMT2DIS true).modLt fun l => { l with fmt2Dis := true }

end Sys2Proof.Machine
end

