-- ==== Sys2Proof/Machine/Port.lean ====
section
/-! DEFINITION. The service port, the test-register unlock, the event log and the trace recorder (R811 to R823, R832, R835 to R837,
R881). -/

namespace Sys2Proof.Machine

/-! ### What a write may reach (R820) -/

/-- The context whose shadow copy holds `a` (R218). -/
def shadowCtx (a : Nat) : Option Nat :=
  let c := (a - ctxShadow 0) / 0x200
  if ctxShadow 0 ≤ a && c < 384 && (a - ctxShadow 0) % 0x200 < 0x180 then some c else none

/-- Whether `a` lies in the shadow copy of an enabled context. -/
def State.inShadow (s : State) (a : Nat) : Bool :=
  match shadowCtx a with
  | some c => bitOf (s.ctxWord c 0).toNat 31
  | none => false

/-- The fit buffers and the CAN buffers, to which the port's writes are ignored (R173, R685). -/
def bufferMem (a : Nat) : Bool := (0x7F0000 ≤ a && a < 0x7F0000 + 6 * 0x400) || (0x7D0000 ≤ a && a < 0x7D0000 + 4 * 0x800)

/-- The test registers but `LT_CTL`, which is one in AXLE_SAFE only (R820). -/
def isTestReg (a : Nat) : Bool :=
  (inBlocks a 0x020100 6 0x1000 && a % 0x1000 == 0x100) || (inBlocks a 0x030214 4 0x20 && (a % 0x20 == 0x14 || a % 0x20 == 0x18))
    || (inBlocks a 0x060000 48 0x20 && a % 0x20 == 0x14) || a == Reg.MP_FLIP || a == Reg.MP_FLIPA
    || a == Reg.TR_CFG || a == Reg.TR_TRIG || a == Reg.TR_CNT || a == Reg.TR_CTL
    || (Reg.TR_ADDR 0 ≤ a && a ≤ Reg.TR_ADDR 7)

/-- The registers of the edge queues, which only a traction modulator writes (R313). -/
def blockReg (a : Nat) : Bool := inBlocks a 0x040000 40 0x80 && (a % 0x80 == 0x48 || a % 0x80 == 0x4C)

/-- `EV_EN_g`. -/
def isEvEn (a : Nat) : Bool := Reg.EV_EN 0 ≤ a && a ≤ Reg.EV_EN 31

def State.unlocked (s : State) : Bool := s.flag F.SYS_STAT_UNL

/-- The bits of a register that the port's write sets directly in the present state: not those of a commit group, which go to its shadow. -/
def State.portMask (s : State) (a : Nat) (r : RegRow) : Nat :=
  if s.sys == sysDefaults then
    if (groupOf a).isSome || blockReg a || (a == Reg.LT_CTL && s.flag F.OTP_STAT_FRELDIS) then 0 else Nat.lor r.rw r.wo
  else if s.inForce then
    if isEvEn a then r.rw
    else if a == Reg.CG_REQ || a == Reg.SP_UNLOCK then r.wo
    else if s.sys == sysAxleSafe && a == Reg.SYS_RST then r.wo
    else if s.unlocked && isTestReg a then Nat.lor r.rw r.wo
    else if s.unlocked && s.sys == sysAxleSafe && a == Reg.LT_CTL && !s.flag F.OTP_STAT_FRELDIS then r.rw
    else 0
  else 0

/-- The bits of a commit-group register that the port's write sets in the shadow copy (R17, R827). -/
def State.shadowMask (s : State) (a : Nat) (r : RegRow) : Nat :=
  match groupOf a with
  | some g => if s.sys == sysDefaults || (s.inForce && !s.ownedByLink g) then r.rw else 0
  | none => 0

/-- The bits that a write of 1 clears. -/
def State.clearMask (s : State) (r : RegRow) : Nat := if s.sys == sysDefaults || s.inForce then r.w1c else 0

/-- Whether the service port may write the word at `a` (R820). -/
def State.portWritable (s : State) (a : Nat) : Bool :=
  if isMem a then s.sys == sysDefaults || (s.inForce && (s.inShadow a || (s.unlocked && (s.proofEnd a).isSome)))
  else match regRow a with
    | none => false
    | some r => s.portMask a r != 0 || s.shadowMask a r != 0 || s.clearMask r != 0

/-! ### Unlock and reset -/

/-- The image value of `ADC_CORR.FREEZE` of a converter. -/
def State.freezeImage (s : State) (n : Nat) : Bool :=
  let dflt := match regRow (Reg.ADC_CORR n) with
    | some r => BitVec.ofNat 32 r.dflt
    | none => 0
  let ws := (s.lt.img.bind Img.regWrites).getD []
  let w := ((ws.reverse.find? fun p => p.1 == Reg.ADC_CORR n).map Prod.snd).getD dflt
  Word.get w 0 1 == 1

/-- The unlock ends (R822). -/
def State.unlockOver (s : State) : State :=
  if !s.unlocked then s
  else
    let s := s.each (List.range 6) fun s n => s.setFlag (F.ADC_CORR_FREEZE n) (s.freezeImage n)
    let s := (s.each (List.range 4) fun s n => s.setFlag (F.EC_INJ_ARM n) false).setFlag F.MP_FLIP_ARM false
    ((s.setFlag F.LT_CTL_FREL false).setFlag F.SYS_STAT_UNL false).raise Ev.SP_UNL axle 0

/-- The end of the unlock in force. -/
def State.unlockAt (s : State) : List Nat := if s.unlocked then [s.unlockEnd] else []

/-- `DUR` seconds have passed since the grant (R822). -/
def State.unlockEnds (s : State) : State := s.when (s.unlockEnd ≤ s.now) State.unlockOver

/-- The key of an unlock request, and the cycles of a second. -/
def unlockKey : Nat := 0x7E57
def cyclesPerS : Nat := 1000 * cyclesPerMs

/-- A write of `SP_UNLOCK` (R821, R822). DEDUCED, unsafe (log entry 51). -/
def State.unlockRequest (s : State) (key dur : Nat) : State :=
  if key == 0 then s.unlockOver
  else if key == unlockKey && 1 ≤ dur && dur ≤ 600 && s.flag F.SP_CFG_UNLEN && s.inForce then
    { (s.setFlag F.SYS_STAT_UNL true).raise Ev.SP_UNL axle 0 with unlockEnd := s.now + dur * cyclesPerS }
  else s

/-- The code of a reset request (R823). -/
def resetCode : Nat := 0x5253

/-! ### The trace recorder (R836, R837) -/

/-- `ARM` is written. -/
def State.trArm (s : State) : State :=
  { (s.setFld F.TR_STAT_TSTATE 1).setFld F.TR_STAT_WIDX 0 with trPost := 0 }

/-- `FORCE` is written. -/
def State.trForce (s : State) : State := s.when (s.fld F.TR_STAT_TSTATE == 1) State.trTrigger

/-- The records of the ring, and the place of one. -/
def traceRing : Nat := 1536
def traceAddr (r : Nat) : Nat := 0x8F3000 + 32 * r

/-- The words of a record: the registers as the service port would read them, with nothing cleared. -/
def State.traceWords (s : State) : List Word :=
  (List.range 8).map fun j => if j < s.fld F.TR_CFG_NCH then s.view (s.fld (F.TR_ADDR_TADDR j)) else 0

/-- At a boundary of `TDOM` the running recorder writes a record, and may end. -/
def State.traceRecord (s : State) : State :=
  let st := s.fld F.TR_STAT_TSTATE
  if !s.flag F.TR_CFG_EN || !(st == 1 || st == 2) || !s.justNow .boundary (s.fld F.TR_CFG_TDOM) || s.justNow .trace 0 then s
  else
    let s := s.mark .trace 0
    let r := s.fld F.TR_STAT_WIDX
    let s := (s.traceWords.zipIdx.foldl (fun s p => s.write32 (traceAddr r + 4 * p.2) p.1) s).setFld F.TR_STAT_WIDX ((r + 1) % traceRing)
    if st == 1 then s
    else
      let s := { s with trPost := s.trPost + 1 }
      s.when (s.fld F.TR_CNT_POST ≤ s.trPost) fun s => (s.setFld F.TR_STAT_TSTATE 3).raise Ev.TR_DONE axle 0

/-! ### Writes of one word -/

/-- The instance of an array of `n` registers with stride `st` whose first is at `base`. -/
def instOf (a base n st : Nat) : Option Nat :=
  if base ≤ a && (a - base) % st == 0 && (a - base) / st < n then some ((a - base) / st) else none

/-- What a write to a register does besides changing the stored word: the block acts as the field's meaning describes (R14). `m` holds the
bits that the write sets. -/
def State.writeActs (s : State) (a : Nat) (w : Word) (m : Nat) : State :=
  let v := Nat.land w.toNat m
  if m == 0 then s
  else if a == Reg.SP_UNLOCK then s.unlockRequest (bitsOf v 16 16) (bitsOf v 0 10)
  else if a == Reg.SYS_RST then s.when (v == resetCode) (·.enterReset rstSys)
  else if a == Reg.CG_REQ then s.spCommit v
  else if a == Reg.OTP_PROG then s.otpProg (bitsOf v 16 16) (bitsOf v 0 2)
  else if a == Reg.TR_CTL then (s.when (bitOf v 0) State.trArm).when (bitOf v 1) State.trForce
  else
    match instOf a (Reg.CMP_TEST 0) 48 0x20 with
    | some k => s.when (bitOf v (F.CMP_TEST_START k).lsb) (·.cmpTestStart k)
    | none => s

/-- What a write of 1 to W1C bits does besides clearing them: `TRIP` clears the latch of a comparator (R598), and `MP_LERR` is open again
when `LATENT` or `MIRDIF` is cleared (R737). -/
def State.clearActs (s : State) (a : Nat) (w : Word) : State :=
  let s := match instOf a (Reg.CMP_STAT 0) 48 0x20 with
    | some k => s.when (bitOf w.toNat (F.CMP_STAT_TRIP k).lsb) (·.cmpClear k)
    | none => s
  s.when (a == Reg.MP_STAT && (bitOf w.toNat F.MP_STAT_LATENT.lsb || bitOf w.toNat F.MP_STAT_MIRDIF.lsb)) fun s => { s with lerrOpen := true }

/-- The write-only registers whose value is kept: the staged key (R801). -/
def keepsWo (a : Nat) : Bool := (instOf a (Reg.OTP_KEYW 0) 4 4).isSome

/-- A writable register is written (R14, R17, R820). -/
def State.portWriteReg (s : State) (a : Nat) (w : Word) : State :=
  match regRow a with
  | none => s
  | some r =>
    let m := s.portMask a r
    let c := s.clearMask r
    let sm := s.shadowMask a r
    let s := s.when (sm != 0) fun s => s.setShad a ((s.shad a &&& ~~~ BitVec.ofNat 32 sm) ||| (w &&& BitVec.ofNat 32 sm))
    let s := s.when (c != 0) fun s =>
      let z := w &&& BitVec.ofNat 32 c &&& ~~~ s.hwBits a
      (s.clearActs a z).setReg a ((s.clearActs a z).reg a &&& ~~~ z)
    let st := Nat.land m (if keepsWo a then 0xFFFFFFFF else r.rw)
    let s := s.when (st != 0) fun s => s.setReg a ((s.reg a &&& ~~~ BitVec.ofNat 32 st) ||| (w &&& BitVec.ofNat 32 st))
    s.writeActs a w m

/-- A writable word of memory is written; the port's writes to a buffer and to the shadow copy of a scheduled slot are ignored (R173, R218,
R685).
DEDUCED, unsafe (log entry 56). -/
def State.portWriteMem (s : State) (a : Nat) (w : Word) : State :=
  let scheduled := match shadowCtx a with
    | some c =>
      let o := (a - ctxShadow 0) % 0x200
      s.inShadow a && 0x80 ≤ o && s.slotScheduled c ((o - 0x80) / 8)
    | none => false
  if bufferMem a || scheduled then s else s.write32 a w

def State.portWriteWord (s : State) (a : Nat) (w : Word) : State := if isMem a then s.portWriteMem a w else s.portWriteReg a w

/-- The next word of a WRITE is written (R818). -/
def State.spNext (s : State) : State :=
  match s.spQueue with
  | [] => s
  | p :: rest => ({ s with spQueue := rest } : State).portWriteWord p.1 p.2

/-- The words of a WRITE go to their addresses in consecutive cycles, the first in this one (R818). -/
def State.spWords (s : State) (l : List (Nat × Word)) : State :=
  let t : State := { s with spQueue := s.spQueue ++ l }
  if s.spQueue == [] then t.spNext else t

/-- The cycle of the next word. -/
def State.spAt (s : State) : List Nat := if s.spQueue == [] then [] else [s.now + 1]

/-! ### Reads of one word -/

/-- The codes of `RESP` ("The service port"). -/
def respHcrc : Nat := 1
def respDcrc : Nat := 2
def respOp : Nat := 3
def respAddr : Nat := 4
def respDeny : Nat := 5
def respBus : Nat := 6
def respEnd : Nat := 8

/-- The word of memory that READS gives for `a`: the shadow copy of a word of an enabled context's commit group (R218, R819). -/
def State.shadowOf (s : State) (a : Nat) : Nat :=
  let c := (a - ctxBase) / 0x400
  let o := (a - ctxBase) % 0x400
  if !(ctxBase ≤ a && a < evBase) || !bitOf (s.ctxWord c 0).toNat 31 then a
  else if 0x150 ≤ o && o < 0x1D0 then ctxShadow c + (o - 0x150)
  else if 0x1D0 ≤ o && o < 0x2D0 && !s.slotScheduled c ((o - 0x1D0) / 8) then ctxShadow c + 0x80 + (o - 0x1D0)
  else a

/-- A word that the service port reads: the code of its failure, or 0, and the word (R14, R37, R753, R817, R819). -/
def State.portRead (s : State) (shadow : Bool) (a : Nat) : Nat × Word × State :=
  if a % 4 != 0 then (respAddr, 0, s)
  else if isMem a then
    match s.read32 reqPort (if shadow then s.shadowOf a else a) with
    | (some w, s) => (0, w, s)
    | (none, s) => (respBus, 0, s)
  else
    match regRow a with
    | none => (respAddr, 0, s)
    | some r =>
      match instOf a (Reg.GQ_POPTAG 0) 64 0x40 with
      | some g =>
        let (w, s) := s.gqPop g
        (0, w, s)
      | none =>
        let w := s.beforeWord a r.rc (s.view a)
        let w := if shadow && (groupOf a).isSome then
            (w &&& ~~~ BitVec.ofNat 32 r.rw) ||| (s.shad a &&& BitVec.ofNat 32 r.rw) else w
        (0, w, s.afterRead a true)

/-- The words of a READ, with the code and the index of the first that fails (R817). DEDUCED, unsafe (log entry 56). -/
def State.portReads (s : State) (shadow : Bool) (a i : Nat) : Nat → Nat × Nat × List Word × State
  | 0 => (0, 0, [], s)
  | n + 1 =>
    let (e, w, s) := s.portRead shadow a
    let (e', j, ws, s) := s.portReads shadow (a + 4) (i + 1) n
    (if e == 0 then e' else e, if e == 0 then j else i, w :: ws, s)

/-! ### Frames (R811 to R819) -/

/-- The status byte. -/
def State.spStatus (s : State) : Byte :=
  BitVec.ofNat 8 (b2n s.fltAsserted * 128 + b2n s.irqAsserted * 64 + b2n (s.flag F.LT_STAT_DEFAULTS_IN_USE) * 32 + b2n s.unlocked * 16 + s.sys)

/-- The first bytes of a frame, which `HCRC` covers. -/
def spHeader (op n addr : Nat) : List Byte :=
  [BitVec.ofNat 8 (op * 32 + (n - 1)), BitVec.ofNat 8 (addr / 65536), BitVec.ofNat 8 (addr / 256), BitVec.ofNat 8 addr]

/-- The bytes of a word, the most significant first (R811). -/
def beBytes (w : Word) : List Byte := [byteOf w 3, byteOf w 2, byteOf w 1, byteOf w 0]

/-- The end of what the BX960 sends: `RESP`, `RIDX` and `RCRC` after the bytes `l` (R813). -/
def spTail (l : List Byte) (resp ridx : Nat) : List Byte :=
  let b := l ++ [BitVec.ofNat 8 resp, BitVec.ofNat 8 ridx]
  b ++ [crc8 b]

def State.spSend (s : State) (st : Byte) (l : List Byte) (resp ridx : Nat) : State := { s with spOut := st :: spTail l resp ridx }

/-- A frame fails a CRC (R814). -/
def State.spCrcFail (s : State) : State := (s.incSat F.SP_CNT_CRC_CNT).flagRaise F.SP_STAT_CRCF Ev.SP_CRCERR axle 0

/-- A write is refused (R820). -/
def State.spDeny (s : State) : State := (s.incSat F.SP_CNT_DENY_CNT).flagRaise F.SP_STAT_DENYF Ev.SP_DENY axle 0

/-- The address space ends at 0xFF_FFFF; the index of the first word beyond it (R816). -/
def spaceEnd : Nat := 0x1000000
def pastEnd (addr n : Nat) : Option Nat := if spaceEnd < addr + 4 * n then some ((spaceEnd - addr) / 4) else none

/-- A frame that reads nothing returns zeros as its data. -/
def zeroWords (n : Nat) : List Byte := List.replicate (4 * n) 0#8

/-- A READ or READS frame whose header has arrived right. DEDUCED, unsafe (log entry 56). DESIGN CHOICE, safe (log entry 57). -/
def State.readFrame (s : State) (shadow : Bool) (n addr : Nat) : State :=
  let st := s.spStatus
  match pastEnd addr n with
  | some i => s.spSend st (zeroWords n) respEnd i
  | none =>
    let (e, i, ws, s) := s.portReads shadow addr 0 n
    s.spSend st (ws.flatMap beBytes) e i

/-- A READ (opcode 1) or READS (opcode 2) frame. -/
def State.spRead (s : State) (shadow : Bool) (n addr : Nat) (hcrc : Byte) : State :=
  if s.sys == sysReset then s
  else if hcrc ≠ crc8 (spHeader (if shadow then 2 else 1) n addr) then (s.spCrcFail).spSend s.spStatus (zeroWords n) respHcrc 0
  else s.readFrame shadow n addr

/-- The code of a word of a WRITE, 0 when it may be written (R818). -/
def State.writeCode (s : State) (a : Nat) : Nat :=
  if a % 4 != 0 || !(isMem a || (regRow a).isSome) then respAddr else if s.portWritable a then 0 else respDeny

/-- The words of a WRITE are checked, and all or none are written (R818). DEDUCED, unsafe (log entry 56). -/
def State.writeFrame (s : State) (addr : Nat) (ws : List Word) : State :=
  let st := s.spStatus
  match pastEnd addr ws.length with
  | some i => s.spSend st [] respEnd i
  | none =>
    match (List.range ws.length).find? fun i => s.writeCode (addr + 4 * i) != 0 with
    | some i => s.spDeny.spSend st [] (s.writeCode (addr + 4 * i)) i
    | none => (s.spWords (ws.zipIdx.map fun p => (addr + 4 * p.2, p.1))).spSend st [] 0 0

/-- A WRITE frame (opcode 3). -/
def State.spWrite (s : State) (addr : Nat) (ws : List Word) (hcrc dcrc : Byte) : State :=
  if s.sys == sysReset then s
  else if hcrc ≠ crc8 (spHeader 3 ws.length addr) then (s.spCrcFail).spSend s.spStatus [] respHcrc 0
  else if dcrc ≠ crc8 (ws.flatMap beBytes) then (s.spCrcFail).spSend s.spStatus [] respDcrc 0
  else s.writeFrame addr ws

/-- A frame with a reserved opcode (R814, R818). DEDUCED, unsafe (log entry 56). -/
def State.spReserved (s : State) (op n addr : Nat) (hcrc : Byte) : State :=
  if s.sys == sysReset then s
  else if hcrc ≠ crc8 (spHeader op n addr) then (s.spCrcFail).spSend s.spStatus (zeroWords n) respHcrc 0
  else s.spSend s.spStatus (zeroWords n) respOp 0

/-- A frame that ends before its CRC (R815). -/
def State.spAbort (s : State) : State := s.when (s.sys != sysReset) fun s => s.incSat F.SP_CNT_ABORT_CNT

/-- A frame that writes one word, as the commands that stand for one register's write send it. DESIGN CHOICE, safe (log entry 57). -/
def State.writeOne (s : State) (a : Nat) (w : Word) : State := if s.sys == sysReset then s else s.writeFrame a [w]

/-! ### The event log (R830, R832, R881) -/

/-- The entry of the event log for an entry of the FIFO; `loss` tells whether a raise was lost before it (R830, R832). -/
def FifoEntry.bytes (e : FifoEntry) (loss : Bool) : List Byte × List Byte :=
  (leBytes 4 e.tus ++ leBytes 2 (e.r.src + e.r.sev * 2 ^ 9 + e.r.lvl * 2 ^ 11 + b2n loss * 2 ^ 14) ++ leBytes 2 (e.r.inst + e.r.conv * 2 ^ 9),
   leBytes 4 e.seq ++ leBytes 4 (e.state + e.sag * 16))

/-- `GQ_00` can take both slots of an entry (R746, R751, R832). -/
def State.logRoom (s : State) : Bool :=
  let b := (s.gq 0).buf.length
  b + 2 ≤ gqBufSize && (s.flag (F.GQ_CFG_OVW 0) || b + 2 ≤ s.gqFree 0)

/-- The log takes an entry, the first half of it in this cycle, or drops it whole; a sealed log takes nothing more (R669, R744, R832).
DEDUCED, unsafe (log entry 39). -/
def State.logTake (s : State) (e : FifoEntry) : State :=
  if s.flag (F.GQ_STAT_SEAL 0) then s
  else
    let s := { s with logNext := s.now + 2 }
    if s.logRoom then
      let (a, b) := e.bytes s.fifoLoss
      { s.gqPush 0 rankMatrix (.item a) with logHalf := some (b, e.r.src), fifoLoss := false }
    else (s.gqDrop 0).gqDrop 0

/-- The second half of an entry follows in the next cycle (R832); the seal entry is the last of the log (R669). -/
def State.logSecond (s : State) : State :=
  match s.logHalf with
  | none => s
  | some (b, src) =>
    if s.now + 1 < s.logNext then s
    else
      let s := { s.gqPush 0 rankMatrix (.itemEnd b) with logHalf := none }
      s.when (s.flag F.SUP_STAT_SEAL && src == Ev.EV_SEAL.num) (·.setFlag (F.GQ_STAT_SEAL 0) true)

/-- The cycle of that second half. -/
def State.logAt (s : State) : List Nat := if s.logHalf.isSome then [s.logNext - 1] else []

/-- An entry of the FIFO is marked. -/
def State.markFifo (s : State) (i : Nat) (f : FifoEntry → FifoEntry) : State := { s with fifo := s.fifo.modify i f }

/-- The fault-log queue and the Axle Link queue take the oldest entry that they have not taken (R711, R805, R881).
DEDUCED, unsafe (log entry 39). -/
def State.faultPush (s : State) : State :=
  if s.sys == sysReset || s.sys == sysLoad then s
  else
    match s.fifo.findIdx? fun e => !e.inFault with
    | none => s
    | some i =>
      match s.fifo[i]? with
      | none => s
      | some e => ((s.flTake e).alEvent e).markFifo i fun e => { e with inFault := true }

/-- The event log takes the oldest entry that it has not taken, at most one every 2 cycles (R832). -/
def State.logPush (s : State) : State :=
  if !s.gqRuns 0 || s.logHalf.isSome || s.now < s.logNext then s
  else
    match s.fifo.findIdx? fun e => !e.inLog with
    | none => s
    | some i =>
      match s.fifo[i]? with
      | none => s
      | some e => (s.logTake e).markFifo i fun e => { e with inLog := true }

/-- The destinations take from the FIFO, and an entry that both have taken leaves it (R881). DEDUCED, unsafe (log entry 39). -/
def State.eventLogPush (s : State) : State :=
  let s := s.faultPush.logPush
  { s with fifo := s.fifo.dropWhile fun e => e.inLog && e.inFault }

end Sys2Proof.Machine
end

