-- ==== Sys2Proof/Machine/Auto.lean ====
section
/-! DEFINITION. What the BX960 does by itself as time passes, where the table of operations and events has no row for it: input filters recognise
a level, pins change at their edge times, converters take their samples, and the runs of the engines go through their stages. -/

namespace Sys2Proof.Machine

/-! ### Input filters -/

/-- The recognised level of an input. -/
def State.pinNow (s : State) : PinKind → Nat → Nat
  | .oc, i => s.fld (ocF (i / 2) (i % 2 == 1))
  | .alert, n => s.fld (F.GL_STAT_ALERT n)
  | .gm, i => s.fld (F.acGmOff (i / 6) (i / 2 % 3) (i % 2 == 1))
  | .qd, i =>
    let x := s.qd (i / 3)
    b2n (if i % 3 = 0 then x.a else if i % 3 = 1 then x.b else x.i)
  | .hall, i => b2n (bitOf (s.fld (F.HL_STAT_CODE (i / 3))) (2 - i % 3))
  | _, _ => 0

/-- The consecutive cycles for which the synchronised input must hold a new level (R323, R853). -/
def State.pinFilt (s : State) : PinKind → Nat → Nat
  | .oc, i => s.fld (F.PG_HS_OCFILT (i / 2)) + 1
  | .alert, _ => 4
  | .gm, i => s.fld (F.AC_HS_GMFILT (i / 6)) + 1
  | .qd, i => 4 * s.fld (F.QD_CFG_QFILT (i / 3)) + 1
  | .hall, i => 16 * s.fld (F.HL_TIME_HFILT (i / 3)) + 1
  | _, _ => 1

/-- The level at an input pin becomes `l` (R853). -/
def State.pinLevel (s : State) (k : PinKind) (i l : Nat) : State := s.pinFeed k i (s.pinNow k i) (s.pinFilt k i) l

/-- An input level is recognised. -/
def State.recognise (s : State) (x : PinIn) : State :=
  match x.kind with
  | .oc => s.offConfirm (x.inst / 2) (x.inst % 2 == 1) (x.level != 0)
  | .alert => s.glAlert x.inst (x.level != 0)
  | .gm => s.gateMonitor (x.inst / 6) (x.inst / 2 % 3) (x.inst % 2 == 1) (x.level != 0)
  | .cmp => s.cmpChange x.inst x.level
  | .bs => s.bsLevel (x.inst / 3) (x.inst % 3) (x.level != 0)
  | _ => s

/-- A recognised Hall code, with the commutation that follows it (R488, R567). -/
def State.hallChange (s : State) (h code : Nat) : State := (s.hlChange h code).acHall h

/-- The level of an input as it is recognised from now on: that of `due`, else the present one. -/
def State.levelIn (s : State) (due : List PinIn) (k : PinKind) (i : Nat) : Nat :=
  ((due.find? fun x => x.kind == k && x.inst == i).map (·.level)).getD (s.pinNow k i)

/-- The instances of a group of `n` inputs of a kind that have an input among `due`. -/
def groupsOf (due : List PinIn) (k : PinKind) (n : Nat) : List Nat := ((due.filter (·.kind == k)).map fun x => x.inst / n).eraseDups

/-- The input levels that are due are recognised; the inputs of one decoder or triplet together (R470, R488). -/
def State.inputsDo (s : State) : State :=
  let due := s.inputs.filter fun x => x.due ≤ s.now
  let s := ({ s with inputs := s.inputs.filter fun x => !(x.due ≤ s.now) } : State).each due State.recognise
  let s := s.each (groupsOf due .qd 3) fun s q =>
    let l (i : Nat) : Bool := s.levelIn due .qd (3 * q + i) != 0
    s.qdInput q (l 0) (l 1) (l 2)
  s.each (groupsOf due .hall 3) fun s h =>
    let l (i : Nat) : Nat := s.levelIn due .hall (3 * h + i)
    s.hallChange h (4 * l 0 + 2 * l 1 + l 2)

/-! ### All of it -/

/-- What a modulator does by itself in this cycle: an item of a restart or of a merge, and load points (R389, R414). -/
def State.tmDo (s : State) (m : Nat) : State :=
  let s := s.when (s.tmMode m == tmDrapery) (·.tmDrain m)
  (s.tmLoads m).2.each (s.tmLoads m).1 State.pgLoadPoint

/-- The cycles in which something happens by itself. -/
def State.autoAt (s : State) : List Nat :=
  s.inputs.map (·.due) ++ (List.range 40).flatMap s.pinAt ++ (List.range 6).flatMap s.adcAt ++ s.engineAt
    ++ ((List.range 6).filterMap fun f => (s.fitSpan f).map (·.2)) ++ s.tmAt 0 ++ s.tmAt 1 ++ s.dcAt ++ s.chAt ++ s.acAt ++ s.cmpAt ++ s.safetyAt ++ s.flAt ++ s.gqAt ++ s.wbAt ++ s.spAt ++ s.logAt ++ s.unlockAt ++ s.convAt ++ s.convWaitAt
    ++ (List.range 8).filterMap fun q => (s.qd q).cmpOn

/-- The next of these cycles that is not after `t`; one that has come is taken up in the next cycle. -/
def State.nextAuto (s : State) (t : Nat) : Option Nat :=
  ((s.autoAt.filter (· ≤ t)).map (max (s.now + 1))).min?

/-- What happens by itself in this cycle: Lantern, memory, the service port, the Galleries and the event log, the inputs, the safety blocks, the gates of the DC/DC block and of the charger, the pilot, the pins and the actuators, the modulators, the converters, the fitters, then the
engines.
DEDUCED, unsafe (log entry 5). -/
def State.autoDo (s : State) : State :=
  (((((s.lanternDo.wbDo.spNext.unlockEnds.gqDo.logSecond.inputsDo.safetyDo.cmpDo.dcCloseDo.chCloseDo.cpDo.each (List.range 8) State.qdPulse).each (List.range 40) State.pinDo).acDo.each [0, 1] State.tmDo).each (List.range 6) State.adcDo).each (List.range 6)
    State.fitDo).engineDo

end Sys2Proof.Machine
end

