-- ==== Sys2Proof/WellFormed.lean ====
section
/-! DEFINITION. The commands whose operands lie within the ranges that the manual gives them. Instance numbers are bounded by their types. -/

namespace Sys2Proof

/-- A list of numbers that rise strictly. -/
def risingKeys : List Nat → Bool
  | [] => true
  | [_] => true
  | a :: b :: l => a < b && risingKeys (b :: l)

/-- An address of the on-chip SRAM, and one of table memory. -/
def inSram (a : Nat) : Bool := 0x100000 ≤ a && a < 0x900000
def inTables (a : Nat) : Bool := 0x100000 ≤ a && a < 0x500000

/-- The operands of a command are in range. DESIGN CHOICE, safe (log entry 58). -/
def Instr.wf : Instr → Bool
  | .resetAssert .. => true
  | .resetRelease .. => true
  | .pllLock _ trim _ d => trim.length == 72 && d.sig < 2 ^ 32 && d.dlog < 64 && d.eslog < 64
  | .referenceLoss .. => true
  | .slotCheck .. => true
  | .faultLogScan _ region => risingKeys (region.map Prod.fst) && region.all fun p => p.2.length == 32
  | .memorySelfTest _ defect =>
    match defect with | none => true | some (a, b) => 0x100000 ≤ a && a < 0x900000 && b < 4
  | .imageSectionLoad .. => true
  | .engineSelfTest _ engs _ => engs.length == 4
  | .comparatorSelfTestEnd .. => true
  | .comparatorResolveTimeout .. => true
  | .gateLinkStartupTimeout .. => true
  | .safetyIoTest .. => true
  | .convWaitTimeout .. => true
  | .domainEnable .. => true
  | .testDecisionRound .. => true
  | .measurementArrival .. => true
  | .measurementTimeout .. => true
  | .coastTimeout .. => true
  | .domainBoundary .. => true
  | .forcedBoundary .. => true
  | .syncInEdge .. => true
  | .deferredCommit .. => true
  | .trackBoundary .. => true
  | .trackIdleExit .. => true
  | .trackTimeoutReseek .. => true
  | .angleEntryFire .. => true
  | .lateEntryFire .. => true
  | .delayEntryFire .. => true
  | .converterAngleBoundary .. => true
  | .seqStart .. => true
  | .winOpen .. => true
  | .winClose .. => true
  | .loopStart .. => true
  | .outLoad .. => true
  | .event .. => true
  | .gqMark .. => true
  | .profileTick .. => true
  | .snapshot .. => true
  | .pgStrobeLoadPoint .. => true
  | .pgStrobeEmptyQueue .. => true
  | .pgStrobeLoadAndEmpty .. => true
  | .tmStrobeEvaluation .. => true
  | .tmStrobeRestart .. => true
  | .dcStrobeEvaluation .. => true
  | .acStrobeLoadPoint .. => true
  | .windowSampleResult _ _ raws _ => raws.length == 4 && raws.all (· < 65536)
  | .onceEntryResult _ _ samples _ => samples.all fun p => p.1 < 4 && p.2 < 65536
  | .windowTimeout .. => true
  | .estimatorUpdate _ _ deltas => deltas.length == 12 && deltas.all fun x => decide (-1 ≤ x ∧ x ≤ 1)
  | .fitComplete .. => true
  | .runStart .. => true
  | .runComplete .. => true
  | .supervisionTimeout .. => true
  | .safetyControllerStep .. => true
  | .ecInjArm .. => true
  | .pgLoadPoint .. => true
  | .referenceEdge .. => true
  | .edgeQueueFire .. => true
  | .edgeQueuePush .. => true
  | .turnOn .. => true
  | .offConfirmChange .. => true
  | .offConfirmMissing .. => true
  | .turnOnNotConfirmed .. => true
  | .stoRequestChange .. => true
  | .enum .. => true
  | .hello .. => true
  | .setver .. => true
  | .setrate .. => true
  | .glRead .. => true
  | .glWrite .. => true
  | .status .. => true
  | .clear .. => true
  | .snap .. => true
  | .glResponse .. => true
  | .glResponseTimeout .. => true
  | .glPollTimer .. => true
  | .glAlert .. => true
  | .glRecoveryTimer .. => true
  | .glRateFallbackWait .. => true
  | .tmReferenceWrite .. => true
  | .tmCarrierWrite .. => true
  | .tmDraperyUpdate .. => true
  | .draperyEdgePush .. => true
  | .transitionWindowStart .. => true
  | .transitionSlotChange .. => true
  | .transitionComplete .. => true
  | .handoverShadowWrite .. => true
  | .handoverLoadPoint .. => true
  | .fcStep .. => true
  | .fcStepWrite .. => true
  | .catchTimeout .. => true
  | .prefwTimeout .. => true
  | .recaptureTimeout .. => true
  | .observerDelivery .. => true
  | .resolverDelivery .. => true
  | .quadratureCount .. => true
  | .qdDelivery .. => true
  | .qdIndex .. => true
  | .qdHoldDelivery .. => true
  | .qdComparePulseEnd .. => true
  | .hallTransition .. => true
  | .hallDelivery .. => true
  | .hallHoldDelivery .. => true
  | .dcBoundary .. => true
  | .dcBoundaryWrite .. => true
  | .loadStep .. => true
  | .shedHoldoffEnd .. => true
  | .diodeEmulationClose .. => true
  | .dcPrechargeTimeout .. => true
  | .dcRetryWaitEnd .. => true
  | .chStep .. => true
  | .chLoopInputWrite .. => true
  | .pilotEdge .. => true
  | .pilotDcEvaluation .. => true
  | .proximityEvaluation _ vs => vs.length == 20
  | .pfcCompute .. => true
  | .pfcShadowWrite .. => true
  | .chRequestTimeout .. => true
  | .chBusupTimeout .. => true
  | .chRampdnTimeout .. => true
  | .chRetryWaitEnd .. => true
  | .acLoadPoint .. => true
  | .acArcEdge .. => true
  | .acTurnOn .. => true
  | .gateMonitorChange .. => true
  | .acGateMissing .. => true
  | .acTurnOnNotConfirmed .. => true
  | .acVds .. => true
  | .acBsuv .. => true
  | .acPrechargeEnd .. => true
  | .actVmConversion .. => true
  | .sumpActMaxon .. => true
  | .sumpActMinoffEnd .. => true
  | .comparatorChange .. => true
  | .cmpTripClear .. => true
  | .cmpTestStart .. => true
  | .overVoltageRelease .. => true
  | .tractionSumpMaxon .. => true
  | .tractionSumpMinoffEnd .. => true
  | .decisionRound .. => true
  | .safetyInputChange .. => true
  | .discrepancyTimeout .. => true
  | .ss1MsTick .. => true
  | .ss1Sto .. => true
  | .slsCheck .. => true
  | .slsViolation .. => true
  | .sbcDelayEnd .. => true
  | .stoReadbackMismatch .. => true
  | .torqueLimitWrite .. => true
  | .safeOutputTestStart .. => true
  | .safeOutputPulseEnd .. => true
  | .readbackChange .. => true
  | .readbackTimeout .. => true
  | .temperatureConversion .. => true
  | .vsysConversion .. => true
  | .sagRestore .. => true
  | .sagRampTick .. => true
  | .railFault .. => true
  | .canStart .. => true
  | .canIntegrationStart .. => true
  | .frameReceived _ _ ide _ _ _ _ _ id dlc data => id < (if ide then 2 ^ 29 else 2 ^ 11) && dlc < 16 && data.length ≤ 64
  | .frameTransmitted .. => true
  | .frameError .. => true
  | .busOffRecovery .. => true
  | .transmitWithdraw .. => true
  | .receiveBufferRead .. => true
  | .cmdTrac .. => true
  | .cmdAux .. => true
  | .sessReqOpen .. => true
  | .sessReqClose .. => true
  | .restart .. => true
  | .rearm .. => true
  | .readreg .. => true
  | .statTrac .. => true
  | .evt .. => true
  | .announce .. => true
  | .announceDefaults .. => true
  | .pathLoss .. => true
  | .failoverHoldEnd .. => true
  | .gqPush .. => true
  | .gqPushe .. => true
  | .gqEnd .. => true
  | .gqPack .. => true
  | .gqPoptag .. => true
  | .gqPointerMismatch .. => true
  | .eventLogPush .. => true
  | .parityWriteBack _ a => inTables a
  | .scrubStep _ ups => ups.all fun u => inSram u.1
  | .mpFlipArm .. => true
  | .faultLogWrite .. => true
  | .faultLogReadback .. => true
  | .faultLogErase .. => true
  | .spRead _ n addr _ => 1 ≤ n && n ≤ 32 && addr < 0x1000000
  | .spReads _ n addr _ => 1 ≤ n && n ≤ 32 && addr < 0x1000000
  | .spWrite _ addr ws _ _ => 1 ≤ ws.length && ws.length ≤ 32 && addr < 0x1000000
  | .spFrameAbort .. => true
  | .registerWrite _ a _ => a < 0x1000000
  | .spUnlock .. => true
  | .unlockEnd .. => true
  | .sysRst .. => true
  | .cgReq .. => true
  | .trArm .. => true
  | .trForce .. => true
  | .traceRecord .. => true
  | .frel .. => true
  | .otpProgramKey .. => true
  | .otpSetFreldis .. => true
  | .otpSetFmt2dis .. => true
  | .otpProgramComplete .. => true
  | .blankingEnd .. => true
  | .busIntegrationEnd .. => true
  | .flashResetRelease .. => true
  | .excitationUpdate .. => true
  | .spReservedOpcode _ op n addr _ => (op == 0 || 4 ≤ op) && 1 ≤ n && n ≤ 32 && addr < 0x1000000

end Sys2Proof
end

