-- ==== Sys2Proof/Machine/Run.lean ====
section
/-! DEFINITION. How a command runs: time passes, the command acts, the blocks that follow other blocks' state act; at the end of a cycle the
event matrix takes its raises. -/

namespace Sys2Proof.Machine

/-- The rounds of re-seeks that jumps of one cycle can make: each track re-seeks at most once a round. -/
def reseekRounds : Nat := 33

/-- The reactions that follow any change of state in the same step: the tracks of a domain that has jumped re-seek (R77), modulators follow a
change of direction (R394) and overruns (R408), the DC/DC block a jump or a bad frequency (R498, R499), then the steps of TEST
(R767), the safety functions and outputs, and the session (R643 to R654, R700).
DEDUCED, unsafe (log entry 5). -/
def State.follow (s : State) : State :=
  let s := s.jumpReseeks reseekRounds
  let s := ((((((s.each s.turned State.tmDirChanged).tmWatch).dcWatch).testFollow).safetyFollow).linkFollow).holdsSettle
  { s with turned := [], jumped := [], reseeks := [] }

/-- What ends every step: the blocks that follow. -/
def State.settle (s : State) : State := s.follow

/-- What ends a cycle, when no command acts in it any more: what was due in it and no command did, the blocks that follow, and the event
matrix.
DEDUCED, unsafe (log entry 5). -/
def State.endCycle (s : State) : State :=
  s.convsEnd.cycleEnd.tmComputes.pfcComputes.dcEnd.turnOns.acEnd.vdsEnd.cmpEnd.ovEnd.gqEnd.convTimeout.traceRecord.settle.flush

/-- Time passes up to cycle `t`: in each cycle in which something happens by itself, that happens, and what ends a cycle ends it before the
next. The last argument bounds the cycles.
DESIGN CHOICE, safe (log entry 2). -/
def State.elapseTo (s : State) (t : Nat) : Nat → State
  | 0 => s
  | n + 1 =>
    if t ≤ s.now then s
    else
      let s := s.endCycle
      match s.nextAuto t with
      | none => (s.dcLoadRun t (t - s.now - 1)).advance (t - s.now)
      | some c => (((s.dcLoadRun c (c - s.now - 1)).advance (c - s.now)).autoDo.settle).elapseTo t n

/-- `n` cycles pass. DESIGN CHOICE, safe (log entry 1). -/
def State.elapse (s : State) (n : Nat) : State := s.elapseTo (s.now + n) n

/-- A command that acts `dt` cycles after the one before it. DESIGN CHOICE, safe (log entry 2). -/
def run (dt : Nat) (s : State) (f : State → State) : Result := .next (f (s.elapse dt)).settle

/-- A command of a block that does nothing in RESET. There only time passes. DEDUCED, safe (log entry 4). -/
def live (dt : Nat) (s : State) (f : State → State) : Result :=
  if s.sys == sysReset then .next (s.advance dt) else run dt s f

/-- A command with an operand out of range is refused. DESIGN CHOICE, safe (log entry 58). -/
def guarded (i : Instr) (r : Result) : Result := if i.wf then r else .refused .illFormed

end Sys2Proof.Machine
end

