-- ==== Sys2Proof/Machine/CmdActions.lean ====
section
/-! DEFINITION. The meanings of the commands: schedule entries, the converter boundary and the Dripline actions. -/

namespace Sys2Proof.Machine

/-- ANGLE_ENTRY_FIRE (R80). -/
def execAngleEntryFire (dt : Nat) (t : Fin 32) (perr : Fin 64) (s : State) : Result := live dt s fun s => s.angleFire t perr

/-- LATE_ENTRY_FIRE (R84). -/
def execLateEntryFire (dt : Nat) (t : Fin 32) (perr : Fin 64) (s : State) : Result := live dt s fun s => s.lateFire t perr

/-- DELAY_ENTRY_FIRE (R81). -/
def execDelayEntryFire (dt : Nat) (t : Fin 32) (perr : Fin 64) (s : State) : Result := live dt s fun s => s.delayFire t perr

/-- CONVERTER_ANGLE_BOUNDARY (R90). -/
def execConverterAngleBoundary (dt : Nat) (k : Fin 5) (s : State) : Result := live dt s fun s => s.convBoundary k

/-- SEQ_START (R128). -/
def execSeqStart (dt : Nat) (t : Fin 32) (mask : Fin 64) (q : Fin 32) (perr : Fin 64) (s : State) : Result :=
  live dt s fun s => s.when s.dlRuns fun s => s.actSeqStart t (s.fld (F.DL_TRK_PCOUNT_PCOUNT t)) mask q perr

/-- WIN_OPEN (R129). -/
def execWinOpen (dt : Nat) (t : Fin 32) (mask : Fin 64) (q : Fin 32) (perr : Fin 64) (s : State) : Result :=
  live dt s fun s => s.when s.dlRuns fun s => s.actWinOpen t (s.fld (F.DL_TRK_PCOUNT_PCOUNT t)) mask q perr

/-- WIN_CLOSE (R107). -/
def execWinClose (dt : Nat) (mask : Fin 64) (s : State) : Result := live dt s fun s => s.when s.dlRuns fun s => s.actWinClose mask

/-- LOOP_START (R207). -/
def execLoopStart (dt : Nat) (t : Fin 32) (c : Fin 384) (s : State) : Result :=
  live dt s fun s => s.when s.dlRuns fun s => s.loopStart t (s.fld (F.DL_TRK_PCOUNT_PCOUNT t)) c

/-- OUT_LOAD (R238). -/
def execOutLoad (dt : Nat) (t : Fin 32) (c : Fin 384) (s : State) : Result := live dt s fun s => s.when s.dlRuns fun s => s.outLoad t c

/-- EVENT (R79). -/
def execEvent (dt : Nat) (t : Fin 32) (src : Fin 512) (s : State) : Result := live dt s fun s => s.when s.dlRuns fun s => s.actEvent t src

/-- GQ_MARK (R749). -/
def execGqMark (dt : Nat) (t : Fin 32) (g : Fin 64) (v : Fin 65536) (s : State) : Result :=
  live dt s fun s => s.when s.dlRuns fun s => s.gqMark t (s.fld (F.DL_TRK_PCOUNT_PCOUNT t)) g v

/-- PROFILE_TICK (R254). -/
def execProfileTick (dt : Nat) (g : Fin 16) (s : State) : Result := live dt s fun s => s.when s.dlRuns fun s => s.profileTick g []

/-- SNAPSHOT (R835). -/
def execSnapshot (dt : Nat) (d : Fin 16) (slot : Fin 256) (s : State) : Result :=
  live dt s fun s => s.when s.dlRuns fun s => s.snapshot d slot

/-- PG_STROBE_LOAD_POINT (R320). -/
def execPgStrobeLoadPoint (dt : Nat) (c : Fin 40) (s : State) : Result := live dt s fun s => s.when s.dlRuns fun s => s.actStrobe c 1

/-- PG_STROBE_EMPTY_QUEUE (R320). -/
def execPgStrobeEmptyQueue (dt : Nat) (c : Fin 40) (s : State) : Result := live dt s fun s => s.when s.dlRuns fun s => s.actStrobe c 2

/-- PG_STROBE_LOAD_AND_EMPTY (R320). -/
def execPgStrobeLoadAndEmpty (dt : Nat) (c : Fin 40) (s : State) : Result := live dt s fun s => s.when s.dlRuns fun s => s.actStrobe c 3

/-- TM_STROBE_EVALUATION (R398). -/
def execTmStrobeEvaluation (dt : Nat) (m : Fin 2) (s : State) : Result := live dt s fun s => s.when s.dlRuns fun s => s.actStrobe (40 + m) 1

/-- TM_STROBE_RESTART (R394). -/
def execTmStrobeRestart (dt : Nat) (m : Fin 2) (s : State) : Result := live dt s fun s => s.when s.dlRuns fun s => s.actStrobe (40 + m) 2

/-- DC_STROBE_EVALUATION (R510). -/
def execDcStrobeEvaluation (dt : Nat) (s : State) : Result := live dt s fun s => s.when s.dlRuns fun s => s.actStrobe 42 1

/-- AC_STROBE_LOAD_POINT (R560). -/
def execAcStrobeLoadPoint (dt : Nat) (n : Fin 4) (s : State) : Result := live dt s fun s => s.when s.dlRuns fun s => s.actStrobe (49 + n) 1

end Sys2Proof.Machine
end

