-- ==== Sys2Proof/Machine/CmdChargerBlock.lean ====
section
/-! DEFINITION. The meanings of the commands: the charger. -/

namespace Sys2Proof.Machine

/-- CH_STEP (R528). -/
def execChStep (dt : Nat) (defect : Bool) (s : State) : Result := live dt s fun s => s.chStep defect

/-- CH_LOOP_INPUT_WRITE (R547). -/
def execChLoopInputWrite (dt : Nat) (s : State) : Result := live dt s State.chWrite

/-- PILOT_EDGE (R530). -/
def execPilotEdge (dt : Nat) (v : Int) (s : State) : Result := live dt s fun s => s.cpLevel v

/-- PILOT_DC_EVALUATION (R532). -/
def execPilotDcEvaluation (dt : Nat) (s : State) : Result := live dt s State.chPilotDc

/-- PROXIMITY_EVALUATION (R536). -/
def execProximityEvaluation (dt : Nat) (vs : List Nat) (s : State) : Result :=
  guarded (.proximityEvaluation dt vs) (live dt s fun s => s.chProximity (s.proxSeen vs))

/-- PFC_COMPUTE (R549). -/
def execPfcCompute (dt : Nat) (ua ub : Option Word) (s : State) : Result :=
  live dt s fun s => s.outWrites (refWrites Reg.CH_UA Reg.CH_UB ua ub)

/-- PFC_SHADOW_WRITE (R549). -/
def execPfcShadowWrite (dt : Nat) (s : State) : Result := live dt s State.pfcWrite

/-- CH_REQUEST_TIMEOUT (R543). -/
def execChRequestTimeout (dt : Nat) (s : State) : Result := live dt s fun s => s.chTimeout chRequest (s.fld F.CH_TMO_CTMO)

/-- CH_BUSUP_TIMEOUT (R543). -/
def execChBusupTimeout (dt : Nat) (s : State) : Result := live dt s fun s => s.chTimeout chBusup (s.fld F.CH_TMO_BUTMO)

/-- CH_RAMPDN_TIMEOUT (R543). -/
def execChRampdnTimeout (dt : Nat) (s : State) : Result := live dt s fun s => s.chTimeout chRampdn (s.fld F.CH_TMO2_RDTMO)

/-- CH_RETRY_WAIT_END (R544). -/
def execChRetryWaitEnd (dt : Nat) (s : State) : Result := live dt s State.chRetryEnd

end Sys2Proof.Machine
end

