-- ==== Sys2Proof/Machine/CmdDcConverter.lean ====
section
/-! DEFINITION. The meanings of the commands: the DC/DC converter. -/

namespace Sys2Proof.Machine

/-- DC_BOUNDARY (R504). -/
def execDcBoundary (dt : Nat) (defect : Bool) (s : State) : Result := live dt s fun s => s.dcBoundary defect

/-- DC_BOUNDARY_WRITE (R504). -/
def execDcBoundaryWrite (dt : Nat) (s : State) : Result := live dt s State.dcWrite

/-- LOAD_STEP (R514). -/
def execLoadStep (dt : Nat) (s : State) : Result := live dt s State.dcLoadStep

/-- SHED_HOLDOFF_END (R514). -/
def execShedHoldoffEnd (dt : Nat) (s : State) : Result := live dt s State.dcHoldEnd

/-- DIODE_EMULATION_CLOSE (R517). -/
def execDiodeEmulationClose (dt : Nat) (k : Fin 6) (low : Bool) (s : State) : Result := live dt s fun s => s.dcDiodeClose k low

/-- DC_PRECHARGE_TIMEOUT (R520). -/
def execDcPrechargeTimeout (dt : Nat) (s : State) : Result :=
  live dt s State.dcStartTimeout

/-- DC_RETRY_WAIT_END (R520). -/
def execDcRetryWaitEnd (dt : Nat) (s : State) : Result := live dt s State.dcRetryEnd

end Sys2Proof.Machine
end

