-- ==== Sys2Proof/Machine/CmdDomains.lean ====
section
/-! DEFINITION. The meanings of the commands: angle domains, commits and tracks. -/

namespace Sys2Proof.Machine

/-- MEASUREMENT_ARRIVAL (R57). -/
def execMeasurementArrival (dt : Nat) (d : Fin 16) (theta : Word) (age : Fin 4096) (good : Bool) (s : State) : Result :=
  live dt s fun s => s.measure d theta age good

/-- MEASUREMENT_TIMEOUT (R62). -/
def execMeasurementTimeout (dt : Nat) (d : Fin 16) (s : State) : Result := live dt s fun s => s.updTimeout d

/-- COAST_TIMEOUT (R62). -/
def execCoastTimeout (dt : Nat) (d : Fin 16) (s : State) : Result := live dt s fun s => s.coastTimeout d

/-- DOMAIN_BOUNDARY (R69). -/
def execDomainBoundary (dt : Nat) (d : Fin 16) (s : State) : Result := live dt s fun s => s.domainBoundary d

/-- FORCED_BOUNDARY (R69). -/
def execForcedBoundary (dt : Nat) (d : Fin 16) (s : State) : Result := live dt s fun s => s.forcedBoundary d

/-- SYNC_IN_EDGE (R70). -/
def execSyncInEdge (dt : Nat) (s : State) : Result := live dt s State.syncEdge

/-- DEFERRED_COMMIT (R707). -/
def execDeferredCommit (dt : Nat) (s : State) : Result := live dt s State.alDeferred

/-- TRACK_BOUNDARY (R78). -/
def execTrackBoundary (dt : Nat) (t : Fin 32) (s : State) : Result := live dt s fun s => s.trackBoundary t

/-- TRACK_IDLE_EXIT (R75). -/
def execTrackIdleExit (dt : Nat) (t : Fin 32) (s : State) : Result := live dt s fun s => s.idleExit t

/-- TRACK_TIMEOUT_RESEEK (R77). -/
def execTrackTimeoutReseek (dt : Nat) (t : Fin 32) (s : State) : Result := live dt s fun s => s.timeoutReseek t

end Sys2Proof.Machine
end

