-- ==== Sys2Proof/Machine/CmdDrivers.lean ====
section
/-! DEFINITION. The meanings of the commands: Gate Link. -/

namespace Sys2Proof.Machine

/-- ENUM (R352). -/
def execEnum (dt : Nat) (n : Fin 4) (reach : Fin 9) (s : State) : Result := live dt s fun s => s.glIssue n (fun r => r.cmd == 0) reach

/-- HELLO (R356). -/
def execHello (dt : Nat) (n : Fin 4) (reach : Fin 9) (s : State) : Result := live dt s fun s => s.glIssue n (fun r => r.cmd == 1) reach

/-- SETVER (R356). -/
def execSetver (dt : Nat) (n : Fin 4) (reach : Fin 9) (s : State) : Result := live dt s fun s => s.glIssue n (fun r => r.cmd == 2) reach

/-- SETRATE (R357). -/
def execSetrate (dt : Nat) (n : Fin 4) (reach : Fin 9) (s : State) : Result := live dt s fun s => s.glIssue n (fun r => r.cmd == 3) reach

/-- GL_READ (R351). -/
def execGlRead (dt : Nat) (n : Fin 4) (reach : Fin 9) (s : State) : Result := live dt s fun s => s.glIssue n (fun r => r.cmd == 4) reach

/-- GL_WRITE (R360). -/
def execGlWrite (dt : Nat) (n : Fin 4) (reach : Fin 9) (s : State) : Result := live dt s fun s => s.glIssue n (fun r => r.cmd == 5) reach

/-- STATUS (R362). -/
def execStatus (dt : Nat) (n : Fin 4) (reach : Fin 9) (s : State) : Result := live dt s fun s => s.glIssue n (fun r => r.cmd == 6) reach

/-- CLEAR (R363). -/
def execClear (dt : Nat) (n : Fin 4) (reach : Fin 9) (s : State) : Result := live dt s fun s => s.glIssue n (fun r => r.cmd == 7) reach

/-- SNAP (R353). -/
def execSnap (dt : Nat) (n : Fin 4) (reach : Fin 9) (s : State) : Result := live dt s fun s => s.glSnap n reach

/-- GL_RESPONSE (R354). -/
def execGlResponse (dt : Nat) (n : Fin 4) (echo resp : List Byte) (s : State) : Result := live dt s fun s => s.glResponse n echo resp

/-- GL_RESPONSE_TIMEOUT (R355). -/
def execGlResponseTimeout (dt : Nat) (n : Fin 4) (s : State) : Result := live dt s fun s => s.glTimeout n

/-- GL_POLL_TIMER (R364). -/
def execGlPollTimer (dt : Nat) (n : Fin 4) (s : State) : Result := live dt s fun s => s.glPollTimer n

/-- GL_ALERT (R365). -/
def execGlAlert (dt : Nat) (n : Fin 4) (asserted : Bool) (s : State) : Result := live dt s fun s => s.pinLevel .alert n (b2n asserted)

/-- GL_RECOVERY_TIMER (R369). -/
def execGlRecoveryTimer (dt : Nat) (n : Fin 4) (s : State) : Result := live dt s fun s => s.glRecovery n

/-- GL_RATE_FALLBACK_WAIT (R357). -/
def execGlRateFallbackWait (dt : Nat) (n : Fin 4) (s : State) : Result := live dt s fun s => s.glFallback n

end Sys2Proof.Machine
end

