-- ==== Sys2Proof/Machine/CmdGearbox.lean ====
section
/-! DEFINITION. The meanings of the commands: the Actuators. -/

namespace Sys2Proof.Machine

/-- AC_LOAD_POINT (R561). -/
def execAcLoadPoint (dt : Nat) (n : Fin 4) (s : State) : Result := live dt s fun s => s.acAngleLoad n

/-- AC_ARC_EDGE (R559). -/
def execAcArcEdge (dt : Nat) (n : Fin 4) (s : State) : Result := live dt s fun s => s.when (s.flag (F.AC_CFG_EN n)) (·.acEval n)

/-- AC_TURN_ON (R570). -/
def execAcTurnOn (dt : Nat) (n : Fin 4) (k : Fin 3) (low : Bool) (s : State) : Result := live dt s fun s => s.acTurnOn n k low

/-- GATE_MONITOR_CHANGE (R571). -/
def execGateMonitorChange (dt : Nat) (n : Fin 4) (k : Fin 3) (low off : Bool) (s : State) : Result :=
  live dt s fun s => s.pinLevel .gm (gmIndex n k low) (b2n off)

/-- AC_GATE_MISSING (R572). -/
def execAcGateMissing (dt : Nat) (n : Fin 4) (k : Fin 3) (low : Bool) (s : State) : Result := live dt s fun s => s.gateMissing n k low

/-- AC_TURN_ON_NOT_CONFIRMED (R573). -/
def execAcTurnOnNotConfirmed (dt : Nat) (n : Fin 4) (k : Fin 3) (low : Bool) (s : State) : Result := live dt s fun s => s.gateNoOn n k low

/-- AC_VDS (R575). -/
def execAcVds (dt : Nat) (n : Fin 4) (k : Fin 3) (low above : Bool) (s : State) : Result := live dt s fun s => s.vdsLevel n k low above

/-- AC_BSUV (R576). -/
def execAcBsuv (dt : Nat) (n : Fin 4) (k : Fin 3) (low : Bool) (s : State) : Result := live dt s fun s => s.bsInput n k low

/-- AC_PRECHARGE_END (R580). -/
def execAcPrechargeEnd (dt : Nat) (n : Fin 4) (s : State) : Result :=
  live dt s fun s => s.acPrechEnd n

/-- ACT_VM_CONVERSION (R587). -/
def execActVmConversion (dt : Nat) (v : Fin 4096) (s : State) : Result := live dt s fun s => s.actVm v

/-- SUMP_ACT_MAXON (R588). -/
def execSumpActMaxon (dt : Nat) (s : State) : Result := live dt s State.sumpActMax

/-- SUMP_ACT_MINOFF_END (R588). -/
def execSumpActMinoffEnd (dt : Nat) (s : State) : Result := live dt s State.sumpActEnd

end Sys2Proof.Machine
end

