-- ==== Sys2Proof/Machine/CmdMeasurement.lean ====
section
/-! DEFINITION. The meanings of the commands: converters and fitters. -/

namespace Sys2Proof.Machine

/-- WINDOW_SAMPLE_RESULT (R133). -/
def execWindowSampleResult (dt : Nat) (n : Fin 6) (raws : List Nat) (perr : Fin 16) (s : State) : Result :=
  guarded (.windowSampleResult dt n raws perr) <| live dt s fun s => s.windowSample n raws perr

/-- ONCE_ENTRY_RESULT (R133). -/
def execOnceEntryResult (dt : Nat) (n : Fin 6) (samples : List (Nat × Nat)) (perr : Bool) (s : State) : Result :=
  guarded (.onceEntryResult dt n samples perr) <| live dt s fun s => s.onceEntry n samples perr

/-- WINDOW_TIMEOUT (R136). -/
def execWindowTimeout (dt : Nat) (n : Fin 6) (s : State) : Result := live dt s fun s => s.winTimeout n

/-- ESTIMATOR_UPDATE (R116). -/
def execEstimatorUpdate (dt : Nat) (n : Fin 6) (deltas : List Int) (s : State) : Result :=
  guarded (.estimatorUpdate dt n deltas) <| live dt s fun s => s.estimate n deltas

/-- FIT_COMPLETE (R175). -/
def execFitComplete (dt : Nat) (f : Fin 6) (s : State) : Result := live dt s fun s => s.fitComplete f

end Sys2Proof.Machine
end

