-- ==== Sys2Proof/Machine/CmdModulators.lean ====
section
/-! DEFINITION. The meanings of the commands: the traction modulators. -/

namespace Sys2Proof.Machine

/-- TM_REFERENCE_WRITE (R377). -/
def execTmReferenceWrite (dt : Nat) (m k : Fin 2) (ua ub : Option Word) (s : State) : Result :=
  live dt s fun s => s.outWrites (refWrites (Reg.TM_UA m k) (Reg.TM_UB m k) ua ub)

/-- TM_CARRIER_WRITE (R380). -/
def execTmCarrierWrite (dt : Nat) (m k : Fin 2) (s : State) : Result := live dt s fun s => s.tmCarrierWrite m k

/-- TM_DRAPERY_UPDATE (R411). -/
def execTmDraperyUpdate (dt : Nat) (m k : Fin 2) (s : State) : Result := live dt s fun s => s.tmDraperyUpdate m k

/-- DRAPERY_EDGE_PUSH (R389). -/
def execDraperyEdgePush (dt : Nat) (m k : Fin 2) (p : Fin 3) (s : State) : Result := live dt s fun s => (s.tmOverrun m k).tmFill m k p

/-- TRANSITION_WINDOW_START (R405). -/
def execTransitionWindowStart (dt : Nat) (m k : Fin 2) (s : State) : Result := live dt s fun s => s.tmWindow m k

/-- TRANSITION_SLOT_CHANGE (R407). -/
def execTransitionSlotChange (dt : Nat) (m k : Fin 2) (s : State) : Result := live dt s fun s => s.tmSlotChange m k

/-- TRANSITION_COMPLETE (R407). -/
def execTransitionComplete (dt : Nat) (m k : Fin 2) (s : State) : Result := live dt s fun s => s.tmXDone m k

/-- HANDOVER_SHADOW_WRITE (R401). -/
def execHandoverShadowWrite (dt : Nat) (m : Fin 2) (s : State) : Result := live dt s fun s => s.tmHandShadows m

/-- HANDOVER_LOAD_POINT (R401). -/
def execHandoverLoadPoint (dt : Nat) (m : Fin 2) (s : State) : Result :=
  live dt s fun s => (s.tmHandLoads m).2.each (s.tmHandLoads m).1 State.pgLoadPoint

end Sys2Proof.Machine
end

