-- ==== Sys2Proof/Machine/CmdPowerStage.lean ====
section
/-! DEFINITION. The meanings of the commands: PG channels and the STO request. -/

namespace Sys2Proof.Machine

/-- PG_LOAD_POINT (R316). -/
def execPgLoadPoint (dt : Nat) (c : Fin 40) (s : State) : Result := live dt s fun s => s.pgAngleLoad c

/-- REFERENCE_EDGE (R307). -/
def execReferenceEdge (dt : Nat) (c : Fin 40) (s : State) : Result := live dt s fun s => s.referenceEdge c

/-- EDGE_QUEUE_FIRE (R310). -/
def execEdgeQueueFire (dt : Nat) (c : Fin 40) (s : State) : Result := live dt s fun s => s.edgeFire c

/-- EDGE_QUEUE_PUSH (R313). -/
def execEdgeQueuePush (dt : Nat) (c : Fin 40) (x : Word) (sh sl : Bool) (s : State) : Result := live dt s fun s => s.pushedBy c x sh sl

/-- TURN_ON (R321). -/
def execTurnOn (dt : Nat) (c : Fin 40) (low : Bool) (s : State) : Result := live dt s fun s => s.turnOn c low

/-- OFF_CONFIRM_CHANGE (R323). -/
def execOffConfirmChange (dt : Nat) (c : Fin 40) (low on : Bool) (s : State) : Result := live dt s fun s => s.pinLevel .oc (2 * c + b2n low) (b2n on)

/-- OFF_CONFIRM_MISSING (R325). -/
def execOffConfirmMissing (dt : Nat) (c : Fin 40) (low : Bool) (s : State) : Result := live dt s fun s => s.ocMissing c low

/-- TURN_ON_NOT_CONFIRMED (R327). -/
def execTurnOnNotConfirmed (dt : Nat) (c : Fin 40) (low : Bool) (s : State) : Result := live dt s fun s => s.notConfirmed c low

/-- STO_REQUEST_CHANGE (R644). -/
def execStoRequestChange (dt : Nat) (s : State) : Result := live dt s State.safetyFollow

end Sys2Proof.Machine
end

