-- ==== Sys2Proof/Machine/CmdProtection.lean ====
section
/-! DEFINITION. The meanings of the commands: comparators, the Sump and the decision rounds. -/

namespace Sys2Proof.Machine

/-- COMPARATOR_CHANGE (R596). -/
def execComparatorChange (dt : Nat) (k : Fin 48) (v : Int) (s : State) : Result := live dt s fun s => s.cmpVolt k v

/-- CMP_TRIP_CLEAR (R598). -/
def execCmpTripClear (dt : Nat) (k : Fin 48) (s : State) : Result :=
  live dt s fun s => s.writeOne (Reg.CMP_STAT k) (BitVec.ofNat 32 (2 ^ (F.CMP_STAT_TRIP k).lsb))

/-- CMP_TEST_START (R606). -/
def execCmpTestStart (dt : Nat) (k : Fin 48) (s : State) : Result :=
  live dt s fun s => s.writeOne (Reg.CMP_TEST k) (BitVec.ofNat 32 (2 ^ (F.CMP_TEST_START k).lsb))

/-- OVER_VOLTAGE_RELEASE (R612). -/
def execOverVoltageRelease (dt : Nat) (s : State) : Result := live dt s State.ovRelease

/-- TRACTION_SUMP_MAXON (R614). -/
def execTractionSumpMaxon (dt : Nat) (s : State) : Result := live dt s State.sumpMax

/-- TRACTION_SUMP_MINOFF_END (R614). -/
def execTractionSumpMinoffEnd (dt : Nat) (s : State) : Result := live dt s State.sumpMinEnd

/-- DECISION_ROUND (R623). -/
def execDecisionRound (dt : Nat) (s : State) : Result := live dt s State.decisionRound

/-- BLANKING_END (R598). -/
def execBlankingEnd (dt : Nat) (k : Fin 48) (s : State) : Result := live dt s fun s => s.blankEnd k

end Sys2Proof.Machine
end

