-- ==== Sys2Proof/Machine/CmdQueues.lean ====
section
/-! DEFINITION. The meanings of the commands: galleries, memory protection and the fault log. -/

namespace Sys2Proof.Machine

/-- GQ_PUSH (R745). -/
def execGqPush (dt : Nat) (g : Fin 64) (w : Word) (s : State) : Result := live dt s fun s => s.gqPushWord g w

/-- GQ_PUSHE (R745). -/
def execGqPushe (dt : Nat) (g : Fin 64) (w : Word) (s : State) : Result := live dt s fun s => s.gqPushEndWord g w

/-- GQ_END (R745). -/
def execGqEnd (dt : Nat) (g : Fin 64) (w : Word) (s : State) : Result := live dt s fun s => s.gqEndWord g w

/-- GQ_PACK (R747). -/
def execGqPack (dt : Nat) (g : Fin 64) (s : State) : Result := live dt s fun s => s.gqPack g

/-- GQ_POPTAG (R753). -/
def execGqPoptag (dt : Nat) (g : Fin 64) (s : State) : Result := live dt s fun s => s.readFrame false 1 (Reg.GQ_POPTAG g)

/-- GQ_POINTER_MISMATCH (R759). -/
def execGqPointerMismatch (dt : Nat) (g : Fin 64) (s : State) : Result := live dt s fun s => s.gqMismatch g

/-- EVENT_LOG_PUSH (R832). -/
def execEventLogPush (dt : Nat) (s : State) : Result := live dt s State.eventLogPush

/-- PARITY_WRITE_BACK (R728). -/
def execParityWriteBack (dt a : Nat) (s : State) : Result := guarded (.parityWriteBack dt a) <| live dt s fun s => s.writeBack a

/-- SCRUB_STEP (R736). -/
def execScrubStep (dt : Nat) (ups : List (Nat × Byte × Bool)) (s : State) : Result :=
  guarded (.scrubStep dt ups) <| live dt s fun s => (s.each ups fun s u => s.upset ⟨u.1, u.2.1, u.2.2⟩).scrubStep

/-- MP_FLIP_ARM (R738). -/
def execMpFlipArm (dt : Nat) (bank : Fin 4) (mask : Fin 16) (s : State) : Result :=
  live dt s fun s => s.writeOne Reg.MP_FLIP (BitVec.ofNat 32 (2 ^ 31 + bank * 2 ^ 20 + mask))

/-- FAULT_LOG_WRITE (R806). -/
def execFaultLogWrite (dt : Nat) (s : State) : Result := live dt s State.flWrite

/-- FAULT_LOG_READBACK (R807). -/
def execFaultLogReadback (dt : Nat) (good : Bool) (s : State) : Result := live dt s fun s => s.flReadback good

/-- FAULT_LOG_ERASE (R806). -/
def execFaultLogErase (dt : Nat) (s : State) : Result := live dt s State.flErased

end Sys2Proof.Machine
end

