-- ==== Sys2Proof/Machine/SafetyTask.lean ====
section
/-! DEFINITION. The task steps of the safety controller in their lead and Echo forms (R291 to R294). -/

namespace Sys2Proof.Machine

/-- Where a word of the safety controller goes: a register, a shadow copy, or a byte of the SRAM. -/
inductive ScSpace where
  | reg
  | shadow
  | sram
  deriving DecidableEq, Repr

/-- A held write of a step: its place, the word of the lead form, and the word of the Echo form (R292). -/
structure HeldWrite where
  space : ScSpace
  addr  : Nat
  lead  : Word
  echo  : Word
  deriving DecidableEq, Repr

/-- A held write may be released: the lead word is the complement of the Echo word (R292). -/
def HeldWrite.passes (w : HeldWrite) : Bool := w.lead == ~~~ w.echo

/-- The lead form of a step. -/
def State.scLead (s : State) : ScTask → State
  | .refresh addrs => s.each addrs fun s a => s.setReg a (s.reg a)
  | .decisionRound => s.decisionRound
  | .ss1MsTick => s.ss1Tick
  | .ss1Sto => s.ss1Sto
  | .slsCheck => s.slsCheck
  | .torqueLimitWrite => s.slimWrite
  | .sagRestore => s.sagRestore
  | .sagRampTick => s.sagTick
  | .deferredCommit => s.alDeferred
  | .cmdTrac => s.cmdTrac
  | .cmdAux => s.cmdAux
  | .statTrac => s.sendStatus
  | .evt => s.sendEvt
  | .announce => s.sendAnnounce
  | .eventLogPush => s.eventLogPush

/-- The addresses at which two lists of words differ, by a reading of each. -/
def changedAt (l : List (Nat × Word)) (m : List (Nat × Word)) (rd rd' : Nat → Word) : List Nat :=
  sortNat (((l ++ m).map Prod.fst).filter fun a => rd a != rd' a)

/-- The words that the lead form writes: those that a refresh names, and for any other step those that it changes. -/
def State.scWords (s t : State) : ScTask → List (ScSpace × Nat × Word)
  | .refresh addrs => addrs.map fun a => (.reg, a, s.reg a)
  | _ =>
    ((changedAt s.regs t.regs s.reg t.reg).map fun a => (.reg, a, t.reg a))
      ++ ((changedAt s.shadow t.shadow s.shad t.shad).map fun a => (.shadow, a, t.shad a))
      ++ (((sortNat ((s.mem ++ t.mem).map Prod.fst)).filter fun a => s.byte a != t.byte a).map fun a => (.sram, a, (t.byte a).setWidth 32))

/-- The held writes of a step whose lead form leads from `s` to `t`. The Echo form reads the complement of every word that the lead form reads, and
produces the complement of every word that it writes (R291); `faults` are bits of the Echo words that turn over, by number.
DEDUCED, unsafe (log entry 68). -/
def State.scHeld (s t : State) (k : ScTask) (faults : List (Nat × Word)) : List HeldWrite :=
  (s.scWords t k).zipIdx.map fun p =>
    let flip := ((faults.find? fun f => f.1 == p.2).map Prod.snd).getD 0
    ⟨p.1.1, p.1.2.1, p.1.2.2, ~~~ p.1.2.2 ^^^ flip⟩

/-- A step runs in both forms from the inputs in `s`: the state with its writes released, when every compare passes (R292). -/
def State.scRun (s : State) (k : ScTask) (faults : List (Nat × Word)) : Option State :=
  let t := s.scLead k
  if (s.scHeld t k faults).all HeldWrite.passes then some t else none

/-- A task step. When a compare fails, no held write is released and the step runs again from the inputs that it saved at its start; when the
repeated step fails too, or a step failed less than 10 ms before, the safety controller has failed (R291 to R294). -/
def State.scTask (s : State) (k : ScTask) (f1 f2 : List (Nat × Word)) : State :=
  match s.scRun k f1 with
  | some t => t
  | none =>
    match s.scMis.scRun k f2 with
    | some t => t.when s.scNear State.scFails
    | none => s.scMis.scFails

end Sys2Proof.Machine
end

