-- ==== Sys2Proof/Machine/CmdRuns.lean ====
section
/-! DEFINITION. The meanings of the commands: engines and the safety controller. -/

namespace Sys2Proof.Machine

/-- RUN_START (R209). -/
def execRunStart (dt : Nat) (n : Fin 4) (l : Fin 2) (faults : List (Nat × Word)) (s : State) : Result :=
  live dt s fun s => s.runStart n l faults

/-- RUN_COMPLETE (R210). -/
def execRunComplete (dt : Nat) (n : Fin 4) (l : Fin 2) (s : State) : Result := live dt s fun s => s.runComplete n l

/-- SUPERVISION_TIMEOUT (R246). -/
def execSupervisionTimeout (dt : Nat) (c : Fin 384) (s : State) : Result := live dt s fun s => s.supTimeout c

/-- SAFETY_CONTROLLER_STEP (R291). -/
def execSafetyControllerStep (dt : Nat) (task : ScTask) (f1 f2 : List (Nat × Word)) (s : State) : Result :=
  live dt s fun s => s.scTask task f1 f2

/-- EC_INJ_ARM (R299). -/
def execEcInjArm (dt : Nat) (n : Fin 4) (pass noesc : Bool) (stg : Fin 32) (ctx : Fin 512) (s : State) : Result :=
  live dt s fun s => s.writeOne (Reg.EC_INJ n) (BitVec.ofNat 32 (2 ^ 31 + b2n pass * 2 ^ 30 + b2n noesc * 2 ^ 29 + stg * 2 ^ 24 + ctx))

end Sys2Proof.Machine
end

