-- ==== Sys2Proof/Machine/CmdSafetyFunctions.lean ====
section
/-! DEFINITION. The meanings of the commands: safe inputs, safety functions, safe outputs, temperature and supply. -/

namespace Sys2Proof.Machine

/-- SAFETY_INPUT_CHANGE (R637). -/
def execSafetyInputChange (dt : Nat) (n : Fin 8) (chB : Bool) (level : Fin 3) (s : State) : Result :=
  live dt s fun s => s.sinLevel n chB level

/-- DISCREPANCY_TIMEOUT (R639). -/
def execDiscrepancyTimeout (dt : Nat) (n : Fin 8) (s : State) : Result := live dt s fun s => s.pairDisc n

/-- SS1_MS_TICK (R648). -/
def execSs1MsTick (dt : Nat) (s : State) : Result := live dt s State.ss1Tick

/-- SS1_STO (R648). -/
def execSs1Sto (dt : Nat) (s : State) : Result := live dt s State.ss1Sto

/-- SLS_CHECK (R652). -/
def execSlsCheck (dt : Nat) (s : State) : Result := live dt s State.slsCheck

/-- SLS_VIOLATION (R653). -/
def execSlsViolation (dt : Nat) (t : Fin 2) (s : State) : Result := live dt s fun s => s.slsViolation t

/-- SBC_DELAY_END (R651). -/
def execSbcDelayEnd (dt : Nat) (s : State) : Result := live dt s State.outputsFollow

/-- STO_READBACK_MISMATCH (R646). -/
def execStoReadbackMismatch (dt : Nat) (a b : Bool) (s : State) : Result := live dt s fun s => s.wireMismatch a b

/-- TORQUE_LIMIT_WRITE (R650). -/
def execTorqueLimitWrite (dt : Nat) (s : State) : Result := live dt s State.slimWrite

/-- SAFE_OUTPUT_TEST_START (R656). -/
def execSafeOutputTestStart (dt : Nat) (n : Fin 8) (s : State) : Result := live dt s fun s => s.soTestStart n

/-- SAFE_OUTPUT_PULSE_END (R656). -/
def execSafeOutputPulseEnd (dt : Nat) (n : Fin 8) (s : State) : Result := live dt s fun s => s.soPulseEnd n

/-- READBACK_CHANGE (R655). -/
def execReadbackChange (dt : Nat) (n : Fin 8) (level : Bool) (s : State) : Result := live dt s fun s => s.srbLevel n level

/-- READBACK_TIMEOUT (R658). -/
def execReadbackTimeout (dt : Nat) (n : Fin 8) (s : State) : Result := live dt s fun s => s.soTimeout n

/-- TEMPERATURE_CONVERSION (R663). -/
def execTemperatureConversion (dt : Nat) (k : Fin 24) (v : Int) (s : State) : Result := live dt s fun s => s.tempConvert k v

/-- VSYS_CONVERSION (R667). -/
def execVsysConversion (dt : Nat) (v : Fin 65536) (s : State) : Result := live dt s fun s => s.vsys v

/-- SAG_RESTORE (R667). -/
def execSagRestore (dt : Nat) (s : State) : Result := live dt s State.sagRestore

/-- SAG_RAMP_TICK (R668). -/
def execSagRampTick (dt : Nat) (s : State) : Result := live dt s State.sagTick

/-- RAIL_FAULT (R671). -/
def execRailFault (dt : Nat) (rail : Fin 6) (v : Nat) (s : State) : Result := run dt s fun s => s.railChange rail v

end Sys2Proof.Machine
end

