-- ==== Sys2Proof/Machine/CmdSensors.lean ====
section
/-! DEFINITION. The meanings of the commands: the position and speed interfaces. -/

namespace Sys2Proof.Machine

/-- The excitation output of an interface (R456). -/
def State.excite (s : State) (i : Nat) : State :=
  if !(s.flag (F.RS_CFG_EN i) && !s.rsSinCos i) || s.sys == sysDefaults then s.modRs i fun x => { x with exc := 0 }
  else if s.now % 20 != 0 then s
  else s.modRs i fun x => { x with exc := s.fld (F.RS_EXC_AMP i) * sinA (s.angle (s.fld (F.RS_CFG_EDOM i))) }

/-- RESOLVER_DELIVERY (R464). -/
def execResolverDelivery (dt : Nat) (i : Fin 2) (s : State) : Result := live dt s fun s => s.rsDeliver i

/-- QUADRATURE_COUNT (R468, R469): new levels at the pins, which count when the filters have recognised them. -/
def execQuadratureCount (dt : Nat) (q : Fin 8) (a b i : Bool) (s : State) : Result := live dt s fun s =>
  ((s.pinLevel .qd (3 * q) (b2n a)).pinLevel .qd (3 * q + 1) (b2n b)).pinLevel .qd (3 * q + 2) (b2n i)

/-- QD_DELIVERY (R473). -/
def execQdDelivery (dt : Nat) (q : Fin 8) (s : State) : Result := live dt s fun s => s.qdDeliver q

/-- QD_INDEX (R468, R479): a new level at the index pin. -/
def execQdIndex (dt : Nat) (q : Fin 8) (i : Bool) (s : State) : Result := live dt s fun s => s.pinLevel .qd (3 * q + 2) (b2n i)

/-- QD_HOLD_DELIVERY (R474). -/
def execQdHoldDelivery (dt : Nat) (q : Fin 8) (s : State) : Result := live dt s fun s => s.qdHold q

/-- QD_COMPARE_PULSE_END (R485). -/
def execQdComparePulseEnd (dt : Nat) (q : Fin 8) (s : State) : Result := live dt s fun s => s.qdPulseEnd q

/-- HALL_TRANSITION (R488): new levels at the pins of a triplet. -/
def execHallTransition (dt : Nat) (h : Fin 4) (hall : Fin 8) (s : State) : Result := live dt s fun s =>
  s.each [0, 1, 2] fun s i => s.pinLevel .hall (3 * h + i) (b2n (bitOf hall.val (2 - i)))

/-- HALL_DELIVERY (R488). -/
def execHallDelivery (dt : Nat) (h : Fin 4) (s : State) : Result := live dt s fun s => s.hlDeliver h

/-- HALL_HOLD_DELIVERY (R490). -/
def execHallHoldDelivery (dt : Nat) (h : Fin 4) (s : State) : Result := live dt s fun s => s.hlHold h

/-- EXCITATION_UPDATE (R456). -/
def execExcitationUpdate (dt : Nat) (i : Fin 2) (s : State) : Result := live dt s fun s => s.excite i

end Sys2Proof.Machine
end

