-- ==== Sys2Proof/Machine/CmdServicePort.lean ====
section
/-! DEFINITION. The meanings of the commands: the service port, the unlock, the trace recorder and the OTP. -/

namespace Sys2Proof.Machine

/-- SP_READ (R817). DEDUCED, safe (log entry 4). -/
def execSpRead (dt n addr : Nat) (hcrc : Byte) (s : State) : Result :=
  guarded (.spRead dt n addr hcrc) <| live dt s fun s => s.spRead false n addr hcrc

/-- SP_READS (R819). -/
def execSpReads (dt n addr : Nat) (hcrc : Byte) (s : State) : Result :=
  guarded (.spReads dt n addr hcrc) <| live dt s fun s => s.spRead true n addr hcrc

/-- SP_WRITE (R818). -/
def execSpWrite (dt addr : Nat) (ws : List Word) (hcrc dcrc : Byte) (s : State) : Result :=
  guarded (.spWrite dt addr ws hcrc dcrc) <| live dt s fun s => s.spWrite addr ws hcrc dcrc

/-- SP_FRAME_ABORT (R815). -/
def execSpFrameAbort (dt : Nat) (s : State) : Result := live dt s State.spAbort

/-- REGISTER_WRITE (R820). -/
def execRegisterWrite (dt a : Nat) (w : Word) (s : State) : Result := guarded (.registerWrite dt a w) <| live dt s fun s => s.writeOne a w

/-- SP_UNLOCK (R821). -/
def execSpUnlock (dt : Nat) (key : Fin 65536) (dur : Fin 1024) (s : State) : Result :=
  live dt s fun s => s.writeOne Reg.SP_UNLOCK (BitVec.ofNat 32 (key * 2 ^ 16 + dur))

/-- UNLOCK_END (R822). -/
def execUnlockEnd (dt : Nat) (s : State) : Result := live dt s State.unlockEnds

/-- SYS_RST (R823). -/
def execSysRst (dt : Nat) (s : State) : Result := live dt s fun s => s.writeOne Reg.SYS_RST (BitVec.ofNat 32 resetCode)

/-- CG_REQ (R824). -/
def execCgReq (dt : Nat) (g : Fin 1024) (s : State) : Result := live dt s fun s => s.writeOne Reg.CG_REQ (BitVec.ofNat 32 g)

/-- TR_ARM (R837). -/
def execTrArm (dt : Nat) (s : State) : Result := live dt s fun s => s.writeOne Reg.TR_CTL 1

/-- TR_FORCE (R837). -/
def execTrForce (dt : Nat) (s : State) : Result := live dt s fun s => s.writeOne Reg.TR_CTL 2

/-- TRACE_RECORD (R836). -/
def execTraceRecord (dt : Nat) (s : State) : Result := live dt s State.traceRecord

/-- FREL (R800). -/
def execFrel (dt : Nat) (on : Bool) (s : State) : Result := live dt s fun s => s.writeOne Reg.LT_CTL (BitVec.ofNat 32 (b2n on))

/-- OTP_PROGRAM_KEY (R801). -/
def execOtpProgramKey (dt : Nat) (pcode : Fin 65536) (s : State) : Result :=
  live dt s fun s => s.writeOne Reg.OTP_PROG (BitVec.ofNat 32 (pcode * 2 ^ 16 + 1))

/-- OTP_SET_FRELDIS (R801). -/
def execOtpSetFreldis (dt : Nat) (pcode : Fin 65536) (s : State) : Result :=
  live dt s fun s => s.writeOne Reg.OTP_PROG (BitVec.ofNat 32 (pcode * 2 ^ 16 + 2))

/-- OTP_SET_FMT2DIS (R801). -/
def execOtpSetFmt2dis (dt : Nat) (pcode : Fin 65536) (s : State) : Result :=
  live dt s fun s => s.writeOne Reg.OTP_PROG (BitVec.ofNat 32 (pcode * 2 ^ 16 + 3))

/-- OTP_PROGRAM_COMPLETE (R801). -/
def execOtpProgramComplete (dt : Nat) (good : Bool) (s : State) : Result := live dt s fun s => s.otpDone good

/-- SP_RESERVED_OPCODE (R818). -/
def execSpReservedOpcode (dt : Nat) (op : Fin 8) (n addr : Nat) (hcrc : Byte) (s : State) : Result :=
  guarded (.spReservedOpcode dt op n addr hcrc) <| live dt s fun s => s.spReserved op n addr hcrc

end Sys2Proof.Machine
end

