-- ==== Sys2Proof/Machine/CmdStartup.lean ====
section
/-! DEFINITION. The meanings of the commands: reset, LOAD and TEST. -/

namespace Sys2Proof.Machine

/-- RESET_ASSERT (R764). -/
def execResetAssert (dt : Nat) (por : Bool) (s : State) : Result := run dt s fun s => s.enterReset (if por then rstPower else rstPin)

/-- RESET_RELEASE (R764). DEDUCED, safe (log entry 4). -/
def execResetRelease (dt : Nat) (tmode : Bool) (vioA vioC : Nat) (s : State) : Result := run dt s fun s => s.resetRelease tmode vioA vioC

/-- PLL_LOCK (R32). -/
def execPllLock (dt : Nat) (trim : List Nat) (trimOk : Bool) (d : Sfdp) (s : State) : Result :=
  guarded (.pllLock dt trim trimOk d) <| run dt s fun s => s.pllLock trim trimOk d

/-- REFERENCE_LOSS (R33). -/
def execReferenceLoss (dt : Nat) (s : State) : Result := live dt s State.referenceLoss

/-- SLOT_CHECK (R777). -/
def execSlotCheck (dt : Nat) (slotB : Bool) (bytes : List Byte) (s : State) : Result :=
  live dt s fun s => s.slotCheck slotB bytes

/-- FAULT_LOG_SCAN (R804). -/
def execFaultLogScan (dt : Nat) (region : List (Nat × List Byte)) (s : State) : Result :=
  guarded (.faultLogScan dt region) <| live dt s fun s => s.endLoad region

/-- MEMORY_SELF_TEST (R740). -/
def execMemorySelfTest (dt : Nat) (defect : Option (Nat × Nat)) (s : State) : Result :=
  guarded (.memorySelfTest dt defect) <| live dt s fun s => s.memoryTest defect

/-- IMAGE_SECTION_LOAD (R785). -/
def execImageSectionLoad (dt : Nat) (bad : Option Nat) (s : State) : Result := live dt s fun s => s.sectionLoad bad

/-- ENGINE_SELF_TEST (R296). -/
def execEngineSelfTest (dt : Nat) (engs : List EngineTest) (core : CoreTest) (s : State) : Result :=
  guarded (.engineSelfTest dt engs core) <| live dt s fun s => s.engineTest engs core

/-- COMPARATOR_SELF_TEST_END (R603). -/
def execComparatorSelfTestEnd (dt : Nat) (k : Fin 48) (pass : Bool) (s : State) : Result := live dt s fun s => s.cmpTestEnd k pass

/-- COMPARATOR_RESOLVE_TIMEOUT (R602). -/
def execComparatorResolveTimeout (dt : Nat) (s : State) : Result := live dt s State.resolveTimeout

/-- GATE_LINK_STARTUP_TIMEOUT (R370). -/
def execGateLinkStartupTimeout (dt : Nat) (n : Fin 4) (s : State) : Result := live dt s fun s => s.glStartEnd n

/-- SAFETY_IO_TEST (R659). -/
def execSafetyIoTest (dt : Nat) (s : State) : Result := live dt s State.ioTest

/-- CONV_WAIT_TIMEOUT (R125). -/
def execConvWaitTimeout (dt : Nat) (s : State) : Result := live dt s State.convTimeout

/-- DOMAIN_ENABLE (R767). -/
def execDomainEnable (dt : Nat) (s : State) : Result := live dt s State.domainEnable

/-- TEST_DECISION_ROUND (R626). -/
def execTestDecisionRound (dt : Nat) (s : State) : Result := live dt s State.testRound

/-- FLASH_RESET_RELEASE (R764). -/
def execFlashResetRelease (dt : Nat) (s : State) : Result := run dt s State.flashResetRelease

end Sys2Proof.Machine
end

