-- ==== Sys2Proof/Machine/CmdTraction.lean ====
section
/-! DEFINITION. The meanings of the commands: the field controllers. -/

namespace Sys2Proof.Machine

/-- FC_STEP (R420). -/
def execFcStep (dt : Nat) (t : Fin 2) (defect : Bool) (s : State) : Result := live dt s fun s => s.tcStep t defect

/-- FC_STEP_WRITE (R421). -/
def execFcStepWrite (dt : Nat) (t : Fin 2) (s : State) : Result := live dt s fun s => s.tcWrite t

/-- CATCH_TIMEOUT (R434). -/
def execCatchTimeout (dt : Nat) (t : Fin 2) (s : State) : Result :=
  live dt s fun s => s.tcTimeout t tcCatch (s.fld (F.TC_TMO0_CATCHTMO t))

/-- PREFW_TIMEOUT (R434). -/
def execPrefwTimeout (dt : Nat) (t : Fin 2) (s : State) : Result :=
  live dt s fun s => s.tcTimeout t tcPrefw (s.fld (F.TC_TMO1_PFWTMO t))

/-- RECAPTURE_TIMEOUT (R434). -/
def execRecaptureTimeout (dt : Nat) (t : Fin 2) (s : State) : Result :=
  live dt s fun s => s.tcTimeout t tcRecap (s.fld (F.TC_TMO1_RECTMO t))

/-- OBSERVER_DELIVERY (R436). -/
def execObserverDelivery (dt : Nat) (t : Fin 2) (s : State) : Result := live dt s fun s => s.obsDeliver t

end Sys2Proof.Machine
end

