-- ==== Sys2Proof/Machine/CmdVehicle.lean ====
section
/-! DEFINITION. The meanings of the commands: CAN FD and Axle Link. -/

namespace Sys2Proof.Machine

/-- A frame of controller `k` ends; an EVT that was sent leaves its queue (R686, R712). -/
def State.frameEnds (s : State) (k outcome ago tdcv : Nat) : State :=
  match s.canTransmit k outcome ago tdcv with
  | (some b, s) => s.alSent k b
  | (none, s) => s

/-- CAN_START (R682). -/
def execCanStart (dt : Nat) (k : Fin 4) (s : State) : Result := live dt s fun s => s.canStart k

/-- CAN_INTEGRATION_START (R682). -/
def execCanIntegrationStart (dt : Nat) (k : Fin 4) (s : State) : Result := live dt s fun s => s.canIntegrate k

/-- FRAME_RECEIVED (R690). -/
def execFrameReceived (dt : Nat) (k : Fin 4) (ide fdf brs esi rtr res : Bool) (id dlc : Nat) (data : List Byte) (s : State) : Result :=
  guarded (.frameReceived dt k ide fdf brs esi rtr res id dlc data) <| live dt s fun s => s.canReceive k ⟨ide, fdf, brs, esi, rtr, res,
    id, dlc, data⟩

/-- FRAME_TRANSMITTED (R686). -/
def execFrameTransmitted (dt : Nat) (k : Fin 4) (outcome : Fin 3) (ago tdcv : Nat) (s : State) : Result :=
  live dt s fun s => s.frameEnds k outcome ago tdcv

/-- FRAME_ERROR (R694). -/
def execFrameError (dt : Nat) (k : Fin 4) (err : Fin 8) (dataPhase : Bool) (inc : Fin 4) (s : State) : Result :=
  live dt s fun s => s.canError k err dataPhase inc

/-- BUS_OFF_RECOVERY (R693). -/
def execBusOffRecovery (dt : Nat) (k : Fin 4) (s : State) : Result := live dt s fun s => s.canRecover k

/-- TRANSMIT_WITHDRAW (R688). -/
def execTransmitWithdraw (dt : Nat) (k : Fin 4) (b : Fin 8) (onWire : Bool) (s : State) : Result :=
  live dt s fun s => s.canWithdraw k b onWire

/-- RECEIVE_BUFFER_READ (R691). -/
def execReceiveBufferRead (dt : Nat) (k : Fin 4) (j : Fin 16) (s : State) : Result := live dt s fun s => s.rxRead k j

/-- CMD_TRAC (R707). -/
def execCmdTrac (dt : Nat) (s : State) : Result := live dt s State.cmdTrac

/-- CMD_AUX (R709). -/
def execCmdAux (dt : Nat) (s : State) : Result := live dt s State.cmdAux

/-- SESS_REQ_OPEN (R704). -/
def execSessReqOpen (dt : Nat) (s : State) : Result := live dt s State.sessOpenReq

/-- SESS_REQ_CLOSE (R705). -/
def execSessReqClose (dt : Nat) (s : State) : Result := live dt s State.sessCloseReq

/-- RESTART (R715). -/
def execRestart (dt : Nat) (s : State) : Result := live dt s State.reqRestart

/-- REARM (R716). -/
def execRearm (dt : Nat) (s : State) : Result := live dt s State.reqRearm

/-- READREG (R717). -/
def execReadreg (dt : Nat) (s : State) : Result := live dt s State.reqReadreg

/-- STAT_TRAC (R710). -/
def execStatTrac (dt : Nat) (s : State) : Result := live dt s State.sendStatus

/-- EVT (R712). -/
def execEvt (dt : Nat) (s : State) : Result := live dt s State.sendEvt

/-- ANNOUNCE (R701). -/
def execAnnounce (dt : Nat) (s : State) : Result := live dt s State.sendAnnounce

/-- ANNOUNCE_DEFAULTS (R722). -/
def execAnnounceDefaults (dt : Nat) (s : State) : Result := live dt s State.announceDefaults

/-- PATH_LOSS (R718). -/
def execPathLoss (dt : Nat) (p : Fin 2) (s : State) : Result := live dt s fun s => s.pathLoss p

/-- FAILOVER_HOLD_END (R719). -/
def execFailoverHoldEnd (dt : Nat) (s : State) : Result := live dt s State.holdEnd

/-- BUS_INTEGRATION_END (R682). -/
def execBusIntegrationEnd (dt : Nat) (k : Fin 4) (s : State) : Result := live dt s fun s => s.canIntegrated k

end Sys2Proof.Machine
end

