-- ==== Sys2Proof/Machine/Dispatch.lean ====
section
/-! DEFINITION. What each command does: one arm per constructor, each a direct call of its meaning. -/

namespace Sys2Proof.Machine

def exec (i : Instr) (s : State) : Host.Outcome State Fault Refusal :=
  match i with
  | .resetAssert dt por => Sys2Proof.Machine.execResetAssert dt por s
  | .resetRelease dt tmode vioA vioC => Sys2Proof.Machine.execResetRelease dt tmode vioA vioC s
  | .pllLock dt trim trimOk d => Sys2Proof.Machine.execPllLock dt trim trimOk d s
  | .referenceLoss dt => Sys2Proof.Machine.execReferenceLoss dt s
  | .slotCheck dt slotB bytes => Sys2Proof.Machine.execSlotCheck dt slotB bytes s
  | .faultLogScan dt region => Sys2Proof.Machine.execFaultLogScan dt region s
  | .memorySelfTest dt defect => Sys2Proof.Machine.execMemorySelfTest dt defect s
  | .imageSectionLoad dt bad => Sys2Proof.Machine.execImageSectionLoad dt bad s
  | .engineSelfTest dt engs core => Sys2Proof.Machine.execEngineSelfTest dt engs core s
  | .comparatorSelfTestEnd dt k pass => Sys2Proof.Machine.execComparatorSelfTestEnd dt k pass s
  | .comparatorResolveTimeout dt => Sys2Proof.Machine.execComparatorResolveTimeout dt s
  | .gateLinkStartupTimeout dt n => Sys2Proof.Machine.execGateLinkStartupTimeout dt n s
  | .safetyIoTest dt => Sys2Proof.Machine.execSafetyIoTest dt s
  | .convWaitTimeout dt => Sys2Proof.Machine.execConvWaitTimeout dt s
  | .domainEnable dt => Sys2Proof.Machine.execDomainEnable dt s
  | .testDecisionRound dt => Sys2Proof.Machine.execTestDecisionRound dt s
  | .measurementArrival dt d theta age good => Sys2Proof.Machine.execMeasurementArrival dt d theta age good s
  | .measurementTimeout dt d => Sys2Proof.Machine.execMeasurementTimeout dt d s
  | .coastTimeout dt d => Sys2Proof.Machine.execCoastTimeout dt d s
  | .domainBoundary dt d => Sys2Proof.Machine.execDomainBoundary dt d s
  | .forcedBoundary dt d => Sys2Proof.Machine.execForcedBoundary dt d s
  | .syncInEdge dt => Sys2Proof.Machine.execSyncInEdge dt s
  | .deferredCommit dt => Sys2Proof.Machine.execDeferredCommit dt s
  | .trackBoundary dt t => Sys2Proof.Machine.execTrackBoundary dt t s
  | .trackIdleExit dt t => Sys2Proof.Machine.execTrackIdleExit dt t s
  | .trackTimeoutReseek dt t => Sys2Proof.Machine.execTrackTimeoutReseek dt t s
  | .angleEntryFire dt t perr => Sys2Proof.Machine.execAngleEntryFire dt t perr s
  | .lateEntryFire dt t perr => Sys2Proof.Machine.execLateEntryFire dt t perr s
  | .delayEntryFire dt t perr => Sys2Proof.Machine.execDelayEntryFire dt t perr s
  | .converterAngleBoundary dt k => Sys2Proof.Machine.execConverterAngleBoundary dt k s
  | .seqStart dt t mask q perr => Sys2Proof.Machine.execSeqStart dt t mask q perr s
  | .winOpen dt t mask q perr => Sys2Proof.Machine.execWinOpen dt t mask q perr s
  | .winClose dt mask => Sys2Proof.Machine.execWinClose dt mask s
  | .loopStart dt t c => Sys2Proof.Machine.execLoopStart dt t c s
  | .outLoad dt t c => Sys2Proof.Machine.execOutLoad dt t c s
  | .event dt t src => Sys2Proof.Machine.execEvent dt t src s
  | .gqMark dt t g v => Sys2Proof.Machine.execGqMark dt t g v s
  | .profileTick dt g => Sys2Proof.Machine.execProfileTick dt g s
  | .snapshot dt d slot => Sys2Proof.Machine.execSnapshot dt d slot s
  | .pgStrobeLoadPoint dt c => Sys2Proof.Machine.execPgStrobeLoadPoint dt c s
  | .pgStrobeEmptyQueue dt c => Sys2Proof.Machine.execPgStrobeEmptyQueue dt c s
  | .pgStrobeLoadAndEmpty dt c => Sys2Proof.Machine.execPgStrobeLoadAndEmpty dt c s
  | .tmStrobeEvaluation dt m => Sys2Proof.Machine.execTmStrobeEvaluation dt m s
  | .tmStrobeRestart dt m => Sys2Proof.Machine.execTmStrobeRestart dt m s
  | .dcStrobeEvaluation dt => Sys2Proof.Machine.execDcStrobeEvaluation dt s
  | .acStrobeLoadPoint dt n => Sys2Proof.Machine.execAcStrobeLoadPoint dt n s
  | .windowSampleResult dt n raws perr => Sys2Proof.Machine.execWindowSampleResult dt n raws perr s
  | .onceEntryResult dt n samples perr => Sys2Proof.Machine.execOnceEntryResult dt n samples perr s
  | .windowTimeout dt n => Sys2Proof.Machine.execWindowTimeout dt n s
  | .estimatorUpdate dt n deltas => Sys2Proof.Machine.execEstimatorUpdate dt n deltas s
  | .fitComplete dt f => Sys2Proof.Machine.execFitComplete dt f s
  | .runStart dt n l faults => Sys2Proof.Machine.execRunStart dt n l faults s
  | .runComplete dt n l => Sys2Proof.Machine.execRunComplete dt n l s
  | .supervisionTimeout dt c => Sys2Proof.Machine.execSupervisionTimeout dt c s
  | .safetyControllerStep dt task f1 f2 => Sys2Proof.Machine.execSafetyControllerStep dt task f1 f2 s
  | .ecInjArm dt n pass noesc stg ctx => Sys2Proof.Machine.execEcInjArm dt n pass noesc stg ctx s
  | .pgLoadPoint dt c => Sys2Proof.Machine.execPgLoadPoint dt c s
  | .referenceEdge dt c => Sys2Proof.Machine.execReferenceEdge dt c s
  | .edgeQueueFire dt c => Sys2Proof.Machine.execEdgeQueueFire dt c s
  | .edgeQueuePush dt c x sh sl => Sys2Proof.Machine.execEdgeQueuePush dt c x sh sl s
  | .turnOn dt c low => Sys2Proof.Machine.execTurnOn dt c low s
  | .offConfirmChange dt c low on => Sys2Proof.Machine.execOffConfirmChange dt c low on s
  | .offConfirmMissing dt c low => Sys2Proof.Machine.execOffConfirmMissing dt c low s
  | .turnOnNotConfirmed dt c low => Sys2Proof.Machine.execTurnOnNotConfirmed dt c low s
  | .stoRequestChange dt => Sys2Proof.Machine.execStoRequestChange dt s
  | .enum dt n reach => Sys2Proof.Machine.execEnum dt n reach s
  | .hello dt n reach => Sys2Proof.Machine.execHello dt n reach s
  | .setver dt n reach => Sys2Proof.Machine.execSetver dt n reach s
  | .setrate dt n reach => Sys2Proof.Machine.execSetrate dt n reach s
  | .glRead dt n reach => Sys2Proof.Machine.execGlRead dt n reach s
  | .glWrite dt n reach => Sys2Proof.Machine.execGlWrite dt n reach s
  | .status dt n reach => Sys2Proof.Machine.execStatus dt n reach s
  | .clear dt n reach => Sys2Proof.Machine.execClear dt n reach s
  | .snap dt n reach => Sys2Proof.Machine.execSnap dt n reach s
  | .glResponse dt n echo resp => Sys2Proof.Machine.execGlResponse dt n echo resp s
  | .glResponseTimeout dt n => Sys2Proof.Machine.execGlResponseTimeout dt n s
  | .glPollTimer dt n => Sys2Proof.Machine.execGlPollTimer dt n s
  | .glAlert dt n asserted => Sys2Proof.Machine.execGlAlert dt n asserted s
  | .glRecoveryTimer dt n => Sys2Proof.Machine.execGlRecoveryTimer dt n s
  | .glRateFallbackWait dt n => Sys2Proof.Machine.execGlRateFallbackWait dt n s
  | .tmReferenceWrite dt m k ua ub => Sys2Proof.Machine.execTmReferenceWrite dt m k ua ub s
  | .tmCarrierWrite dt m k => Sys2Proof.Machine.execTmCarrierWrite dt m k s
  | .tmDraperyUpdate dt m k => Sys2Proof.Machine.execTmDraperyUpdate dt m k s
  | .draperyEdgePush dt m k p => Sys2Proof.Machine.execDraperyEdgePush dt m k p s
  | .transitionWindowStart dt m k => Sys2Proof.Machine.execTransitionWindowStart dt m k s
  | .transitionSlotChange dt m k => Sys2Proof.Machine.execTransitionSlotChange dt m k s
  | .transitionComplete dt m k => Sys2Proof.Machine.execTransitionComplete dt m k s
  | .handoverShadowWrite dt m => Sys2Proof.Machine.execHandoverShadowWrite dt m s
  | .handoverLoadPoint dt m => Sys2Proof.Machine.execHandoverLoadPoint dt m s
  | .fcStep dt t defect => Sys2Proof.Machine.execFcStep dt t defect s
  | .fcStepWrite dt t => Sys2Proof.Machine.execFcStepWrite dt t s
  | .catchTimeout dt t => Sys2Proof.Machine.execCatchTimeout dt t s
  | .prefwTimeout dt t => Sys2Proof.Machine.execPrefwTimeout dt t s
  | .recaptureTimeout dt t => Sys2Proof.Machine.execRecaptureTimeout dt t s
  | .observerDelivery dt t => Sys2Proof.Machine.execObserverDelivery dt t s
  | .resolverDelivery dt n => Sys2Proof.Machine.execResolverDelivery dt n s
  | .quadratureCount dt q a b x => Sys2Proof.Machine.execQuadratureCount dt q a b x s
  | .qdDelivery dt q => Sys2Proof.Machine.execQdDelivery dt q s
  | .qdIndex dt q x => Sys2Proof.Machine.execQdIndex dt q x s
  | .qdHoldDelivery dt q => Sys2Proof.Machine.execQdHoldDelivery dt q s
  | .qdComparePulseEnd dt q => Sys2Proof.Machine.execQdComparePulseEnd dt q s
  | .hallTransition dt h hall => Sys2Proof.Machine.execHallTransition dt h hall s
  | .hallDelivery dt h => Sys2Proof.Machine.execHallDelivery dt h s
  | .hallHoldDelivery dt h => Sys2Proof.Machine.execHallHoldDelivery dt h s
  | .dcBoundary dt defect => Sys2Proof.Machine.execDcBoundary dt defect s
  | .dcBoundaryWrite dt => Sys2Proof.Machine.execDcBoundaryWrite dt s
  | .loadStep dt => Sys2Proof.Machine.execLoadStep dt s
  | .shedHoldoffEnd dt => Sys2Proof.Machine.execShedHoldoffEnd dt s
  | .diodeEmulationClose dt k low => Sys2Proof.Machine.execDiodeEmulationClose dt k low s
  | .dcPrechargeTimeout dt => Sys2Proof.Machine.execDcPrechargeTimeout dt s
  | .dcRetryWaitEnd dt => Sys2Proof.Machine.execDcRetryWaitEnd dt s
  | .chStep dt defect => Sys2Proof.Machine.execChStep dt defect s
  | .chLoopInputWrite dt => Sys2Proof.Machine.execChLoopInputWrite dt s
  | .pilotEdge dt v => Sys2Proof.Machine.execPilotEdge dt v s
  | .pilotDcEvaluation dt => Sys2Proof.Machine.execPilotDcEvaluation dt s
  | .proximityEvaluation dt vs => Sys2Proof.Machine.execProximityEvaluation dt vs s
  | .pfcCompute dt ua ub => Sys2Proof.Machine.execPfcCompute dt ua ub s
  | .pfcShadowWrite dt => Sys2Proof.Machine.execPfcShadowWrite dt s
  | .chRequestTimeout dt => Sys2Proof.Machine.execChRequestTimeout dt s
  | .chBusupTimeout dt => Sys2Proof.Machine.execChBusupTimeout dt s
  | .chRampdnTimeout dt => Sys2Proof.Machine.execChRampdnTimeout dt s
  | .chRetryWaitEnd dt => Sys2Proof.Machine.execChRetryWaitEnd dt s
  | .acLoadPoint dt n => Sys2Proof.Machine.execAcLoadPoint dt n s
  | .acArcEdge dt n => Sys2Proof.Machine.execAcArcEdge dt n s
  | .acTurnOn dt n k low => Sys2Proof.Machine.execAcTurnOn dt n k low s
  | .gateMonitorChange dt n k low off => Sys2Proof.Machine.execGateMonitorChange dt n k low off s
  | .acGateMissing dt n k low => Sys2Proof.Machine.execAcGateMissing dt n k low s
  | .acTurnOnNotConfirmed dt n k low => Sys2Proof.Machine.execAcTurnOnNotConfirmed dt n k low s
  | .acVds dt n k low above => Sys2Proof.Machine.execAcVds dt n k low above s
  | .acBsuv dt n k low => Sys2Proof.Machine.execAcBsuv dt n k low s
  | .acPrechargeEnd dt n => Sys2Proof.Machine.execAcPrechargeEnd dt n s
  | .actVmConversion dt v => Sys2Proof.Machine.execActVmConversion dt v s
  | .sumpActMaxon dt => Sys2Proof.Machine.execSumpActMaxon dt s
  | .sumpActMinoffEnd dt => Sys2Proof.Machine.execSumpActMinoffEnd dt s
  | .comparatorChange dt k v => Sys2Proof.Machine.execComparatorChange dt k v s
  | .cmpTripClear dt k => Sys2Proof.Machine.execCmpTripClear dt k s
  | .cmpTestStart dt k => Sys2Proof.Machine.execCmpTestStart dt k s
  | .overVoltageRelease dt => Sys2Proof.Machine.execOverVoltageRelease dt s
  | .tractionSumpMaxon dt => Sys2Proof.Machine.execTractionSumpMaxon dt s
  | .tractionSumpMinoffEnd dt => Sys2Proof.Machine.execTractionSumpMinoffEnd dt s
  | .decisionRound dt => Sys2Proof.Machine.execDecisionRound dt s
  | .safetyInputChange dt n chB level => Sys2Proof.Machine.execSafetyInputChange dt n chB level s
  | .discrepancyTimeout dt n => Sys2Proof.Machine.execDiscrepancyTimeout dt n s
  | .ss1MsTick dt => Sys2Proof.Machine.execSs1MsTick dt s
  | .ss1Sto dt => Sys2Proof.Machine.execSs1Sto dt s
  | .slsCheck dt => Sys2Proof.Machine.execSlsCheck dt s
  | .slsViolation dt t => Sys2Proof.Machine.execSlsViolation dt t s
  | .sbcDelayEnd dt => Sys2Proof.Machine.execSbcDelayEnd dt s
  | .stoReadbackMismatch dt a b => Sys2Proof.Machine.execStoReadbackMismatch dt a b s
  | .torqueLimitWrite dt => Sys2Proof.Machine.execTorqueLimitWrite dt s
  | .safeOutputTestStart dt n => Sys2Proof.Machine.execSafeOutputTestStart dt n s
  | .safeOutputPulseEnd dt n => Sys2Proof.Machine.execSafeOutputPulseEnd dt n s
  | .readbackChange dt n level => Sys2Proof.Machine.execReadbackChange dt n level s
  | .readbackTimeout dt n => Sys2Proof.Machine.execReadbackTimeout dt n s
  | .temperatureConversion dt k v => Sys2Proof.Machine.execTemperatureConversion dt k v s
  | .vsysConversion dt v => Sys2Proof.Machine.execVsysConversion dt v s
  | .sagRestore dt => Sys2Proof.Machine.execSagRestore dt s
  | .sagRampTick dt => Sys2Proof.Machine.execSagRampTick dt s
  | .railFault dt rail v => Sys2Proof.Machine.execRailFault dt rail v s
  | .canStart dt k => Sys2Proof.Machine.execCanStart dt k s
  | .canIntegrationStart dt k => Sys2Proof.Machine.execCanIntegrationStart dt k s
  | .frameReceived dt k ide fdf brs esi rtr res id dlc data => Sys2Proof.Machine.execFrameReceived dt k ide fdf brs esi rtr res id dlc data s
  | .frameTransmitted dt k outcome ago tdcv => Sys2Proof.Machine.execFrameTransmitted dt k outcome ago tdcv s
  | .frameError dt k err dataPhase inc => Sys2Proof.Machine.execFrameError dt k err dataPhase inc s
  | .busOffRecovery dt k => Sys2Proof.Machine.execBusOffRecovery dt k s
  | .transmitWithdraw dt k b onWire => Sys2Proof.Machine.execTransmitWithdraw dt k b onWire s
  | .receiveBufferRead dt k j => Sys2Proof.Machine.execReceiveBufferRead dt k j s
  | .cmdTrac dt => Sys2Proof.Machine.execCmdTrac dt s
  | .cmdAux dt => Sys2Proof.Machine.execCmdAux dt s
  | .sessReqOpen dt => Sys2Proof.Machine.execSessReqOpen dt s
  | .sessReqClose dt => Sys2Proof.Machine.execSessReqClose dt s
  | .restart dt => Sys2Proof.Machine.execRestart dt s
  | .rearm dt => Sys2Proof.Machine.execRearm dt s
  | .readreg dt => Sys2Proof.Machine.execReadreg dt s
  | .statTrac dt => Sys2Proof.Machine.execStatTrac dt s
  | .evt dt => Sys2Proof.Machine.execEvt dt s
  | .announce dt => Sys2Proof.Machine.execAnnounce dt s
  | .announceDefaults dt => Sys2Proof.Machine.execAnnounceDefaults dt s
  | .pathLoss dt p => Sys2Proof.Machine.execPathLoss dt p s
  | .failoverHoldEnd dt => Sys2Proof.Machine.execFailoverHoldEnd dt s
  | .gqPush dt g w => Sys2Proof.Machine.execGqPush dt g w s
  | .gqPushe dt g w => Sys2Proof.Machine.execGqPushe dt g w s
  | .gqEnd dt g w => Sys2Proof.Machine.execGqEnd dt g w s
  | .gqPack dt g => Sys2Proof.Machine.execGqPack dt g s
  | .gqPoptag dt g => Sys2Proof.Machine.execGqPoptag dt g s
  | .gqPointerMismatch dt g => Sys2Proof.Machine.execGqPointerMismatch dt g s
  | .eventLogPush dt => Sys2Proof.Machine.execEventLogPush dt s
  | .parityWriteBack dt a => Sys2Proof.Machine.execParityWriteBack dt a s
  | .scrubStep dt ups => Sys2Proof.Machine.execScrubStep dt ups s
  | .mpFlipArm dt bank mask => Sys2Proof.Machine.execMpFlipArm dt bank mask s
  | .faultLogWrite dt => Sys2Proof.Machine.execFaultLogWrite dt s
  | .faultLogReadback dt good => Sys2Proof.Machine.execFaultLogReadback dt good s
  | .faultLogErase dt => Sys2Proof.Machine.execFaultLogErase dt s
  | .spRead dt n addr hcrc => Sys2Proof.Machine.execSpRead dt n addr hcrc s
  | .spReads dt n addr hcrc => Sys2Proof.Machine.execSpReads dt n addr hcrc s
  | .spWrite dt addr ws hcrc dcrc => Sys2Proof.Machine.execSpWrite dt addr ws hcrc dcrc s
  | .spFrameAbort dt => Sys2Proof.Machine.execSpFrameAbort dt s
  | .registerWrite dt a w => Sys2Proof.Machine.execRegisterWrite dt a w s
  | .spUnlock dt key dur => Sys2Proof.Machine.execSpUnlock dt key dur s
  | .unlockEnd dt => Sys2Proof.Machine.execUnlockEnd dt s
  | .sysRst dt => Sys2Proof.Machine.execSysRst dt s
  | .cgReq dt g => Sys2Proof.Machine.execCgReq dt g s
  | .trArm dt => Sys2Proof.Machine.execTrArm dt s
  | .trForce dt => Sys2Proof.Machine.execTrForce dt s
  | .traceRecord dt => Sys2Proof.Machine.execTraceRecord dt s
  | .frel dt on => Sys2Proof.Machine.execFrel dt on s
  | .otpProgramKey dt pcode => Sys2Proof.Machine.execOtpProgramKey dt pcode s
  | .otpSetFreldis dt pcode => Sys2Proof.Machine.execOtpSetFreldis dt pcode s
  | .otpSetFmt2dis dt pcode => Sys2Proof.Machine.execOtpSetFmt2dis dt pcode s
  | .otpProgramComplete dt good => Sys2Proof.Machine.execOtpProgramComplete dt good s
  | .blankingEnd dt k => Sys2Proof.Machine.execBlankingEnd dt k s
  | .busIntegrationEnd dt k => Sys2Proof.Machine.execBusIntegrationEnd dt k s
  | .flashResetRelease dt => Sys2Proof.Machine.execFlashResetRelease dt s
  | .excitationUpdate dt n => Sys2Proof.Machine.execExcitationUpdate dt n s
  | .spReservedOpcode dt op n addr hcrc => Sys2Proof.Machine.execSpReservedOpcode dt op n addr hcrc s

end Sys2Proof.Machine
end

