-- ==== Sys2Proof/Safety.lean ====
section
/-! DEFINITION. What must hold of the block between commands, and what Echo relies on, in the terms that the statements use. -/

namespace Sys2Proof.Machine

/-- Between commands nothing waits for the end of a step: the blocks that follow a domain have taken up its jumps, with the re-seeks that these
make, and its changes of direction (R67, R68, R77). The raises of the present cycle wait for its end (R829). -/
def State.Settled (s : State) : Prop := s.jumped = [] ∧ s.turned = [] ∧ s.reseeks = []

/-- The maps of the state are in their canonical forms. -/
def State.Canonical (s : State) : Prop := regWf s.regs = true ∧ regWf s.shadow = true ∧ Memory.wf s.mem = true

/-- An Echo stage result mirrors the lead one: values and states are the exact negations, the `SATF` bits agree (R272). -/
def StageOut.Mirrors (l e : StageOut) : Prop :=
  e.outs = l.outs.map (fun v => -v) ∧ e.sts = l.sts.map (fun x => (x.1, x.2.1, -x.2.2)) ∧ e.sat = l.sat

/-- State word `j` above `base`, as a signed value of 32 or 64 bits, the low word first (R269). -/
def State.stateWord (s : State) (base j : Nat) (wide : Bool) : Int :=
  if wide then signed 64 ((s.peek32 (base + 4 * j)).toNat + (s.peek32 (base + 4 * j + 4)).toNat * 2 ^ 32)
  else (s.peek32 (base + 4 * j)).toInt

/-- Stage `j` of context `c` as its descriptor in loop context memory gives it. -/
def State.stageOf (s : State) (c j : Nat) : Stage :=
  Stage.ofWords (s.peek32 (ctxAddr c + 0x90 + 8 * j)) (s.peek32 (ctxAddr c + 0x94 + 8 * j))

/-- The Echo state words of a stage hold the negations of its lead state words (R269). -/
def State.StatesMirror (s : State) (c : Nat) (g : Stage) : Prop :=
  ∀ p ∈ kindStates g.kind, s.stateWord (echoState c) (g.t + p.1) p.2 = -s.stateWord (leadState c) (g.t + p.1) p.2

/-- The two banks of table memory hold the same bytes (R34). -/
def State.BanksEqual (s : State) : Prop := ∀ a, tabA ≤ a → a < tabB → s.byte (a + bankSize) = s.byte a

/-- A run in which no fault has occurred so far: two passes, every parity bit right, no injection and no fault of the hardware (R299), no
old copy but of the parameters of the context (R220), the Echo slots the negations of the lead slots (R272), no slot at the code that R5
keeps out of signals, and every compare that waits in the buffer passes. -/
def EWork.Mirrors (w : EWork) : Prop :=
  w.split = false ∧ w.s.parBad = [] ∧ w.r.armed = false ∧ w.r.faults = [] ∧ w.ctx < 384 ∧
    (∀ p ∈ w.r.old, ctxAddr w.ctx ≤ p.1 ∧ p.1 < leadState w.ctx) ∧
    w.r.echo = w.r.lead.map neg32 ∧ (∀ x ∈ w.r.lead, x ≠ 0x80000000#32) ∧ ∀ m ∈ w.r.cmps, m.passes = true

end Sys2Proof.Machine
end

