-- ==== Sys2Proof/Certificates/Slice0/Obligations.lean ====
section
/-! DEFINITION. The statements for the provers: the interface of the block, the completion of every command, and the rules of the spec about
the operations that the commands share. -/

open Sys2Proof Sys2Proof.Machine

/-- The block takes its commands first in, first out: a step is the command at the front of the queue, run with the queue's rest. -/
def Obligations.StepRunsFrontCommand : Prop :=
  ∀ (s : State) (c : Instr) (rest : List Instr), s.pending = c :: rest → step s = exec c { s with pending := rest }

/-- The model's choice (log entries 1 and 2): with no command waiting one cycle passes. Where nothing happens by itself in `n` cycles, the
present cycle ends, and the `n` cycles are an advance of the domains and the tracks, with the load steps of R513. -/
def Obligations.EmptyQueueStepIsACycle : Prop :=
  ∀ s : State, s.pending = [] → step s = .next (s.elapse 1) ∧ s.elapse 0 = s ∧
    ∀ n : Nat, 0 < n →
      let u := s.endCycle
      u.nextAuto (s.now + n) = none →
        s.elapse n = (u.dcLoadRun (s.now + n) (s.now + n - u.now - 1)).advance (s.now + n - u.now)

/-- In RESET only the reset sequencer and the supply monitors act: every other command in range lets time pass and changes nothing else (log
entry 4, the model's reading of R764, R32 and R671). -/
def Obligations.ResetSwallowsCommands : Prop :=
  ∀ (c : Instr) (s : State), s.sys = sysReset → c.wf = true →
    (match c with
      | .resetAssert .. | .resetRelease .. | .pllLock .. | .flashResetRelease .. | .railFault .. => False
      | _ => True) →
    ∃ dt : Nat, exec c s = .next (s.advance dt)

/-- A command whose operands are in range always answers a next state, in every operating state; any other is refused as ill formed (log entry
58) and nothing ever faults. -/
def Obligations.WellFormedCommandsComplete : Prop :=
  ∀ (c : Instr) (s : State),
    (c.wf = true → ∃ t, exec c s = .next t) ∧ (c.wf = false → exec c s = .refused .illFormed)

/-- Completion of the commands of reset, LOAD and TEST: outside RESET each lets `dt` cycles pass,
has the effect of its operation, and answers the settled state. What the operation does is the model's form of the rule that the command's meaning cites. -/
def Obligations.StartupCommandsComplete : Prop :=
  ∀ (s : State) (dt : Nat), s.sys ≠ sysReset →
    let u := s.elapse dt
    (exec (.referenceLoss dt) s = .next (u.referenceLoss).settle) ∧
    (∀ (slotB : Bool) (bytes : List Byte), exec (.slotCheck dt slotB bytes) s = .next (u.slotCheck slotB bytes).settle) ∧
    (∀ (region : List (Nat × List Byte)), (.faultLogScan dt region : Instr).wf = true → exec (.faultLogScan dt region) s = .next
        (u.endLoad region).settle) ∧
    (∀ (defect : Option (Nat × Nat)), (.memorySelfTest dt defect : Instr).wf = true → exec (.memorySelfTest dt defect) s = .next
        (u.memoryTest defect).settle) ∧
    (∀ (bad : Option Nat), exec (.imageSectionLoad dt bad) s = .next (u.sectionLoad bad).settle) ∧
    (∀ (engs : List EngineTest) (core : CoreTest), (.engineSelfTest dt engs core : Instr).wf = true → exec (.engineSelfTest dt engs core) s
        = .next (u.engineTest engs core).settle) ∧
    (∀ (k : Fin 48) (pass : Bool), exec (.comparatorSelfTestEnd dt k pass) s = .next (u.cmpTestEnd k pass).settle) ∧
    (exec (.comparatorResolveTimeout dt) s = .next (u.resolveTimeout).settle) ∧
    (∀ (n : Fin 4), exec (.gateLinkStartupTimeout dt n) s = .next (u.glStartEnd n).settle) ∧
    (exec (.safetyIoTest dt) s = .next (u.ioTest).settle) ∧
    (exec (.convWaitTimeout dt) s = .next (u.convTimeout).settle) ∧
    (exec (.domainEnable dt) s = .next (u.domainEnable).settle) ∧
    (exec (.testDecisionRound dt) s = .next (u.testRound).settle)

/-- Completion of the commands of angle domains, commits and tracks: outside RESET each lets `dt` cycles pass,
has the effect of its operation, and answers the settled state. What the operation does is the model's form of the rule that the command's meaning cites. -/
def Obligations.DomainsCommandsComplete : Prop :=
  ∀ (s : State) (dt : Nat), s.sys ≠ sysReset →
    let u := s.elapse dt
    (∀ (d : Fin 16) (theta : Word) (age : Fin 4096) (good : Bool), exec (.measurementArrival dt d theta age good) s = .next (u.measure d
        theta age good).settle) ∧
    (∀ (d : Fin 16), exec (.measurementTimeout dt d) s = .next (u.updTimeout d).settle) ∧
    (∀ (d : Fin 16), exec (.coastTimeout dt d) s = .next (u.coastTimeout d).settle) ∧
    (∀ (d : Fin 16), exec (.domainBoundary dt d) s = .next (u.domainBoundary d).settle) ∧
    (∀ (d : Fin 16), exec (.forcedBoundary dt d) s = .next (u.forcedBoundary d).settle) ∧
    (exec (.syncInEdge dt) s = .next (u.syncEdge).settle) ∧
    (exec (.deferredCommit dt) s = .next (u.alDeferred).settle) ∧
    (∀ (t : Fin 32), exec (.trackBoundary dt t) s = .next (u.trackBoundary t).settle) ∧
    (∀ (t : Fin 32), exec (.trackIdleExit dt t) s = .next (u.idleExit t).settle) ∧
    (∀ (t : Fin 32), exec (.trackTimeoutReseek dt t) s = .next (u.timeoutReseek t).settle)

/-- Completion of the commands of schedule entries and their actions: outside RESET each lets `dt` cycles pass,
has the effect of its operation, and answers the settled state. What the operation does is the model's form of the rule that the command's meaning cites. -/
def Obligations.ActionsCommandsComplete : Prop :=
  ∀ (s : State) (dt : Nat), s.sys ≠ sysReset →
    let u := s.elapse dt
    (∀ (t : Fin 32) (perr : Fin 64), exec (.angleEntryFire dt t perr) s = .next (u.angleFire t perr).settle) ∧
    (∀ (t : Fin 32) (perr : Fin 64), exec (.lateEntryFire dt t perr) s = .next (u.lateFire t perr).settle) ∧
    (∀ (t : Fin 32) (perr : Fin 64), exec (.delayEntryFire dt t perr) s = .next (u.delayFire t perr).settle) ∧
    (∀ (k : Fin 5), exec (.converterAngleBoundary dt k) s = .next (u.convBoundary k).settle) ∧
    (∀ (t : Fin 32) (mask : Fin 64) (q : Fin 32) (perr : Fin 64), u.dlRuns = true → exec (.seqStart dt t mask q perr) s = .next
        (u.actSeqStart t (u.fld (F.DL_TRK_PCOUNT_PCOUNT t)) mask q perr).settle) ∧
    (∀ (t : Fin 32) (mask : Fin 64) (q : Fin 32) (perr : Fin 64), u.dlRuns = true → exec (.winOpen dt t mask q perr) s = .next
        (u.actWinOpen t (u.fld (F.DL_TRK_PCOUNT_PCOUNT t)) mask q perr).settle) ∧
    (∀ (mask : Fin 64), u.dlRuns = true → exec (.winClose dt mask) s = .next (u.actWinClose mask).settle) ∧
    (∀ (t : Fin 32) (c : Fin 384), u.dlRuns = true → exec (.loopStart dt t c) s = .next (u.loopStart t (u.fld (F.DL_TRK_PCOUNT_PCOUNT t))
        c).settle) ∧
    (∀ (t : Fin 32) (c : Fin 384), u.dlRuns = true → exec (.outLoad dt t c) s = .next (u.outLoad t c).settle) ∧
    (∀ (t : Fin 32) (src : Fin 512), u.dlRuns = true → exec (.event dt t src) s = .next (u.actEvent t src).settle) ∧
    (∀ (t : Fin 32) (g : Fin 64) (v : Fin 65536), u.dlRuns = true → exec (.gqMark dt t g v) s = .next (u.gqMark t (u.fld
        (F.DL_TRK_PCOUNT_PCOUNT t)) g v).settle) ∧
    (∀ (g : Fin 16), u.dlRuns = true → exec (.profileTick dt g) s = .next (u.profileTick g []).settle) ∧
    (∀ (d : Fin 16) (slot : Fin 256), u.dlRuns = true → exec (.snapshot dt d slot) s = .next (u.snapshot d slot).settle) ∧
    (∀ (c : Fin 40), u.dlRuns = true → exec (.pgStrobeLoadPoint dt c) s = .next (u.actStrobe c 1).settle) ∧
    (∀ (c : Fin 40), u.dlRuns = true → exec (.pgStrobeEmptyQueue dt c) s = .next (u.actStrobe c 2).settle) ∧
    (∀ (c : Fin 40), u.dlRuns = true → exec (.pgStrobeLoadAndEmpty dt c) s = .next (u.actStrobe c 3).settle) ∧
    (∀ (m : Fin 2), u.dlRuns = true → exec (.tmStrobeEvaluation dt m) s = .next (u.actStrobe (40 + m) 1).settle) ∧
    (∀ (m : Fin 2), u.dlRuns = true → exec (.tmStrobeRestart dt m) s = .next (u.actStrobe (40 + m) 2).settle) ∧
    (u.dlRuns = true → exec (.dcStrobeEvaluation dt) s = .next (u.actStrobe 42 1).settle) ∧
    (∀ (n : Fin 4), u.dlRuns = true → exec (.acStrobeLoadPoint dt n) s = .next (u.actStrobe (49 + n) 1).settle)

/-- Completion of the commands of converters and fitters, and of engine runs and the safety controller step: outside RESET each lets `dt` cycles pass,
has the effect of its operation, and answers the settled state. What the operation does is the model's form of the rule that the command's meaning cites. -/
def Obligations.MeasurementAndRunCommandsComplete : Prop :=
  ∀ (s : State) (dt : Nat), s.sys ≠ sysReset →
    let u := s.elapse dt
    (∀ (n : Fin 6) (raws : List Nat) (perr : Fin 16), (.windowSampleResult dt n raws perr : Instr).wf = true → exec (.windowSampleResult
        dt n raws perr) s = .next (u.windowSample n raws perr).settle) ∧
    (∀ (n : Fin 6) (samples : List (Nat × Nat)) (perr : Bool), (.onceEntryResult dt n samples perr : Instr).wf = true → exec
        (.onceEntryResult dt n samples perr) s = .next (u.onceEntry n samples perr).settle) ∧
    (∀ (n : Fin 6), exec (.windowTimeout dt n) s = .next (u.winTimeout n).settle) ∧
    (∀ (n : Fin 6) (deltas : List Int), (.estimatorUpdate dt n deltas : Instr).wf = true → exec (.estimatorUpdate dt n deltas) s = .next
        (u.estimate n deltas).settle) ∧
    (∀ (f : Fin 6), exec (.fitComplete dt f) s = .next (u.fitComplete f).settle) ∧
    (∀ (n : Fin 4) (l : Fin 2) (faults : List (Nat × Word)), exec (.runStart dt n l faults) s = .next (u.runStart n l faults).settle) ∧
    (∀ (n : Fin 4) (l : Fin 2), exec (.runComplete dt n l) s = .next (u.runComplete n l).settle) ∧
    (∀ (c : Fin 384), exec (.supervisionTimeout dt c) s = .next (u.supTimeout c).settle) ∧
    (∀ (task : ScTask) (f1 f2 : List (Nat × Word)), exec (.safetyControllerStep dt task f1 f2) s = .next (u.scTask task f1 f2).settle) ∧
    (∀ (n : Fin 4) (pass noesc : Bool) (stg : Fin 32) (ctx : Fin 512), exec (.ecInjArm dt n pass noesc stg ctx) s = .next (u.writeOne
        (Reg.EC_INJ n) (BitVec.ofNat 32 (2 ^ 31 + b2n pass * 2 ^ 30 + b2n noesc * 2 ^ 29 + stg * 2 ^ 24 + ctx))).settle)

/-- Completion of the commands of PG channels and the STO request, and of Gate Link: outside RESET each lets `dt` cycles pass,
has the effect of its operation, and answers the settled state. What the operation does is the model's form of the rule that the command's meaning cites. -/
def Obligations.PowerStageAndDriverCommandsComplete : Prop :=
  ∀ (s : State) (dt : Nat), s.sys ≠ sysReset →
    let u := s.elapse dt
    (∀ (c : Fin 40), exec (.pgLoadPoint dt c) s = .next (u.pgAngleLoad c).settle) ∧
    (∀ (c : Fin 40), exec (.referenceEdge dt c) s = .next (u.referenceEdge c).settle) ∧
    (∀ (c : Fin 40), exec (.edgeQueueFire dt c) s = .next (u.edgeFire c).settle) ∧
    (∀ (c : Fin 40) (x : Word) (sh sl : Bool), exec (.edgeQueuePush dt c x sh sl) s = .next (u.pushedBy c x sh sl).settle) ∧
    (∀ (c : Fin 40) (low : Bool), exec (.turnOn dt c low) s = .next (u.turnOn c low).settle) ∧
    (∀ (c : Fin 40) (low on : Bool), exec (.offConfirmChange dt c low on) s = .next (u.pinLevel .oc (2 * c + b2n low) (b2n
        on)).settle) ∧
    (∀ (c : Fin 40) (low : Bool), exec (.offConfirmMissing dt c low) s = .next (u.ocMissing c low).settle) ∧
    (∀ (c : Fin 40) (low : Bool), exec (.turnOnNotConfirmed dt c low) s = .next (u.notConfirmed c low).settle) ∧
    (exec (.stoRequestChange dt) s = .next (u.safetyFollow).settle) ∧
    (∀ (n : Fin 4) (reach : Fin 9), exec (.enum dt n reach) s = .next (u.glIssue n (fun r => r.cmd == 0) reach).settle) ∧
    (∀ (n : Fin 4) (reach : Fin 9), exec (.hello dt n reach) s = .next (u.glIssue n (fun r => r.cmd == 1) reach).settle) ∧
    (∀ (n : Fin 4) (reach : Fin 9), exec (.setver dt n reach) s = .next (u.glIssue n (fun r => r.cmd == 2) reach).settle) ∧
    (∀ (n : Fin 4) (reach : Fin 9), exec (.setrate dt n reach) s = .next (u.glIssue n (fun r => r.cmd == 3) reach).settle) ∧
    (∀ (n : Fin 4) (reach : Fin 9), exec (.glRead dt n reach) s = .next (u.glIssue n (fun r => r.cmd == 4) reach).settle) ∧
    (∀ (n : Fin 4) (reach : Fin 9), exec (.glWrite dt n reach) s = .next (u.glIssue n (fun r => r.cmd == 5) reach).settle) ∧
    (∀ (n : Fin 4) (reach : Fin 9), exec (.status dt n reach) s = .next (u.glIssue n (fun r => r.cmd == 6) reach).settle) ∧
    (∀ (n : Fin 4) (reach : Fin 9), exec (.clear dt n reach) s = .next (u.glIssue n (fun r => r.cmd == 7) reach).settle) ∧
    (∀ (n : Fin 4) (reach : Fin 9), exec (.snap dt n reach) s = .next (u.glSnap n reach).settle) ∧
    (∀ (n : Fin 4) (echo resp : List Byte), exec (.glResponse dt n echo resp) s = .next (u.glResponse n echo resp).settle) ∧
    (∀ (n : Fin 4), exec (.glResponseTimeout dt n) s = .next (u.glTimeout n).settle) ∧
    (∀ (n : Fin 4), exec (.glPollTimer dt n) s = .next (u.glPollTimer n).settle) ∧
    (∀ (n : Fin 4) (asserted : Bool), exec (.glAlert dt n asserted) s = .next (u.pinLevel .alert n (b2n asserted)).settle) ∧
    (∀ (n : Fin 4), exec (.glRecoveryTimer dt n) s = .next (u.glRecovery n).settle) ∧
    (∀ (n : Fin 4), exec (.glRateFallbackWait dt n) s = .next (u.glFallback n).settle)

/-- Completion of the commands of the traction modulators, and of the field controllers: outside RESET each lets `dt` cycles pass,
has the effect of its operation, and answers the settled state. What the operation does is the model's form of the rule that the command's meaning cites. -/
def Obligations.ModulatorAndFieldControlCommandsComplete : Prop :=
  ∀ (s : State) (dt : Nat), s.sys ≠ sysReset →
    let u := s.elapse dt
    (∀ (m k : Fin 2) (ua ub : Option Word), exec (.tmReferenceWrite dt m k ua ub) s = .next (u.outWrites (refWrites (Reg.TM_UA m k)
        (Reg.TM_UB m k) ua ub)).settle) ∧
    (∀ (m k : Fin 2), exec (.tmCarrierWrite dt m k) s = .next (u.tmCarrierWrite m k).settle) ∧
    (∀ (m k : Fin 2), exec (.tmDraperyUpdate dt m k) s = .next (u.tmDraperyUpdate m k).settle) ∧
    (∀ (m k : Fin 2) (p : Fin 3), exec (.draperyEdgePush dt m k p) s = .next ((u.tmOverrun m k).tmFill m k p).settle) ∧
    (∀ (m k : Fin 2), exec (.transitionWindowStart dt m k) s = .next (u.tmWindow m k).settle) ∧
    (∀ (m k : Fin 2), exec (.transitionSlotChange dt m k) s = .next (u.tmSlotChange m k).settle) ∧
    (∀ (m k : Fin 2), exec (.transitionComplete dt m k) s = .next (u.tmXDone m k).settle) ∧
    (∀ (m : Fin 2), exec (.handoverShadowWrite dt m) s = .next (u.tmHandShadows m).settle) ∧
    (∀ (m : Fin 2), exec (.handoverLoadPoint dt m) s = .next ((u.tmHandLoads m).2.each (u.tmHandLoads m).1 State.pgLoadPoint).settle) ∧
    (∀ (t : Fin 2) (defect : Bool), exec (.fcStep dt t defect) s = .next (u.tcStep t defect).settle) ∧
    (∀ (t : Fin 2), exec (.fcStepWrite dt t) s = .next (u.tcWrite t).settle) ∧
    (∀ (t : Fin 2), exec (.catchTimeout dt t) s = .next (u.tcTimeout t tcCatch (u.fld (F.TC_TMO0_CATCHTMO t))).settle) ∧
    (∀ (t : Fin 2), exec (.prefwTimeout dt t) s = .next (u.tcTimeout t tcPrefw (u.fld (F.TC_TMO1_PFWTMO t))).settle) ∧
    (∀ (t : Fin 2), exec (.recaptureTimeout dt t) s = .next (u.tcTimeout t tcRecap (u.fld (F.TC_TMO1_RECTMO t))).settle) ∧
    (∀ (t : Fin 2), exec (.observerDelivery dt t) s = .next (u.obsDeliver t).settle)

/-- Completion of the commands of the position and speed interfaces: outside RESET each lets `dt` cycles pass,
has the effect of its operation, and answers the settled state. What the operation does is the model's form of the rule that the command's meaning cites. -/
def Obligations.SensorsCommandsComplete : Prop :=
  ∀ (s : State) (dt : Nat), s.sys ≠ sysReset →
    let u := s.elapse dt
    (∀ (i : Fin 2), exec (.resolverDelivery dt i) s = .next (u.rsDeliver i).settle) ∧
    (∀ (q : Fin 8) (a b i : Bool), exec (.quadratureCount dt q a b i) s = .next (((u.pinLevel .qd (3 * q) (b2n a)).pinLevel .qd
        (3 * q + 1) (b2n b)).pinLevel .qd (3 * q + 2) (b2n i)).settle) ∧
    (∀ (q : Fin 8), exec (.qdDelivery dt q) s = .next (u.qdDeliver q).settle) ∧
    (∀ (q : Fin 8) (i : Bool), exec (.qdIndex dt q i) s = .next (u.pinLevel .qd (3 * q + 2) (b2n i)).settle) ∧
    (∀ (q : Fin 8), exec (.qdHoldDelivery dt q) s = .next (u.qdHold q).settle) ∧
    (∀ (q : Fin 8), exec (.qdComparePulseEnd dt q) s = .next (u.qdPulseEnd q).settle) ∧
    (∀ (h : Fin 4) (hall : Fin 8), exec (.hallTransition dt h hall) s = .next (u.each [0, 1, 2] fun u i => u.pinLevel .hall
        (3 * h + i) (b2n (bitOf hall.val (2 - i)))).settle) ∧
    (∀ (h : Fin 4), exec (.hallDelivery dt h) s = .next (u.hlDeliver h).settle) ∧
    (∀ (h : Fin 4), exec (.hallHoldDelivery dt h) s = .next (u.hlHold h).settle) ∧
    (∀ (i : Fin 2), exec (.excitationUpdate dt i) s = .next (u.excite i).settle)

/-- Completion of the commands of the DC/DC converter, and of the charger: outside RESET each lets `dt` cycles pass,
has the effect of its operation, and answers the settled state. What the operation does is the model's form of the rule that the command's meaning cites. -/
def Obligations.ConverterCommandsComplete : Prop :=
  ∀ (s : State) (dt : Nat), s.sys ≠ sysReset →
    let u := s.elapse dt
    (∀ (defect : Bool), exec (.dcBoundary dt defect) s = .next (u.dcBoundary defect).settle) ∧
    (exec (.dcBoundaryWrite dt) s = .next (u.dcWrite).settle) ∧
    (exec (.loadStep dt) s = .next (u.dcLoadStep).settle) ∧
    (exec (.shedHoldoffEnd dt) s = .next (u.dcHoldEnd).settle) ∧
    (∀ (k : Fin 6) (low : Bool), exec (.diodeEmulationClose dt k low) s = .next (u.dcDiodeClose k low).settle) ∧
    (exec (.dcPrechargeTimeout dt) s = .next (u.dcStartTimeout).settle) ∧
    (exec (.dcRetryWaitEnd dt) s = .next (u.dcRetryEnd).settle) ∧
    (∀ (defect : Bool), exec (.chStep dt defect) s = .next (u.chStep defect).settle) ∧
    (exec (.chLoopInputWrite dt) s = .next (u.chWrite).settle) ∧
    (∀ (v : Int), exec (.pilotEdge dt v) s = .next (u.cpLevel v).settle) ∧
    (exec (.pilotDcEvaluation dt) s = .next (u.chPilotDc).settle) ∧
    (∀ (vs : List Nat), (.proximityEvaluation dt vs : Instr).wf = true → exec (.proximityEvaluation dt vs) s = .next (u.chProximity
        (u.proxSeen vs)).settle) ∧
    (∀ (ua ub : Option Word), exec (.pfcCompute dt ua ub) s = .next (u.outWrites (refWrites Reg.CH_UA Reg.CH_UB ua ub)).settle) ∧
    (exec (.pfcShadowWrite dt) s = .next (u.pfcWrite).settle) ∧
    (exec (.chRequestTimeout dt) s = .next (u.chTimeout chRequest (u.fld F.CH_TMO_CTMO)).settle) ∧
    (exec (.chBusupTimeout dt) s = .next (u.chTimeout chBusup (u.fld F.CH_TMO_BUTMO)).settle) ∧
    (exec (.chRampdnTimeout dt) s = .next (u.chTimeout chRampdn (u.fld F.CH_TMO2_RDTMO)).settle) ∧
    (exec (.chRetryWaitEnd dt) s = .next (u.chRetryEnd).settle)

/-- Completion of the commands of the Actuators: outside RESET each lets `dt` cycles pass,
has the effect of its operation, and answers the settled state. What the operation does is the model's form of the rule that the command's meaning cites. -/
def Obligations.GearboxCommandsComplete : Prop :=
  ∀ (s : State) (dt : Nat), s.sys ≠ sysReset →
    let u := s.elapse dt
    (∀ (n : Fin 4), exec (.acLoadPoint dt n) s = .next (u.acAngleLoad n).settle) ∧
    (∀ (n : Fin 4), (u.flag (F.AC_CFG_EN n)) = true → exec (.acArcEdge dt n) s = .next (u.acEval n).settle) ∧
    (∀ (n : Fin 4) (k : Fin 3) (low : Bool), exec (.acTurnOn dt n k low) s = .next (u.acTurnOn n k low).settle) ∧
    (∀ (n : Fin 4) (k : Fin 3) (low off : Bool), exec (.gateMonitorChange dt n k low off) s = .next (u.pinLevel .gm (gmIndex n k
        low) (b2n off)).settle) ∧
    (∀ (n : Fin 4) (k : Fin 3) (low : Bool), exec (.acGateMissing dt n k low) s = .next (u.gateMissing n k low).settle) ∧
    (∀ (n : Fin 4) (k : Fin 3) (low : Bool), exec (.acTurnOnNotConfirmed dt n k low) s = .next (u.gateNoOn n k low).settle) ∧
    (∀ (n : Fin 4) (k : Fin 3) (low above : Bool), exec (.acVds dt n k low above) s = .next (u.vdsLevel n k low above).settle) ∧
    (∀ (n : Fin 4) (k : Fin 3) (low : Bool), exec (.acBsuv dt n k low) s = .next (u.bsInput n k low).settle) ∧
    (∀ (n : Fin 4), exec (.acPrechargeEnd dt n) s = .next (u.acPrechEnd n).settle) ∧
    (∀ (v : Fin 4096), exec (.actVmConversion dt v) s = .next (u.actVm v).settle) ∧
    (exec (.sumpActMaxon dt) s = .next (u.sumpActMax).settle) ∧
    (exec (.sumpActMinoffEnd dt) s = .next (u.sumpActEnd).settle)

/-- Completion of the commands of comparators, the Sump and decision rounds: outside RESET each lets `dt` cycles pass,
has the effect of its operation, and answers the settled state. What the operation does is the model's form of the rule that the command's meaning cites. -/
def Obligations.ProtectionCommandsComplete : Prop :=
  ∀ (s : State) (dt : Nat), s.sys ≠ sysReset →
    let u := s.elapse dt
    (∀ (k : Fin 48) (v : Int), exec (.comparatorChange dt k v) s = .next (u.cmpVolt k v).settle) ∧
    (∀ (k : Fin 48), exec (.cmpTripClear dt k) s = .next (u.writeOne (Reg.CMP_STAT k) (BitVec.ofNat 32 (2 ^ (F.CMP_STAT_TRIP
        k).lsb))).settle) ∧
    (∀ (k : Fin 48), exec (.cmpTestStart dt k) s = .next (u.writeOne (Reg.CMP_TEST k) (BitVec.ofNat 32 (2 ^ (F.CMP_TEST_START
        k).lsb))).settle) ∧
    (exec (.overVoltageRelease dt) s = .next (u.ovRelease).settle) ∧
    (exec (.tractionSumpMaxon dt) s = .next (u.sumpMax).settle) ∧
    (exec (.tractionSumpMinoffEnd dt) s = .next (u.sumpMinEnd).settle) ∧
    (exec (.decisionRound dt) s = .next (u.decisionRound).settle) ∧
    (∀ (k : Fin 48), exec (.blankingEnd dt k) s = .next (u.blankEnd k).settle)

/-- Completion of the commands of safety functions, safe outputs, temperatures and supplies: outside RESET each lets `dt` cycles pass,
has the effect of its operation, and answers the settled state. What the operation does is the model's form of the rule that the command's meaning cites. -/
def Obligations.SafetyFunctionsCommandsComplete : Prop :=
  ∀ (s : State) (dt : Nat), s.sys ≠ sysReset →
    let u := s.elapse dt
    (∀ (n : Fin 8) (chB : Bool) (level : Fin 3), exec (.safetyInputChange dt n chB level) s = .next (u.sinLevel n chB level).settle) ∧
    (∀ (n : Fin 8), exec (.discrepancyTimeout dt n) s = .next (u.pairDisc n).settle) ∧
    (exec (.ss1MsTick dt) s = .next (u.ss1Tick).settle) ∧
    (exec (.ss1Sto dt) s = .next (u.ss1Sto).settle) ∧
    (exec (.slsCheck dt) s = .next (u.slsCheck).settle) ∧
    (∀ (t : Fin 2), exec (.slsViolation dt t) s = .next (u.slsViolation t).settle) ∧
    (exec (.sbcDelayEnd dt) s = .next (u.outputsFollow).settle) ∧
    (∀ (a b : Bool), exec (.stoReadbackMismatch dt a b) s = .next (u.wireMismatch a b).settle) ∧
    (exec (.torqueLimitWrite dt) s = .next (u.slimWrite).settle) ∧
    (∀ (n : Fin 8), exec (.safeOutputTestStart dt n) s = .next (u.soTestStart n).settle) ∧
    (∀ (n : Fin 8), exec (.safeOutputPulseEnd dt n) s = .next (u.soPulseEnd n).settle) ∧
    (∀ (n : Fin 8) (level : Bool), exec (.readbackChange dt n level) s = .next (u.srbLevel n level).settle) ∧
    (∀ (n : Fin 8), exec (.readbackTimeout dt n) s = .next (u.soTimeout n).settle) ∧
    (∀ (k : Fin 24) (v : Int), exec (.temperatureConversion dt k v) s = .next (u.tempConvert k v).settle) ∧
    (∀ (v : Fin 65536), exec (.vsysConversion dt v) s = .next (u.vsys v).settle) ∧
    (exec (.sagRestore dt) s = .next (u.sagRestore).settle) ∧
    (exec (.sagRampTick dt) s = .next (u.sagTick).settle) ∧
    (∀ (rail : Fin 6) (v : Nat), exec (.railFault dt rail v) s = .next (u.railChange rail v).settle)

/-- Completion of the commands of CAN FD and Axle Link: outside RESET each lets `dt` cycles pass,
has the effect of its operation, and answers the settled state. What the operation does is the model's form of the rule that the command's meaning cites. -/
def Obligations.VehicleCommandsComplete : Prop :=
  ∀ (s : State) (dt : Nat), s.sys ≠ sysReset →
    let u := s.elapse dt
    (∀ (k : Fin 4), exec (.canStart dt k) s = .next (u.canStart k).settle) ∧
    (∀ (k : Fin 4), exec (.canIntegrationStart dt k) s = .next (u.canIntegrate k).settle) ∧
    (∀ (k : Fin 4) (ide fdf brs esi rtr res : Bool) (id dlc : Nat) (data : List Byte), (.frameReceived dt k ide fdf brs esi rtr res id
        dlc data : Instr).wf = true → exec (.frameReceived dt k ide fdf brs esi rtr res id dlc data) s = .next (u.canReceive k ⟨ide, fdf,
        brs, esi, rtr, res, id, dlc, data⟩).settle) ∧
    (∀ (k : Fin 4) (outcome : Fin 3) (ago tdcv : Nat), exec (.frameTransmitted dt k outcome ago tdcv) s = .next (u.frameEnds k outcome
        ago tdcv).settle) ∧
    (∀ (k : Fin 4) (err : Fin 8) (dataPhase : Bool) (inc : Fin 4), exec (.frameError dt k err dataPhase inc) s = .next (u.canError k err
        dataPhase inc).settle) ∧
    (∀ (k : Fin 4), exec (.busOffRecovery dt k) s = .next (u.canRecover k).settle) ∧
    (∀ (k : Fin 4) (b : Fin 8) (onWire : Bool), exec (.transmitWithdraw dt k b onWire) s = .next (u.canWithdraw k b onWire).settle) ∧
    (∀ (k : Fin 4) (j : Fin 16), exec (.receiveBufferRead dt k j) s = .next (u.rxRead k j).settle) ∧
    (exec (.cmdTrac dt) s = .next (u.cmdTrac).settle) ∧
    (exec (.cmdAux dt) s = .next (u.cmdAux).settle) ∧
    (exec (.sessReqOpen dt) s = .next (u.sessOpenReq).settle) ∧
    (exec (.sessReqClose dt) s = .next (u.sessCloseReq).settle) ∧
    (exec (.restart dt) s = .next (u.reqRestart).settle) ∧
    (exec (.rearm dt) s = .next (u.reqRearm).settle) ∧
    (exec (.readreg dt) s = .next (u.reqReadreg).settle) ∧
    (exec (.statTrac dt) s = .next (u.sendStatus).settle) ∧
    (exec (.evt dt) s = .next (u.sendEvt).settle) ∧
    (exec (.announce dt) s = .next (u.sendAnnounce).settle) ∧
    (exec (.announceDefaults dt) s = .next (u.announceDefaults).settle) ∧
    (∀ (p : Fin 2), exec (.pathLoss dt p) s = .next (u.pathLoss p).settle) ∧
    (exec (.failoverHoldEnd dt) s = .next (u.holdEnd).settle) ∧
    (∀ (k : Fin 4), exec (.busIntegrationEnd dt k) s = .next (u.canIntegrated k).settle)

/-- Completion of the commands of Galleries, memory protection and the fault log: outside RESET each lets `dt` cycles pass,
has the effect of its operation, and answers the settled state. What the operation does is the model's form of the rule that the command's meaning cites. -/
def Obligations.QueuesCommandsComplete : Prop :=
  ∀ (s : State) (dt : Nat), s.sys ≠ sysReset →
    let u := s.elapse dt
    (∀ (g : Fin 64) (w : Word), exec (.gqPush dt g w) s = .next (u.gqPushWord g w).settle) ∧
    (∀ (g : Fin 64) (w : Word), exec (.gqPushe dt g w) s = .next (u.gqPushEndWord g w).settle) ∧
    (∀ (g : Fin 64) (w : Word), exec (.gqEnd dt g w) s = .next (u.gqEndWord g w).settle) ∧
    (∀ (g : Fin 64), exec (.gqPack dt g) s = .next (u.gqPack g).settle) ∧
    (∀ (g : Fin 64), exec (.gqPoptag dt g) s = .next (u.readFrame false 1 (Reg.GQ_POPTAG g)).settle) ∧
    (∀ (g : Fin 64), exec (.gqPointerMismatch dt g) s = .next (u.gqMismatch g).settle) ∧
    (exec (.eventLogPush dt) s = .next (u.eventLogPush).settle) ∧
    (∀ (a : Nat), (.parityWriteBack dt a : Instr).wf = true → exec (.parityWriteBack dt a) s = .next (u.writeBack a).settle) ∧
    (∀ (ups : List (Nat × Byte × Bool)), (.scrubStep dt ups : Instr).wf = true → exec (.scrubStep dt ups) s = .next ((u.each ups fun u x
        => u.upset ⟨x.1, x.2.1, x.2.2⟩).scrubStep).settle) ∧
    (∀ (bank : Fin 4) (mask : Fin 16), exec (.mpFlipArm dt bank mask) s = .next (u.writeOne Reg.MP_FLIP (BitVec.ofNat 32 (2 ^ 31 + bank *
        2 ^ 20 + mask))).settle) ∧
    (exec (.faultLogWrite dt) s = .next (u.flWrite).settle) ∧
    (∀ (good : Bool), exec (.faultLogReadback dt good) s = .next (u.flReadback good).settle) ∧
    (exec (.faultLogErase dt) s = .next (u.flErased).settle)

/-- Completion of the commands of the service port and what its writes start: outside RESET each lets `dt` cycles pass,
has the effect of its operation, and answers the settled state. What the operation does is the model's form of the rule that the command's meaning cites. -/
def Obligations.ServicePortCommandsComplete : Prop :=
  ∀ (s : State) (dt : Nat), s.sys ≠ sysReset →
    let u := s.elapse dt
    (∀ (n addr : Nat) (hcrc : Byte), (.spRead dt n addr hcrc : Instr).wf = true → exec (.spRead dt n addr hcrc) s = .next (u.spRead false
        n addr hcrc).settle) ∧
    (∀ (n addr : Nat) (hcrc : Byte), (.spReads dt n addr hcrc : Instr).wf = true → exec (.spReads dt n addr hcrc) s = .next (u.spRead
        true n addr hcrc).settle) ∧
    (∀ (addr : Nat) (ws : List Word) (hcrc dcrc : Byte), (.spWrite dt addr ws hcrc dcrc : Instr).wf = true → exec (.spWrite dt addr ws
        hcrc dcrc) s = .next (u.spWrite addr ws hcrc dcrc).settle) ∧
    (exec (.spFrameAbort dt) s = .next (u.spAbort).settle) ∧
    (∀ (a : Nat) (w : Word), (.registerWrite dt a w : Instr).wf = true → exec (.registerWrite dt a w) s = .next (u.writeOne a w).settle) ∧
    (∀ (key : Fin 65536) (dur : Fin 1024), exec (.spUnlock dt key dur) s = .next (u.writeOne Reg.SP_UNLOCK (BitVec.ofNat 32 (key * 2 ^ 16
        + dur))).settle) ∧
    (exec (.unlockEnd dt) s = .next (u.unlockEnds).settle) ∧
    (exec (.sysRst dt) s = .next (u.writeOne Reg.SYS_RST (BitVec.ofNat 32 resetCode)).settle) ∧
    (∀ (g : Fin 1024), exec (.cgReq dt g) s = .next (u.writeOne Reg.CG_REQ (BitVec.ofNat 32 g)).settle) ∧
    (exec (.trArm dt) s = .next (u.writeOne Reg.TR_CTL 1).settle) ∧
    (exec (.trForce dt) s = .next (u.writeOne Reg.TR_CTL 2).settle) ∧
    (exec (.traceRecord dt) s = .next (u.traceRecord).settle) ∧
    (∀ (on : Bool), exec (.frel dt on) s = .next (u.writeOne Reg.LT_CTL (BitVec.ofNat 32 (b2n on))).settle) ∧
    (∀ (pcode : Fin 65536), exec (.otpProgramKey dt pcode) s = .next (u.writeOne Reg.OTP_PROG (BitVec.ofNat 32 (pcode * 2 ^ 16 +
        1))).settle) ∧
    (∀ (pcode : Fin 65536), exec (.otpSetFreldis dt pcode) s = .next (u.writeOne Reg.OTP_PROG (BitVec.ofNat 32 (pcode * 2 ^ 16 +
        2))).settle) ∧
    (∀ (pcode : Fin 65536), exec (.otpSetFmt2dis dt pcode) s = .next (u.writeOne Reg.OTP_PROG (BitVec.ofNat 32 (pcode * 2 ^ 16 +
        3))).settle) ∧
    (∀ (good : Bool), exec (.otpProgramComplete dt good) s = .next (u.otpDone good).settle) ∧
    (∀ (op : Fin 8) (n addr : Nat) (hcrc : Byte), (.spReservedOpcode dt op n addr hcrc : Instr).wf = true → exec (.spReservedOpcode dt op
        n addr hcrc) s = .next (u.spReserved op n addr hcrc).settle)

/-- Completion of the commands that act on a held or reset BX960 too (R32, R671, R764): they run in every operating state. -/
def Obligations.SequencerCommandsComplete : Prop :=
  ∀ (s : State) (dt : Nat),
    let u := s.elapse dt
    (∀ (por : Bool), exec (.resetAssert dt por) s = .next (u.enterReset (if por then rstPower else rstPin)).settle) ∧
    (∀ (tmode : Bool) (vioA vioC : Nat), exec (.resetRelease dt tmode vioA vioC) s = .next (u.resetRelease tmode vioA vioC).settle) ∧
    (∀ (trim : List Nat) (trimOk : Bool) (d : Sfdp), (.pllLock dt trim trimOk d : Instr).wf = true → exec (.pllLock dt trim trimOk d) s
        = .next (u.pllLock trim trimOk d).settle) ∧
    (exec (.flashResetRelease dt) s = .next (u.flashResetRelease).settle) ∧
    (∀ (rail : Fin 6) (v : Nat), exec (.railFault dt rail v) s = .next (u.railChange rail v).settle)

/-- R213 and R214: the operations of the engines, with rounding symmetric about zero and every limit. -/
def Obligations.EngineOperations : Prop :=
  (∀ v : Int, rnd v 0 = v) ∧
  (∀ (v : Int) (n : Nat), 1 ≤ n → rnd v n = v.sign * (((v.natAbs + 2 ^ (n - 1)) / 2 ^ n : Nat) : Int)) ∧
  (∀ (x : Int) (c : Coeff), 7 ≤ c.s → term x c = sat72 (x * c.m * 2 ^ (c.s - 7).toNat)) ∧
  (∀ (x : Int) (c : Coeff), c.s < 7 → term x c = sat72 (rnd (x * c.m) (7 - c.s).toNat)) ∧
  (∀ x y : Int, prod x y = sat72 (x * y)) ∧
  (∀ (a : Int) (c : Coeff), mulA a c = sat72 (rnd (a * c.m) (31 - c.s).toNat)) ∧
  (∀ a : Int, q a = sat32 (rnd a 24)) ∧
  (∀ v : Int, sat32 v = max (-(2 ^ 31 - 1)) (min (2 ^ 31 - 1) v)) ∧
  (∀ a b : Int, addA a b = sat72 (a + b) ∧ subA a b = sat72 (a - b)) ∧
  (∀ v : Int, sat72 v = max (-(2 ^ 71 - 1)) (min (2 ^ 71 - 1) v))

/-- The last sentence of R230: the sine is exactly odd, and the sine of a quarter turn is 0x7FFF_FFFF. The cosine is exactly even, on which
the Echo forms of R271 rest. -/
def Obligations.SineIsOdd : Prop :=
  (∀ w : Word, sinA (0#32 - w) = -sinA w) ∧ (∀ w : Word, cosA (0#32 - w) = cosA w) ∧
    sinA 0x40000000#32 = 0x7FFFFFFF

/-- R271 and R272 for every stage kind that computes: on negated operands and states the Echo form gives the exact negations, and the same
`SATF` bit. -/
def Obligations.EchoStagesMirror : Prop :=
  (∀ a b : Int, (stageSub a b).Mirrors (stageSub (-a) (-b))) ∧
  (∀ (co : List Coeff) (a : Int), (stageGain co a).Mirrors (stageGain co (-a))) ∧
  (∀ (co : List Coeff) (a b c : Int), (stageSum co a b c).Mirrors (stageSum co (-a) (-b) (-c))) ∧
  (∀ a b c : Int, (stageSat false a b c).Mirrors (stageSat true (-a) (-b) (-c))) ∧
  (∀ a b c y : Int, (stageRate false a b c y).Mirrors (stageRate true (-a) (-b) (-c) (-y))) ∧
  (∀ (pid : Bool) (co : List Coeff) (e b c i ep f : Int),
    (stagePi pid false co e b c i ep f).Mirrors (stagePi pid true co (-e) (-b) (-c) (-i) (-ep) (-f))) ∧
  (∀ (co : List Coeff) (h a : Int) (th phi : Word) (ic is : Int),
    (stageRes false co h a th phi ic is).Mirrors (stageRes true co h (-a) (neg32 th) (neg32 phi) (-ic) (-is))) ∧
  (∀ (co : List Coeff) (x s1 s2 : Int), (stageBiq co x s1 s2).Mirrors (stageBiq co (-x) (-s1) (-s2))) ∧
  (∀ (co : List Coeff) (x z : Int), (stageLead co x z).Mirrors (stageLead co (-x) (-z))) ∧
  (∀ (opt : Nat) (a b c : Int), (stageClarke opt a b c).Mirrors (stageClarke opt (-a) (-b) (-c))) ∧
  (∀ (inv : Bool) (a b : Int) (th : Word), (stagePark inv false a b th).Mirrors (stagePark inv true (-a) (-b) (neg32 th))) ∧
  (∀ (co : List Coeff) (d iq w : Int), (stageDecpl false co d iq w).Mirrors (stageDecpl true co (-d) (-iq) (-w))) ∧
  (∀ (co : List Coeff) (ti tj f b : Int) (lim : Bool), (stageFf false co ti tj f b lim).Mirrors (stageFf true co ti tj f (-b) lim))

/-- R272 for a stage of a run: while no fault occurs (`EWork.Mirrors`), with equal table banks and with Echo states that mirror the lead states
of the stage, it keeps the Echo slots the negations of the lead slots, and every compare that it adds to the buffer passes. -/
def Obligations.EchoRunComparesPass : Prop :=
  ∀ (w : EWork) (idx k : Nat) (w0 w1 : Word), w.Mirrors → w.s.BanksEqual → w.s.StatesMirror w.ctx (Stage.ofWords w0 w1) →
    (w.stage idx k (Stage.ofWords w0 w1)).Mirrors ∧ (w.stage idx k (Stage.ofWords w0 w1)).s.mem = w.s.mem

/-- R53 over n cycles at constant rate (log entry 2): every domain that is neither off nor a slave adds n times its rate; nothing but the
clock, the domains, the tracks, the flags of tracks and the marks of idle tracks changes, and the notes of what hardware set in the cycle that
ended (R15 to R17) are gone. -/
def Obligations.AdvanceMovesDomains : Prop :=
  ∀ (s : State) (n d : Nat), d < 16 →
    let t := s.advance n
    t.now = s.now + n ∧
    (s.domState d = dsOff → t.dom d = s.dom d) ∧
    (0 < n → s.domState d ≠ dsOff → s.domState d ≠ dsSlave →
      t.dom d = { s.dom d with acc := (s.dom d).acc + BitVec.ofNat 48 n * (s.dom d).rate,
                               prev := (s.dom d).acc + BitVec.ofNat 48 (n - 1) * (s.dom d).rate }) ∧
    (0 < n → (∀ k < 32, s.trkLive k = false) → t.hwSets = []) ∧ t.before = (if n = 0 then s.before else []) ∧
    t = { s with now := t.now, doms := t.doms, trks := t.trks, regs := t.regs, marks := t.marks, hwSets := t.hwSets, before := t.before } ∧
    ∀ a : Nat, (∀ k < 32, a ≠ Reg.DL_TRK_FLAG k) → t.reg a = s.reg a

/-- R68: the direction and the standstill flag of a domain after its rate has changed, and the event of a change of direction. -/
def Obligations.DirectionFollowsRate : Prop :=
  ∀ (s : State) (d : Nat), d < 16 →
    let t := s.updateDir d
    let th : Int := s.fld (F.AD_THR_RATE_STILL d) * 65536
    (th < s.rate d → t.flag (F.AD_STAT_DIR d) = false ∧ t.flag (F.AD_STAT_STILL d) = false) ∧
    (s.rate d < -th → t.flag (F.AD_STAT_DIR d) = true ∧ t.flag (F.AD_STAT_STILL d) = false) ∧
    (-th ≤ s.rate d → s.rate d ≤ th → t.flag (F.AD_STAT_DIR d) = s.flag (F.AD_STAT_DIR d) ∧ t.flag (F.AD_STAT_STILL d) = true) ∧
    (t.flag (F.AD_STAT_DIR d) ≠ s.flag (F.AD_STAT_DIR d) → ∃ r ∈ t.raised, r.src = Ev.AD_DIR.num ∧ r.inst = d) ∧
    t = { s with regs := t.regs, raised := t.raised, turned := t.turned, hwSets := t.hwSets } ∧
    ∀ a : Nat, a ≠ Reg.AD_STAT d → t.reg a = s.reg a

/-- R41, R825, R826, R827 and R828: the answers of a commit request that captures nothing, each with all that it changes. -/
def Obligations.CommitRefusals : Prop :=
  ∀ (s : State) (g : Nat) (sp : Bool),
    (s.sys = sysDefaults → s.requestCommit g sp = (cgState, s)) ∧
    (s.sys ≠ sysDefaults → (groupGiven g = false ∨ s.groupEnabled g = false) → s.requestCommit g sp = (cgUnknown, s)) ∧
    (s.sys ≠ sysDefaults → groupGiven g = true → s.groupEnabled g = true →
      (s.ownedByLink g = true → s.requestCommit g true = (cgOwned, s)) ∧
      ((sp = false ∨ s.ownedByLink g = false) → (∃ c ∈ s.commits, c.group = g) →
        s.requestCommit g sp = (cgBusy, (s.incSat F.CG_CNT_REJ_CNT).raise Ev.CG_BUSY axle 0)))

/-- R39 and R826: at the boundary of a domain exactly the waiting commits of its groups that an earlier cycle has captured take effect, and the
others keep waiting in their order; the dead times of a channel change together. -/
def Obligations.CommitsTakeEffectAtTheirBoundary : Prop :=
  (∀ (s : State) (d : Nat), (s.commitBoundary d).commits = s.commits.filter fun c => s.groupDom c.group != d || decide (s.now ≤ c.cyc)) ∧
  ∀ (s : State) (k : Nat) (w v : Word) (sp : Bool) (cyc : Nat), k < 40 → cyc < s.now →
    s.commits = [⟨0x090 + k, [(Reg.PG_DTR k, w), (Reg.PG_DTF k, v)], sp, cyc⟩] →
    (s.commitBoundary (s.fld (F.PG_CFG_CDOM k))).reg (Reg.PG_DTR k) = w ∧
      (s.commitBoundary (s.fld (F.PG_CFG_CDOM k))).reg (Reg.PG_DTF k) = v

/-- R17: in READY and AXLE_SAFE a service-port write to a parameter of a commit group changes its shadow copy and no active register. -/
def Obligations.GroupWriteReachesShadowOnly : Prop :=
  ∀ (s : State) (a g : Nat) (w : Word) (r : RegRow), s.inForce = true → groupOf a = some g → s.ownedByLink g = false →
    regRow a = some r →
    let t := s.portWriteReg a w
    t = { s with shadow := t.shadow } ∧
    t.shad a = ((s.shad a &&& ~~~ BitVec.ofNat 32 r.rw) ||| (w &&& BitVec.ofNat 32 r.rw)) ∧
    ∀ b : Nat, b ≠ a → t.shad b = s.shad b

/-- R305: when an angle lies inside the arc of a compare pair. -/
def Obligations.ArcMembership : Prop :=
  (∀ psi x1 x2 : Word,
    insideArc psi x1 x2 = true ↔ (psi.toNat + 2 ^ 32 - x1.toNat) % 2 ^ 32 < (x2.toNat + 2 ^ 32 - x1.toNat) % 2 ^ 32) ∧
  ∀ psi x : Word, insideArc psi x x = false

/-- R321: the time of a turn-on in complementary mode without a safe command, and the turn-on itself: it appears when that time has come, the
complement is off and confirmed, and not before. -/
def Obligations.TurnOnTime : Prop :=
  ∀ (s : State) (c : Nat), s.pgSafe c = 0 → s.pgMode c = pgCompl → ∀ low : Bool,
    s.turnOnTime c low = max (s.pgOut c low).req
      (max ((s.pgOut c (!low)).offAt
          + max (if low then s.fld (F.PG_DTF_DTF c) else s.fld (F.PG_DTR_DTR c)) (s.fld (F.PG_DTFLOOR_DTFLOOR c)))
        (((s.pgOut c (!low)).ocAt + 2) * 64)) ∧
    (s.flag (pendF c low) = true → s.flag (pinF c low) = false → s.pgWant c low = true → s.withheld c = false →
      (s.complOff c low = true → s.turnOnTime c low / 64 ≤ s.now →
        s.turnOn c low = s.pinOn c low (max (s.turnOnTime c low) (s.now * 64))) ∧
      ((s.complOff c low = false ∨ s.now < s.turnOnTime c low / 64) → s.turnOn c low = s))

/-- R312: an empty queue holds the reference states; a push to a queue with room is queued in order; a push to a full queue is dropped, with
`EQOVF` and `PG_EQOVF`. -/
def Obligations.EdgeQueueHoldsSixteen : Prop :=
  ∀ (s : State) (c : Nat) (it : EqItem), c < 40 →
    ((s.pg c).queue = [] → s.eqFire c = s) ∧
    ((s.pg c).queue.length < 16 →
      ((s.eqPush c it).pg c).queue = (s.pg c).queue ++ [it] ∧
      (s.eqPush c it).fld (F.PG_STAT_EQCNT c) = (s.pg c).queue.length + 1 ∧
      ∀ k < 40, k ≠ c → (s.eqPush c it).pg k = s.pg k) ∧
    (16 ≤ (s.pg c).queue.length →
      s.eqPush c it = { (s.setFlag (F.PG_FLAG_EQOVF c) true) with raised := s.raised ++ [⟨Ev.PG_EQOVF.num, 1, 3, s.pgConv c, c⟩] })

/-- R335: what each safe command asks of the two outputs of a channel, isolated or not, outside the STO gate. -/
def Obligations.SafeCommandPins : Prop :=
  ∀ (s : State) (c : Nat), s.flag (F.PG_CFG_SUMP c) = false → s.flag (F.PG_STAT_STOG c) = false →
    s.flag (F.PG_CFG_EN c) = true → s.inForce = true →
    (s.fld (F.PG_STAT_SAFEC c) = 1 → s.pgWant c true = false ∧ s.pgWant c false = false) ∧
    (s.pgMode c = pgIndep → s.fld (F.PG_STAT_SAFEC c) ≠ 0 → s.pgWant c true = false ∧ s.pgWant c false = false) ∧
    (s.pgMode c = pgCompl → s.fld (F.PG_STAT_SAFEC c) = 2 → s.pgWant c true = true ∧ s.pgWant c false = false) ∧
    (s.pgMode c = pgCompl → s.fld (F.PG_STAT_SAFEC c) = 3 → s.pgWant c true = false ∧ s.pgWant c false = true)

/-- R338, at once (log entry 20): while the STO request is active every output of every masked channel is deasserted, whatever the safe
command, the isolation and the reference states. -/
def Obligations.StoGateDeassertsPins : Prop :=
  ∀ (s : State) (c : Nat) (low : Bool), c < 40 →
    (s.flag (F.PG_STAT_STOG c) = true → s.pgWant c low = false) ∧
    (s.stoMasked c = true → (s.stoGate true).flag (pinF c low) = false ∧ (s.stoGate true).flag (pendF c low) = false)

/-- R330: isolation of a channel under no safe command deasserts both outputs, cancels their turn-ons, records the cause and raises `PG_ISO`;
the pins of no other channel change. -/
def Obligations.IsolationHoldsOutputsOff : Prop :=
  ∀ (s : State) (c cause : Nat), c < 40 → cause < 8 → s.flag (F.PG_STAT_ISO c) = false → s.pgSafe c = 0 →
    let t := s.pgIsolate c cause
    (∀ low : Bool, t.flag (pinF c low) = false ∧ t.flag (pendF c low) = false) ∧
    t.flag (F.PG_STAT_ISO c) = true ∧ t.fld (F.PG_STAT_ISOC c) = cause ∧
    t.raised = s.raised ++ [⟨Ev.PG_ISO.num, 2, 2, s.pgConv c, c⟩] ∧
    (∀ k < 40, k ≠ c → t.reg (Reg.PG_STAT k) = s.reg (Reg.PG_STAT k)) ∧ t.mem = s.mem

/-- R35: a write into either window of table memory writes the byte at that offset in both banks, and no other byte. R3 and R725: with no flip
armed, a word written reads back as itself by any requester without error or effect, and no byte outside the word (and its copy in the other
bank) changes. -/
def Obligations.MemoryWritesReadBack : Prop :=
  (∀ (s : State) (a : Nat) (b : Byte), isTable a = true →
    (s.writeByte a b).byte a = b ∧ (s.writeByte a b).byte (otherBank a) = b ∧
    ∀ k : Nat, k ≠ a → k ≠ otherBank a → (s.writeByte a b).byte k = s.byte k) ∧
  ∀ (s : State) (a req : Nat) (w : Word), a % 4 = 0 → isMem a = true → s.flag F.MP_FLIP_ARM = false →
    (s.write32 a w).read32 req a = (some w, s.write32 a w) ∧
    ∀ k : Nat, (k < a ∨ a + 4 ≤ k) → (isTable a = true → k < otherBank a ∨ otherBank a + 4 ≤ k) →
      (s.write32 a w).byte k = s.byte k

/-- R853 and R323 at an input pin with the recognised level `r` and a filter of `f` cycles: a new level waits for its recognition, 2 cycles
of the synchroniser and `f` cycles after it; one that waits already keeps its time, and the recognised level cancels it. No other input
changes, and nothing else. -/
def Obligations.InputPinsAreFiltered : Prop :=
  ∀ (s : State) (k : PinKind) (i r f l : Nat),
    let t := s.pinFeed k i r f l
    let own (x : PinIn) : Bool := x.kind == k && x.inst == i
    t = { s with inputs := t.inputs } ∧ t.inputs.filter (fun x => !own x) = s.inputs.filter (fun x => !own x) ∧
    (s.inputs.any (fun x => own x && x.level == l) = true → t = s) ∧
    (s.inputs.any (fun x => own x && x.level == l) = false →
      (l = r → t.inputs.filter own = []) ∧ (l ≠ r → t.inputs.filter own = [⟨k, i, l, s.now + 1 + f⟩]))

/-- R291 and R292: the words of a step of the safety controller reach the block only when every compare passes. Where no fault occurs the step
has the effect of its lead form; where a compare fails in both runs, nothing of the step is released and the safety controller has failed. -/
def Obligations.HeldWritesAreReleasedTogether : Prop :=
  ∀ (s : State) (k : ScTask) (f1 f2 : List (Nat × Word)),
    s.scTask k [] f2 = s.scLead k ∧
    (∀ t : State, s.scRun k f1 = some t ↔ t = s.scLead k ∧ ∀ w ∈ s.scHeld (s.scLead k) k f1, w.lead = ~~~ w.echo) ∧
    (s.scRun k f1 = none → s.scMis.scRun k f2 = none → s.scTask k f1 f2 = s.scMis.scFails)

/-- R727: a byte of table memory that fails parity in the bank read is read from the other bank, the finding is counted and recorded, and the
write-back repairs the byte. -/
def Obligations.FailedByteIsReadFromTheOtherBank : Prop :=
  ∀ (s : State) (req a : Nat), isTable a = true → s.parOk a = false → s.parOk (otherBank a) = true →
    let t := (s.readByte req a).2
    (s.readByte req a).1 = some (s.byte (otherBank a)) ∧ t.mem = s.mem ∧ t.wbacks.contains a = true ∧
    t.fld F.MP_CNT_CORR_CNT = min (s.fld F.MP_CNT_CORR_CNT + 1) 65535 ∧
    (s.flag F.MP_STAT_CORR = false → t.fld F.MP_CERR_ADDR = a ∧ t.fld F.MP_CERR_BANK = bankOf a) ∧
    (s.flag F.MP_STAT_CORR = true → t.reg Reg.MP_CERR = s.reg Reg.MP_CERR) ∧
    (s.wbacks.contains a = false → (a, s.now + 4) ∈ t.wbBy) ∧
    (t.writeBack a).byte a = s.byte (otherBank a) ∧ (t.writeBack a).parOk a = true

/-- R729 and R730: a byte that fails parity outside table memory, or in both banks of it, is a bus error with the requester and the first
address recorded. -/
def Obligations.UncorrectableByteIsABusError : Prop :=
  ∀ (s : State) (req a : Nat), s.parOk a = false → (isTable a = false ∨ s.parOk (otherBank a) = false) → req < 16 → a < 2 ^ 24 →
    let t := (s.readByte req a).2
    (s.readByte req a).1 = none ∧
    t.fld F.MP_CNT_UNCORR_CNT = min (s.fld F.MP_CNT_UNCORR_CNT + 1) 65535 ∧
    (s.flag F.MP_STAT_UNCORR = false → t.fld F.MP_UERR_ADDR = a ∧ t.fld F.MP_UERR_REQ = req) ∧
    (s.flag F.MP_STAT_UNCORR = true → t.reg Reg.MP_UERR = s.reg Reg.MP_UERR) ∧
    t = { s with regs := t.regs, raised := t.raised, hwSets := t.hwSets } ∧
    (s.lastWb.contains a = false → t.reg Reg.MP_HERR = s.reg Reg.MP_HERR) ∧
    ∀ k : Nat, k ≠ Reg.MP_UERR → k ≠ Reg.MP_CNT → k ≠ Reg.MP_STAT → k ≠ Reg.MP_HERR → t.reg k = s.reg k

/-- R738 outside table memory: the write to the armed word writes the bytes of `MASK` with wrong parity and spends the flip; a write elsewhere
leaves it armed. -/
def Obligations.FlipMaskSpendsItself : Prop :=
  ∀ (s : State) (a : Nat) (w : Word), a % 4 = 0 → isMem a = true → isTable a = false → s.flag F.MP_FLIP_ARM = true →
    let t := s.write32 a w
    (∀ k < 4, t.byte (a + k) = byteOf w k) ∧
    (s.fld F.MP_FLIPA_FADDR = a / 4 →
      (∀ k < 4, t.parOk (a + k) = !bitOf (s.fld F.MP_FLIP_MASK) k) ∧ t.flag F.MP_FLIP_ARM = false ∧ t.flag F.MP_FLIP_DONE = true) ∧
    (s.fld F.MP_FLIPA_FADDR ≠ a / 4 → (∀ k < 4, t.parOk (a + k) = true) ∧ t.regs = s.regs)

/-- R746 and R752: a push into the input buffer of a running Gallery, and all that a dropped entry changes. The entry takes its place among
those of its cycle; in a full buffer an entry that comes last in the order of the writers is dropped. -/
def Obligations.GalleryPushAndDrop : Prop :=
  ∀ (s : State) (g rank : Nat) (e : GqEntry), g < 64 → s.gqRuns g = true → s.flag (F.GQ_STAT_SEAL g) = false →
    (s.gq g).rstAt ≠ some s.now →
    ((s.gq g).buf.length < 4 → s.gqPush g rank e = s.modGq g fun x => { x with buf := gqInsert ⟨s.now, rank, e⟩ x.buf }) ∧
    ((s.gq g).buf.length = 4 → (∀ y ∈ (s.gq g).buf, y.came ≠ s.now ∨ y.rank ≤ rank) → s.gqPush g rank e = s.gqDropEntry g e) ∧
    ((∀ n conv seq fired fin v, e ≠ .tq n conv seq fired fin v) → s.gqDropEntry g e = s.gqDrop g) ∧
    let t := s.gqDrop g
    t.gq g = { s.gq g with loss := true } ∧ t.mem = s.mem ∧
    t.fld (F.GQ_CNT_DROP_CNT g) = min (s.fld (F.GQ_CNT_DROP_CNT g) + 1) 65535 ∧
    t.flag (F.GQ_STAT_DROP g) = true ∧
    (s.flag (F.GQ_STAT_DROP g) = true → t.raised = s.raised) ∧
    (s.flag (F.GQ_STAT_DROP g) = false →
      t.raised = s.raised ++ [⟨Ev.GQ_DROP.num, 1, if g == 0 then 5 else 3, s.gqConv g, g⟩]) ∧
    ∀ a : Nat, a ≠ Reg.GQ_CNT g → a ≠ Reg.GQ_STAT g → t.reg a = s.reg a

/-- R746 and R747: the oldest entry of the input buffer, when it arrived in an earlier cycle and none has been packed in this one; an item
that leaves room in the open slot is written at byte VB of the slot, and no slot is closed. -/
def Obligations.GalleryPacksAnItem : Prop :=
  ∀ (s : State) (g came rank : Nat) (v : List Byte) (rest : List GqIn), g < 64 → (s.gq g).buf = ⟨came, rank, .item v⟩ :: rest →
    ((s.now ≤ came ∨ (s.gq g).packAt = some s.now) → s.gqPack g = s) ∧
    (came < s.now → (s.gq g).packAt ≠ some s.now → s.gqVB g + v.length < 8 →
      let t := s.gqPack g
      t.gq g = { s.gq g with buf := rest, packAt := some s.now } ∧ t.gqN g = s.gqN g ∧ t.gqVB g = s.gqVB g + v.length ∧
      (∀ k < v.length, t.byte (s.gqData g (s.gq g).wr + s.gqVB g + k) = v.getD k 0) ∧
      ∀ a : Nat, (a < s.gqData g (s.gq g).wr + s.gqVB g ∨ s.gqData g (s.gq g).wr + s.gqVB g + v.length ≤ a) → t.byte a = s.byte a)

/-- R829: the matrix takes the raises of a cycle sorted by source, converter and instance, gives them consecutive values of `EV_SEQ`, and hands
them to the destinations in this order. -/
def Obligations.RaisesAreNumberedInOrder : Prop :=
  ∀ s : State, ∃ l : List Raise, l.Perm s.raised ∧
    l.Pairwise (fun a b => a.src < b.src ∨ a.src = b.src ∧ (a.conv < b.conv ∨ a.conv = b.conv ∧ a.inst ≤ b.inst)) ∧
    s.takeRaises.undecided = s.undecided ++ l ∧
    s.takeRaises.fld F.EV_SEQ_SEQV = (s.fld F.EV_SEQ_SEQV + l.length) % 2 ^ 32 ∧
    (s.fifo.length + l.length ≤ 64 →
      s.takeRaises.fifo.map (fun e => (e.seq, e.r)) =
        s.fifo.map (fun e => (e.seq, e.r)) ++ l.zipIdx.map fun p => ((s.fld F.EV_SEQ_SEQV + p.2) % 2 ^ 32, p.1))

/-- R830: what the matrix does with one raise, and the `LOSS` of the next entry that enters the log. -/
def Obligations.RaiseSetsItsPendingBits : Prop :=
  ∀ (s : State) (r : Raise),
    let t := s.takeRaise r
    let g := r.src / 16 % 32
    let p := r.src % 16
    bitOf (t.fld (F.EV_PEND_PEND g)) p = true ∧
    (bitOf (t.fld (F.EV_PEND_FPEND g)) p = (bitOf (s.fld (F.EV_PEND_FPEND g)) p || (r.sev == 3 && bitOf (s.fld (F.EV_EN_FLTEN g)) p))) ∧
    (∀ h k : Nat, h < 32 → k < 16 → (h ≠ g ∨ k ≠ p) →
      bitOf (t.fld (F.EV_PEND_PEND h)) k = bitOf (s.fld (F.EV_PEND_PEND h)) k ∧
      bitOf (t.fld (F.EV_PEND_FPEND h)) k = bitOf (s.fld (F.EV_PEND_FPEND h)) k) ∧
    t.undecided = s.undecided ++ [r] ∧
    (s.fifo.length < 64 → t.fifoLoss = s.fifoLoss ∧
      ∃ e : FifoEntry, t.fifo = s.fifo ++ [e] ∧ e.r = r ∧ e.seq = s.fld F.EV_SEQ_SEQV) ∧
    (64 ≤ s.fifo.length → t.fifo = s.fifo ∧ t.fifoLoss = true ∧
      t.fld F.EV_CNT_LOST_CNT = min (s.fld F.EV_CNT_LOST_CNT + 1) 65535) ∧
    ∀ e : FifoEntry, s.flag (F.GQ_STAT_SEAL 0) = false → s.logRoom = true →
      (s.logTake e).fifoLoss = false ∧ (s.logTake e).logHalf = some ((e.bytes s.fifoLoss).2, e.r.src) ∧
      (e.r.src < 512 → e.r.sev < 4 → e.r.lvl < 8 → bitOf ((e.bytes s.fifoLoss).1.getD 5 0).toNat 6 = s.fifoLoss)

/-- R831: `IRQ_N`, `FLT_N` and `EV_SUM`. -/
def Obligations.InterruptPinsFollowPendingBits : Prop :=
  ∀ s : State,
    (s.irqAsserted = true ↔ ∃ g < 32, Nat.land (s.fld (F.EV_PEND_PEND g)) (s.fld (F.EV_EN_IRQEN g)) ≠ 0) ∧
    (s.fltAsserted = true ↔ (∃ g < 32, s.fld (F.EV_PEND_FPEND g) ≠ 0) ∨ s.sys ≠ sysReady) ∧
    ∀ g < 32, bitOf (s.view Reg.EV_SUM).toNat g = decide (Nat.land (s.fld (F.EV_PEND_PEND g)) (s.fld (F.EV_EN_IRQEN g)) ≠ 0)

/-- The check values that R773 and R813 give for their CRCs. -/
def Obligations.CheckWordsOfTheManual : Prop :=
  crc32c [0x31#8, 0x32#8, 0x33#8, 0x34#8, 0x35#8, 0x36#8, 0x37#8, 0x38#8, 0x39#8] = 0xE3069283 ∧ crc32c [] = 0 ∧
    crc32c (List.replicate 32 0#8) = 0x8A9136AA ∧
    crc8 [0x31#8, 0x32#8, 0x33#8, 0x34#8, 0x35#8, 0x36#8, 0x37#8, 0x38#8, 0x39#8] = 0xDF#8

/-- R814: a frame whose CRC fails only counts, sets `CRCF`, raises `SP_CRCERR` on its first failure, and answers `RESP` 1 or 2. -/
def Obligations.BadCrcFrameDoesNothing : Prop :=
  ∀ (s t : State) (resp : Nat) (zeros : List Byte), s.sys ≠ sysReset →
    ((∃ (sh : Bool) (n addr : Nat) (h : Byte), h ≠ crc8 (spHeader (if sh then 2 else 1) n addr) ∧ t = s.spRead sh n addr h ∧
        resp = 1 ∧ zeros = zeroWords n) ∨
      (∃ (addr : Nat) (ws : List Word) (h d : Byte), h ≠ crc8 (spHeader 3 ws.length addr) ∧ t = s.spWrite addr ws h d ∧
        resp = 1 ∧ zeros = []) ∨
      (∃ (addr : Nat) (ws : List Word) (h d : Byte), h = crc8 (spHeader 3 ws.length addr) ∧ d ≠ crc8 (ws.flatMap beBytes) ∧
        t = s.spWrite addr ws h d ∧ resp = 2 ∧ zeros = [])) →
    t.fld F.SP_CNT_CRC_CNT = min (s.fld F.SP_CNT_CRC_CNT + 1) 4095 ∧ t.flag F.SP_STAT_CRCF = true ∧
    t.raised = s.raised ++ (if s.flag F.SP_STAT_CRCF then [] else [⟨Ev.SP_CRCERR.num, 1, 5, axle, 0⟩]) ∧
    (∃ st : Byte, t.spOut = st :: spTail zeros resp 0) ∧
    t = { s with regs := t.regs, raised := t.raised, spOut := t.spOut, hwSets := t.hwSets } ∧
    ∀ a : Nat, a ≠ Reg.SP_CNT → a ≠ Reg.SP_STAT → t.reg a = s.reg a

/-- R818: when one word of a WRITE fails its check nothing is written, and the answer names the first word that fails; otherwise the words are
written in ascending order, the first in the cycle of the frame and the others in the cycles after it (log entry 56). -/
def Obligations.WriteFrameIsAllOrNone : Prop :=
  (∀ (s : State) (addr : Nat) (ws : List Word), pastEnd addr ws.length = none →
    (∀ i < ws.length, s.writeCode (addr + 4 * i) ≠ 0 → (∀ k < i, s.writeCode (addr + 4 * k) = 0) →
      let t := s.writeFrame addr ws
      t.mem = s.mem ∧ t.shadow = s.shadow ∧ t.commits = s.commits ∧ t.gqs = s.gqs ∧ t.spQueue = s.spQueue ∧
      (∀ a : Nat, a ≠ Reg.SP_CNT → a ≠ Reg.SP_STAT → t.reg a = s.reg a) ∧
      t.spOut = s.spStatus :: spTail [] (s.writeCode (addr + 4 * i)) i)) ∧
  (∀ (s : State) (addr : Nat) (w : Word) (ws : List Word), pastEnd addr (ws.length + 1) = none → s.spQueue = [] →
    (∀ i ≤ ws.length, s.writeCode (addr + 4 * i) = 0) →
    let q := ws.zipIdx.map fun p => (addr + 4 * (p.2 + 1), p.1)
    s.writeFrame addr (w :: ws) =
      { ({ s with spQueue := q } : State).portWriteWord addr w with spOut := s.spStatus :: spTail [] 0 0 }) ∧
  ∀ (s : State) (p : Nat × Word) (q : List (Nat × Word)), s.spQueue = p :: q →
    s.spNext = ({ s with spQueue := q } : State).portWriteWord p.1 p.2

/-- R821: the grant of an unlock, at once (within the 1 ms of the rule); a request that is not granted changes nothing. -/
def Obligations.UnlockIsGrantedOnItsConditions : Prop :=
  ∀ (s : State) (key dur : Nat), key ≠ 0 →
    let ok := key = 0x7E57 ∧ 1 ≤ dur ∧ dur ≤ 600 ∧ s.flag F.SP_CFG_UNLEN = true ∧ (s.sys = sysReady ∨ s.sys = sysAxleSafe)
    (ok → s.unlockRequest key dur =
      { (s.setFlag F.SYS_STAT_UNL true) with raised := s.raised ++ [⟨Ev.SP_UNL.num, 0, 5, axle, 0⟩],
                                             unlockEnd := s.now + dur * 400000000 } ∧
      (s.unlockRequest key dur).unlocked = true) ∧
    (¬ ok → s.unlockRequest key dur = s)

/-- R822: what holds after the end of an unlock, by its time and by the key 0. -/
def Obligations.UnlockEndRestores : Prop :=
  ∀ s : State, s.unlocked = true →
    let t := s.unlockOver
    (∀ n < 6, t.flag (F.ADC_CORR_FREEZE n) = s.freezeImage n) ∧ (∀ n < 4, t.flag (F.EC_INJ_ARM n) = false) ∧
    t.flag F.MP_FLIP_ARM = false ∧ t.flag F.LT_CTL_FREL = false ∧ t.unlocked = false ∧
    t.raised = s.raised ++ [⟨Ev.SP_UNL.num, 0, 5, axle, 0⟩] ∧
    t = { s with regs := t.regs, raised := t.raised, hwSets := t.hwSets } ∧
    (∀ dur : Nat, s.unlockRequest 0 dur = t) ∧ (s.unlockEnd ≤ s.now → s.unlockEnds = t) ∧ (s.now < s.unlockEnd → s.unlockEnds = s)

/-- The state when reset is released: RESET, every register at its reset word, `FL_RST_N` asserted, every pair of safety inputs UNRES, empty
queues; it is settled and canonical. -/
def Obligations.ResetState : Prop :=
  State.reset.sys = sysReset ∧ (∀ a : Nat, State.reset.reg a = resetWord a) ∧ State.reset.lt.flRst = true ∧
    (∀ n < 8, State.reset.fld (F.SI_STAT_SISTATE n) = siUnres) ∧ State.reset.pending = [] ∧ State.reset.mem = [] ∧
    State.reset.fifo = [] ∧ State.reset.fld F.EV_SEQ_SEQV = 0 ∧ State.reset.Settled ∧ State.reset.Canonical

/-- R13, R764, R848 and R823 (log entry 52): what a reset clears and what it keeps. -/
def Obligations.ResetAssertClears : Prop :=
  ∀ (s : State) (cause : Nat), cause < 3 →
    let t := s.enterReset cause
    t.sys = sysReset ∧ t.mem = [] ∧ t.parBad = [] ∧ t.commits = [] ∧ t.fifo = [] ∧ t.lt.flRst = true ∧ t.lt.img = none ∧
    t.lt.held = true ∧ t.pending = s.pending ∧ t.rails = s.rails ∧ t.lt.region = s.lt.region ∧ t.lt.key = s.lt.key ∧
    (∀ a : Nat, a ≠ Reg.SYS_STAT → a ≠ Reg.OTP_STAT → a ≠ Reg.IO_STAT → t.reg a = resetWord a) ∧
    (cause ≠ rstPower → (s.lt.held && s.lt.por) = false → t.fld F.SYS_STAT_RSTC = cause ∧ t.reg Reg.IO_STAT = s.reg Reg.IO_STAT)

/-- R640: an enabled pair demands in every state except RELEASE, and at reset every pair is UNRES. -/
def Obligations.PairsDemandUnlessReleased : Prop :=
  (∀ (s : State) (n : Nat), s.flag (F.SI_CFG_EN n) = true → (s.pairDemands n = true ↔ s.fld (F.SI_STAT_SISTATE n) ≠ siRelease)) ∧
    ∀ n < 8, State.reset.fld (F.SI_STAT_SISTATE n) = siUnres

/-- R644: the internal STO request is the OR of its four sources, and the gate of the PG channels follows it. R645: while no wire fault is
latched (R646) both STO wires are asserted exactly under the conditions of the rule, but for the start-up test, which deasserts `STO_A_N` in
its first 10 µs and `STO_B_N` in its next 10 µs (R659). -/
def Obligations.StoRequestAndWiresFollow : Prop :=
  (∀ s : State,
    let t := s.stoFollow
    let req := s.fnDemands fnSto || s.flag F.SF_STO_SRCS || s.flag F.SF_STO_SRCL || s.flag F.SF_CTL_SCREQ
    t.flag F.SF_STO_REQ = req ∧ t.flag F.PG_STOSTAT_STOREQ = req ∧ t.flag F.SF_STO_SRCP = s.fnDemands fnSto ∧
      t.flag F.SF_STO_SRCC = s.flag F.SF_CTL_SCREQ ∧ t.mem = s.mem) ∧
  ∀ s : State, s.sf.wireBad = false →
    let t := s.wiresFollow
    let want := s.flag F.SF_STO_REQ = true ∨ s.sys = sysReset ∨ s.sys = sysLoad ∨ s.sys = sysTest ∨ s.sys = sysDefaults ∨
      (s.sys = sysAxleSafe ∧ s.fld (F.safeCmd 0) < 2 ∧ s.fld (F.safeCmd 1) < 2)
    (s.ioRun = none → (t.flag F.SF_STO_WA = true ↔ want) ∧ (t.flag F.SF_STO_WB = true ↔ want)) ∧
    (∀ e : Nat, s.ioRun = some e →
      (t.flag F.SF_STO_WA = true ↔ 4000 ≤ e) ∧ (t.flag F.SF_STO_WB = true ↔ (e < 4000 ∨ 8000 ≤ e))) ∧
    t.mem = s.mem

/-- R692 and R693: the entry of a CAN controller into bus-off. -/
def Obligations.BusOffEndsEveryRequest : Prop :=
  ∀ (s : State) (k : Nat), k < 4 →
    let t := s.canToBusOff k
    t.fld (F.CAN_STAT_CSTATE k) = canBusOff ∧ t.flag (F.CAN_FLAG_BOFF k) = true ∧
    t.fld (F.CAN_CNT2_BOFF_CNT k) = min (s.fld (F.CAN_CNT2_BOFF_CNT k) + 1) 65535 ∧
    t.fld (F.CAN_TXS_TXREQ k) = 0 ∧ (t.can k).boAt = s.now ∧
    t.raised = s.raised ++ [⟨Ev.CAN_BOFF.num, 2, 5, axle, k⟩] ∧
    ∀ b < 8, s.canPending k b = true → ∀ i < 4, t.byte (canBuf k b + 0x48 + i) = (if i = 0 then 4#8 else 0#8)

/-- R803 and R807: every record that the log writes passes the check of the scan, numbers run to 0xFFFF_FFFE and wrap to 0; three failed
records in a row stop the log. -/
def Obligations.FaultLogRecordsAreValid : Prop :=
  (∀ (s : State) (r : FlRec), flValid (s.flBytes r) = true) ∧ seqNext 0xFFFFFFFE = 0 ∧
  (∀ n : Nat, n < 0xFFFFFFFE → seqNext n = n + 1) ∧
  ∀ (s : State) (p : Nat) (r : FlRec), s.lt.op = some (.program p r) → (s.flReadback false).lt.fails = s.lt.fails + 1 ∧
    (3 ≤ s.lt.fails + 1 → (s.flReadback false).flag F.LT_FLSTAT_FLSTOP = true) ∧
    (s.lt.fails + 1 < 3 → (s.flReadback false).flag F.LT_FLSTAT_FLSTOP = s.flag F.LT_FLSTAT_FLSTOP)

/-- R623: the governing reaction of a converter is one of its reactions that is not NONE, and none of the others has a higher rank; there is
one whenever some reaction is not NONE and has a rank. -/
def Obligations.GoverningReactionHasHighestRank : Prop :=
  ∀ (held : Bool) (l : List Verdict),
    (∀ v : Verdict, governing held l = some v → v ∈ l ∧ v.react ≠ frNone ∧ ∀ x ∈ l, frRank x.react ≤ frRank v.react) ∧
    ((∃ v ∈ l, frRank v.react ≠ 0) → ∃ v : Verdict, governing held l = some v)

/-- R253 to R256: after a tick of an enabled profile generator its velocity lies within the velocity limit, and at its target it rests. -/
def Obligations.ProfileVelocityIsLimited : Prop :=
  ∀ (s : State) (g : Nat), g < 16 → s.loaded = true → s.flag (F.PF_CFG_EN g) = true →
    ∀ ks : List Nat,
    let t := s.profileTick g ks
    let lim := limit48 (s.sreg (Reg.PF_VM g)) (s.sfld (F.PF_SH_VS g))
    let x := vget t.profs g ⟨0, 0, 0⟩
    x.v ≤ lim ∧ -lim ≤ x.v ∧ (t.flag (F.PF_STAT_DONE g) = true → x.v = 0 ∧ x.a = 0 ∧ x.p = sat64 (s.sreg (Reg.PF_TGT g) * 2 ^ 24)) ∧
    t.mem = s.mem

/-- The canonical forms of the register maps and of memory are kept by the passing of time, by every register write, by writes to memory, and
by the event matrix. -/
def Obligations.OperationsKeepCanonicalMaps : Prop :=
  ∀ s : State, s.Canonical →
    (∀ n : Nat, (s.advance n).Canonical) ∧ (∀ (a : Nat) (w : Word), (s.setReg a w).Canonical ∧ (s.setShad a w).Canonical) ∧
    (∀ (a : Nat) (w : Word), (s.write32 a w).Canonical) ∧ (∀ (a : Nat) (bs : List Byte), (s.writeBytes a bs).Canonical) ∧
    s.flush.Canonical

/-- The invariant of every step: from a settled state every step gives a settled state, in which every jump, every re-seek that it makes and
every change of direction has been followed (R67, R68, R77). -/
def Obligations.StepsLeaveNothingWaiting : Prop :=
  ∀ s t : State, s.Settled → step s = .next t → t.Settled
end

