-- ==== Sys2Proof/Laws/Arith.lean ====
section
/-! SUPPORT. The arithmetic of signals is odd: every operation of R213 and R214 commutes with negation, which Echo rests on (R272). -/

namespace Sys2Proof.Machine

theorem clampI_neg (lo hi v : Int) (h : lo ≤ hi) : clampI (-hi) (-lo) (-v) = -clampI lo hi v := by
  unfold clampI; split_ifs <;> omega

theorem clampI_bounds (lo hi v : Int) (h : lo ≤ hi) : lo ≤ clampI lo hi v ∧ clampI lo hi v ≤ hi := by
  unfold clampI; split_ifs <;> omega

theorem sat32_neg (v : Int) : sat32 (-v) = -sat32 v := by
  have := clampI_neg (-sMax) sMax v (by decide); simpa [sat32] using this

theorem sat72_neg (v : Int) : sat72 (-v) = -sat72 v := by
  have := clampI_neg (-(2 ^ 71 - 1)) (2 ^ 71 - 1) v (by decide); simpa [sat72] using this

theorem sat64_neg (v : Int) : sat64 (-v) = -sat64 v := by
  have := clampI_neg (-(2 ^ 63 - 1)) (2 ^ 63 - 1) v (by decide); simpa [sat64] using this

theorem sat32_bounds (v : Int) : -sMax ≤ sat32 v ∧ sat32 v ≤ sMax := clampI_bounds _ _ v (by decide)

theorem sgn_neg (v : Int) : sgn (-v) = -sgn v := by unfold sgn; split_ifs <;> omega

theorem rnd_neg (v : Int) (n : Nat) : rnd (-v) n = -rnd v n := by
  cases n with
  | zero => rfl
  | succ n => simp [rnd, sgn_neg]

theorem shlRnd_neg (v e : Int) : shlRnd (-v) e = -shlRnd v e := by
  unfold shlRnd; split_ifs
  · ring
  · exact rnd_neg _ _

theorem term_neg (x : Int) (c : Coeff) : term (-x) c = -term x c := by
  unfold term; rw [Int.neg_mul, shlRnd_neg, sat72_neg]

theorem prod_neg_left (x y : Int) : prod (-x) y = -prod x y := by unfold prod; rw [Int.neg_mul, sat72_neg]

theorem prod_neg_right (x y : Int) : prod x (-y) = -prod x y := by unfold prod; rw [Int.mul_neg, sat72_neg]

theorem mulA_neg (a : Int) (c : Coeff) : mulA (-a) c = -mulA a c := by unfold mulA; rw [Int.neg_mul, rnd_neg, sat72_neg]

theorem addA_neg (a b : Int) : addA (-a) (-b) = -addA a b := by
  unfold addA; rw [← Int.neg_add, sat72_neg]

theorem subA_neg (a b : Int) : subA (-a) (-b) = -subA a b := by
  unfold subA; rw [← sat72_neg]; congr 1; omega

theorem qRaw_neg (a : Int) : qRaw (-a) = -qRaw a := rnd_neg a 24

theorem q_neg (a : Int) : q (-a) = -q a := by unfold q; rw [qRaw_neg, sat32_neg]

end Sys2Proof.Machine
end

