-- ==== Sys2Proof/Laws/Maps.lean ====
section
/-! SUPPORT. The canonical sparse maps: what a read gives after a write, and that every write keeps the canonical form; the same for
registers, their fields and the bytes of memory. -/

namespace Sys2Proof.Machine

/-! ### Reads and writes of a map -/

theorem mapGet_append {α : Type} (l r : List (Nat × α)) (a : Nat) : mapGet (l ++ r) a = (mapGet l a).or (mapGet r a) := by
  induction l with
  | nil => rfl
  | cons p l ih =>
    obtain ⟨k, v⟩ := p
    by_cases h : k = a <;> simp [mapGet, h, ih]

theorem mapGet_filter {α : Type} (m : List (Nat × α)) (q : Nat → Bool) (a : Nat) :
    mapGet (m.filter fun p => q p.1) a = if q a then mapGet m a else none := by
  induction m with
  | nil => simp [mapGet]
  | cons p m ih =>
    obtain ⟨k, v⟩ := p
    by_cases hk : k = a
    · subst hk
      by_cases hq : q k <;> simp [mapGet, hq, ih]
    · by_cases hq : q k <;> simp [mapGet, hq, hk, ih]

@[simp] theorem mapGet_mapSet_same {α : Type} (m : List (Nat × α)) (a : Nat) (v : Option α) : mapGet (mapSet m a v) a = v := by
  have h1 := mapGet_filter m (fun k => decide (k < a)) a
  have h2 := mapGet_filter m (fun k => decide (a < k)) a
  cases v <;> simp_all [mapSet, mapGet_append, mapGet]

theorem mapGet_mapSet_ne {α : Type} (m : List (Nat × α)) {a b : Nat} (v : Option α) (h : b ≠ a) :
    mapGet (mapSet m a v) b = mapGet m b := by
  have h1 := mapGet_filter m (fun k => decide (k < a)) b
  have h2 := mapGet_filter m (fun k => decide (a < k)) b
  have h3 : ¬ a = b := fun e => h e.symm
  rcases Nat.lt_or_gt_of_ne h with hb | hb
  · have : ¬ a < b := by omega
    cases v <;> simp_all [mapSet, mapGet_append, mapGet]
  · have : ¬ b < a := by omega
    cases v <;> simp_all [mapSet, mapGet_append, mapGet]

/-! ### The canonical form -/

theorem rising_iff_pairwise {α : Type} (m : List (Nat × α)) : rising m = true ↔ m.Pairwise (fun p q => p.1 < q.1) := by
  induction m with
  | nil => simp [rising]
  | cons p m ih =>
    cases m with
    | nil => simp [rising]
    | cons q m =>
      obtain ⟨k, v⟩ := p
      obtain ⟨k', w⟩ := q
      rw [rising, Bool.and_eq_true, ih, List.pairwise_cons (a := (k, v))]
      constructor
      · rintro ⟨h, hp⟩
        refine ⟨fun x hx => ?_, hp⟩
        rcases List.mem_cons.1 hx with rfl | hx
        · simpa using h
        · exact Nat.lt_trans (by simpa using h) ((List.pairwise_cons.1 hp).1 x hx)
      · rintro ⟨h, hp⟩
        exact ⟨by simpa using h (k', w) (by simp), hp⟩

theorem mapSet_rising {α : Type} (m : List (Nat × α)) (a : Nat) (v : Option α) (h : rising m = true) :
    rising (mapSet m a v) = true := by
  rw [rising_iff_pairwise] at *
  unfold mapSet
  rw [List.pairwise_append, List.pairwise_append]
  refine ⟨⟨h.filter _, ?_, ?_⟩, h.filter _, ?_⟩
  · cases v <;> simp
  · intro p hp q hq
    cases v <;> simp_all
  · intro p hp q hq
    have hq' : a < q.1 := by simpa using (List.mem_filter.1 hq).2
    rcases List.mem_append.1 hp with hp | hp
    · have : p.1 < a := by simpa using (List.mem_filter.1 hp).2
      omega
    · cases v <;> simp_all

theorem mem_mapSet {α : Type} {m : List (Nat × α)} {a : Nat} {v : Option α} {p : Nat × α} (h : p ∈ mapSet m a v) :
    p ∈ m ∨ (p.1 = a ∧ v = some p.2) := by
  simp only [mapSet, List.mem_append, List.mem_filter] at h
  rcases h with (h | h) | h
  · exact .inl h.1
  · cases v with
    | none => simp at h
    | some x => exact .inr (by simp_all)
  · exact .inl h.1

/-! ### Registers -/

@[simp] theorem regGet_regSet_same (m : List (Nat × Word)) (a : Nat) (w : Word) : regGet (regSet m a w) a = w := by
  unfold regGet regSet
  split <;> simp_all

theorem regGet_regSet_ne (m : List (Nat × Word)) {a b : Nat} (w : Word) (h : b ≠ a) : regGet (regSet m a w) b = regGet m b := by
  simp [regGet, regSet, mapGet_mapSet_ne _ _ h]

theorem regSet_wf (m : List (Nat × Word)) (a : Nat) (w : Word) (h : regWf m = true) : regWf (regSet m a w) = true := by
  simp only [regWf, Bool.and_eq_true, List.all_eq_true] at *
  refine ⟨mapSet_rising _ _ _ h.1, fun p hp => ?_⟩
  rcases mem_mapSet hp with hp | ⟨hk, hv⟩
  · exact h.2 p hp
  · split at hv
    · cases hv
    · cases hv; simpa [hk] using ‹_›

@[simp] theorem State.reg_setReg_same (s : State) (a : Nat) (w : Word) : (s.setReg a w).reg a = w := regGet_regSet_same _ _ _
theorem State.reg_setReg_ne (s : State) {a b : Nat} (w : Word) (h : b ≠ a) : (s.setReg a w).reg b = s.reg b := regGet_regSet_ne _ _ h
@[simp] theorem State.shad_setShad_same (s : State) (a : Nat) (w : Word) : (s.setShad a w).shad a = w := regGet_regSet_same _ _ _
theorem State.shad_setShad_ne (s : State) {a b : Nat} (w : Word) (h : b ≠ a) : (s.setShad a w).shad b = s.shad b :=
  regGet_regSet_ne _ _ h

/-! ### Memory -/

@[simp] theorem cellGet_cellSet_same (m : List Host.Cell) (a : Nat) (b : Byte) : cellGet (cellSet m a b) a = b := by
  unfold cellGet cellSet
  split <;> simp_all

theorem cellGet_cellSet_ne (m : List Host.Cell) {a c : Nat} (b : Byte) (h : c ≠ a) : cellGet (cellSet m a b) c = cellGet m c := by
  simp [cellGet, cellSet, mapGet_mapSet_ne _ _ h]

theorem cellSet_wf (m : List Host.Cell) (a : Nat) (b : Byte) (h : Memory.wf m = true) : Memory.wf (cellSet m a b) = true := by
  simp only [Memory.wf, Bool.and_eq_true, List.all_eq_true] at *
  refine ⟨mapSet_rising _ _ _ h.1, fun p hp => ?_⟩
  rcases mem_mapSet hp with hp | ⟨_, hv⟩
  · exact h.2 p hp
  · split at hv
    · cases hv
    · cases hv; simpa using ‹_›

@[simp] theorem State.byte_putByte_same (s : State) (a : Nat) (b : Byte) (bad : Bool) : (s.putByte a b bad).byte a = b :=
  cellGet_cellSet_same _ _ _
theorem State.byte_putByte_ne (s : State) {a c : Nat} (b : Byte) (bad : Bool) (h : c ≠ a) : (s.putByte a b bad).byte c = s.byte c :=
  cellGet_cellSet_ne _ _ h
theorem State.putByte_wf (s : State) (a : Nat) (b : Byte) (bad : Bool) (h : Memory.wf s.mem = true) :
    Memory.wf (s.putByte a b bad).mem = true := cellSet_wf _ _ _ h

/-! ### Conditional and repeated operations -/

@[simp] theorem State.when_true (s : State) (f : State → State) : s.when true f = f s := rfl
@[simp] theorem State.when_false (s : State) (f : State → State) : s.when false f = s := rfl
@[simp] theorem State.each_nil {α : Type} (s : State) (f : State → α → State) : s.each [] f = s := rfl
@[simp] theorem State.each_cons {α : Type} (s : State) (x : α) (l : List α) (f : State → α → State) :
    s.each (x :: l) f = (f s x).each l f := rfl

/-- What the operation keeps, its conditional form keeps. -/
theorem State.when_keeps (P : State → Prop) (s : State) (c : Bool) (f : State → State) (h : P s) (hf : P s → P (f s)) : P (s.when c f) := by
  cases c <;> simp_all

/-- What each application keeps, the whole repetition keeps. -/
theorem State.each_keeps {α : Type} (P : State → Prop) (l : List α) (f : State → α → State) (hf : ∀ s x, x ∈ l → P s → P (f s x)) :
    ∀ s : State, P s → P (s.each l f) := by
  induction l with
  | nil => exact fun s h => h
  | cons x l ih =>
    exact fun s h => ih (fun s y hy => hf s y (List.mem_cons_of_mem _ hy)) _ (hf s x (List.mem_cons_self ..) h)

theorem State.writeByte_wf (s : State) (a : Nat) (b : Byte) (h : Memory.wf s.mem = true) : Memory.wf (s.writeByte a b).mem = true := by
  unfold State.writeByte
  split
  · exact putByte_wf _ _ _ _ (putByte_wf _ _ _ _ h)
  · exact putByte_wf _ _ _ _ h

theorem State.spendFlip_mem (s : State) (a : Nat) : (s.spendFlip a).mem = s.mem := by
  unfold State.spendFlip State.when
  split <;> rfl

theorem State.write32_wf (s : State) (a : Nat) (w : Word) (h : Memory.wf s.mem = true) : Memory.wf (s.write32 a w).mem = true := by
  unfold State.write32
  rw [State.spendFlip_mem]
  exact State.each_keeps (fun s => Memory.wf s.mem = true) _ _ (fun s k _ h => State.writeByte_wf s _ _ h) s h

theorem State.putBytes_wf (bs : List Byte) : ∀ (s : State) (a : Nat), Memory.wf s.mem = true → Memory.wf (s.putBytes a bs).mem = true := by
  induction bs with
  | nil => exact fun s a h => h
  | cons b bs ih => exact fun s a h => ih _ _ (State.writeByte_wf s a b h)

theorem State.writeBytes_wf (s : State) (a : Nat) (bs : List Byte) (h : Memory.wf s.mem = true) : Memory.wf (s.writeBytes a bs).mem = true := by
  unfold State.writeBytes
  exact State.each_keeps (fun s => Memory.wf s.mem = true) _ _ (fun s k _ h => by rw [State.spendFlip_mem]; exact h) _
    (State.putBytes_wf bs s a h)

end Sys2Proof.Machine
end

