-- ==== Sys2Proof/Laws/Fields.lean ====
section
/-! SUPPORT. Bit fields: what a field reads after it, or another field, is written. -/

namespace Sys2Proof.Machine

theorem putBits_eq (x l w v : Nat) : putBits x l w v = 2 ^ l * (2 ^ w * (x / 2 ^ l / 2 ^ w) + v % 2 ^ w) + x % 2 ^ l := by
  have h1 := Nat.div_add_mod x (2 ^ l)
  have h2 := Nat.div_add_mod (x / 2 ^ l) (2 ^ w)
  have h3 : x = 2 ^ l * (2 ^ w * (x / 2 ^ l / 2 ^ w)) + x / 2 ^ l % 2 ^ w * 2 ^ l + x % 2 ^ l := by
    calc x = 2 ^ l * (2 ^ w * (x / 2 ^ l / 2 ^ w) + x / 2 ^ l % 2 ^ w) + x % 2 ^ l := by rw [h2, h1]
      _ = _ := by ring
  have h4 : 2 ^ l * (2 ^ w * (x / 2 ^ l / 2 ^ w) + v % 2 ^ w)
      = 2 ^ l * (2 ^ w * (x / 2 ^ l / 2 ^ w)) + v % 2 ^ w * 2 ^ l := by ring
  unfold putBits bitsOf
  omega

theorem testBit_putBits (x l w v i : Nat) :
    (putBits x l w v).testBit i = if l ≤ i ∧ i < l + w then v.testBit (i - l) else x.testBit i := by
  rw [putBits_eq, Nat.testBit_two_pow_mul_add _ (Nat.mod_lt _ (Nat.two_pow_pos l)),
    Nat.testBit_two_pow_mul_add _ (Nat.mod_lt _ (Nat.two_pow_pos w))]
  by_cases h1 : i < l
  · have : ¬ (l ≤ i ∧ i < l + w) := by omega
    simp [h1, this, Nat.testBit_mod_two_pow]
  · by_cases h2 : i - l < w
    · have : l ≤ i ∧ i < l + w := by omega
      simp [h1, h2, this, Nat.testBit_mod_two_pow]
    · have : ¬ (l ≤ i ∧ i < l + w) := by omega
      simp only [h1, h2, this, if_false, Nat.testBit_div_two_pow]
      congr 1
      omega

theorem testBit_bitsOf (x l w i : Nat) : (bitsOf x l w).testBit i = (decide (i < w) && x.testBit (l + i)) := by
  simp [bitsOf, Nat.testBit_mod_two_pow, Nat.testBit_div_two_pow, Nat.add_comm]

theorem bitsOf_putBits_same (x l w v : Nat) : bitsOf (putBits x l w v) l w = v % 2 ^ w := by
  apply Nat.eq_of_testBit_eq
  intro i
  rw [testBit_bitsOf, testBit_putBits, Nat.testBit_mod_two_pow]
  by_cases h : i < w <;> simp [h]

theorem bitsOf_putBits_disjoint (x l w v l' w' : Nat) (h : l' + w' ≤ l ∨ l + w ≤ l') : bitsOf (putBits x l w v) l' w' = bitsOf x l' w' := by
  apply Nat.eq_of_testBit_eq
  intro i
  rw [testBit_bitsOf, testBit_bitsOf, testBit_putBits]
  by_cases hi : i < w'
  · have : ¬ (l ≤ l' + i ∧ l' + i < l + w) := by omega
    simp [hi, this]
  · simp [hi]

theorem putBits_lt (x l w v : Nat) (hx : x < 2 ^ 32) (hf : l + w ≤ 32) : putBits x l w v < 2 ^ 32 := by
  apply Nat.lt_pow_two_of_testBit
  intro i hi
  rw [testBit_putBits]
  have : ¬ (l ≤ i ∧ i < l + w) := by omega
  rw [if_neg this]
  exact Nat.testBit_lt_two_pow (Nat.lt_of_lt_of_le hx (Nat.pow_le_pow_right (by decide) hi))

theorem Word.get_put_same (w : Word) (l n v : Nat) (h : l + n ≤ 32) : Word.get (Word.put w l n v) l n = v % 2 ^ n := by
  rw [Word.get, Word.put, BitVec.toNat_ofNat, Nat.mod_eq_of_lt (putBits_lt _ _ _ _ w.isLt h), bitsOf_putBits_same]

theorem Word.get_put_disjoint (w : Word) (l n v l' n' : Nat) (h : l + n ≤ 32) (hd : l' + n' ≤ l ∨ l + n ≤ l') :
    Word.get (Word.put w l n v) l' n' = Word.get w l' n' := by
  rw [Word.get, Word.put, BitVec.toNat_ofNat, Nat.mod_eq_of_lt (putBits_lt _ _ _ _ w.isLt h), bitsOf_putBits_disjoint _ _ _ _ _ _ hd,
    Word.get]

/-! ### Fields of the state -/

theorem State.fld_setFld_same (s : State) (f : Fld) (v : Nat) (h : f.lsb + f.width ≤ 32) : (s.setFld f v).fld f = v % 2 ^ f.width := by
  simp [State.fld, State.setFld, Word.get_put_same _ _ _ _ h]

theorem State.reg_setFld_ne (s : State) (f : Fld) (v : Nat) {a : Nat} (h : a ≠ f.addr) : (s.setFld f v).reg a = s.reg a :=
  State.reg_setReg_ne s _ h

theorem State.fld_setFld_ne (s : State) (f g : Fld) (v : Nat) (h : g.addr ≠ f.addr) : (s.setFld f v).fld g = s.fld g := by
  rw [State.fld, State.fld, State.reg_setFld_ne s f v h]

theorem State.fld_setFld_disjoint (s : State) (f g : Fld) (v : Nat) (hf : f.lsb + f.width ≤ 32)
    (h : g.lsb + g.width ≤ f.lsb ∨ f.lsb + f.width ≤ g.lsb) : (s.setFld f v).fld g = s.fld g := by
  by_cases ha : g.addr = f.addr
  · simp [State.fld, State.setFld, ha, Word.get_put_disjoint _ _ _ _ _ _ hf h]
  · exact State.fld_setFld_ne s f g v ha

theorem State.flag_setFlag_same (s : State) (f : Fld) (b : Bool) (h : f.lsb + f.width ≤ 32) (hw : 0 < f.width) :
    (s.setFlag f b).flag f = b := by
  have h2 : 1 < 2 ^ f.width := Nat.one_lt_two_pow (by omega)
  cases b
  · simp [State.flag, State.setFlag, State.fld_setFld_same _ f _ h]
  · simp [State.flag, State.setFlag, State.fld_setFld_same _ f _ h, Nat.mod_eq_of_lt h2]

end Sys2Proof.Machine
end

