-- ==== Sys2Proof/Laws/State.lean ====
section
/-! SUPPORT. What each of the basic updates of the state does to each field: one lemma per field per update, true by `rfl`. -/

namespace Sys2Proof.Machine

variable (s : State)

/-! ### `setReg` -/

@[simp] theorem State.setReg_now (a : Nat) (w : Word) : (s.setReg a w).now = s.now := rfl
@[simp] theorem State.setReg_freeCtr (a : Nat) (w : Word) : (s.setReg a w).freeCtr = s.freeCtr := rfl
@[simp] theorem State.setReg_regs (a : Nat) (w : Word) : (s.setReg a w).regs = regSet s.regs a w := rfl
@[simp] theorem State.setReg_shadow (a : Nat) (w : Word) : (s.setReg a w).shadow = s.shadow := rfl
@[simp] theorem State.setReg_pllInt (a : Nat) (w : Word) : (s.setReg a w).pllInt = s.pllInt := rfl
@[simp] theorem State.setReg_mem (a : Nat) (w : Word) : (s.setReg a w).mem = s.mem := rfl
@[simp] theorem State.setReg_parBad (a : Nat) (w : Word) : (s.setReg a w).parBad = s.parBad := rfl
@[simp] theorem State.setReg_wbacks (a : Nat) (w : Word) : (s.setReg a w).wbacks = s.wbacks := rfl
@[simp] theorem State.setReg_wbBy (a : Nat) (w : Word) : (s.setReg a w).wbBy = s.wbBy := rfl
@[simp] theorem State.setReg_lastWb (a : Nat) (w : Word) : (s.setReg a w).lastWb = s.lastWb := rfl
@[simp] theorem State.setReg_commits (a : Nat) (w : Word) : (s.setReg a w).commits = s.commits := rfl
@[simp] theorem State.setReg_raised (a : Nat) (w : Word) : (s.setReg a w).raised = s.raised := rfl
@[simp] theorem State.setReg_fifo (a : Nat) (w : Word) : (s.setReg a w).fifo = s.fifo := rfl
@[simp] theorem State.setReg_fifoLoss (a : Nat) (w : Word) : (s.setReg a w).fifoLoss = s.fifoLoss := rfl
@[simp] theorem State.setReg_logHalf (a : Nat) (w : Word) : (s.setReg a w).logHalf = s.logHalf := rfl
@[simp] theorem State.setReg_logNext (a : Nat) (w : Word) : (s.setReg a w).logNext = s.logNext := rfl
@[simp] theorem State.setReg_undecided (a : Nat) (w : Word) : (s.setReg a w).undecided = s.undecided := rfl
@[simp] theorem State.setReg_hwSets (a : Nat) (w : Word) : (s.setReg a w).hwSets = s.hwSets := rfl
@[simp] theorem State.setReg_reseeks (a : Nat) (w : Word) : (s.setReg a w).reseeks = s.reseeks := rfl
@[simp] theorem State.setReg_jumped (a : Nat) (w : Word) : (s.setReg a w).jumped = s.jumped := rfl
@[simp] theorem State.setReg_turned (a : Nat) (w : Word) : (s.setReg a w).turned = s.turned := rfl
@[simp] theorem State.setReg_doms (a : Nat) (w : Word) : (s.setReg a w).doms = s.doms := rfl
@[simp] theorem State.setReg_trks (a : Nat) (w : Word) : (s.setReg a w).trks = s.trks := rfl
@[simp] theorem State.setReg_fireAt (a : Nat) (w : Word) : (s.setReg a w).fireAt = s.fireAt := rfl
@[simp] theorem State.setReg_fired (a : Nat) (w : Word) : (s.setReg a w).fired = s.fired := rfl
@[simp] theorem State.setReg_marks (a : Nat) (w : Word) : (s.setReg a w).marks = s.marks := rfl
@[simp] theorem State.setReg_adcs (a : Nat) (w : Word) : (s.setReg a w).adcs = s.adcs := rfl
@[simp] theorem State.setReg_xcRun (a : Nat) (w : Word) : (s.setReg a w).xcRun = s.xcRun := rfl
@[simp] theorem State.setReg_fits (a : Nat) (w : Word) : (s.setReg a w).fits = s.fits := rfl
@[simp] theorem State.setReg_lanes (a : Nat) (w : Word) : (s.setReg a w).lanes = s.lanes := rfl
@[simp] theorem State.setReg_ctxRuns (a : Nat) (w : Word) : (s.setReg a w).ctxRuns = s.ctxRuns := rfl
@[simp] theorem State.setReg_profs (a : Nat) (w : Word) : (s.setReg a w).profs = s.profs := rfl
@[simp] theorem State.setReg_gqs (a : Nat) (w : Word) : (s.setReg a w).gqs = s.gqs := rfl
@[simp] theorem State.setReg_cmps (a : Nat) (w : Word) : (s.setReg a w).cmps = s.cmps := rfl
@[simp] theorem State.setReg_shorts (a : Nat) (w : Word) : (s.setReg a w).shorts = s.shorts := rfl
@[simp] theorem State.setReg_ovRel (a : Nat) (w : Word) : (s.setReg a w).ovRel = s.ovRel := rfl
@[simp] theorem State.setReg_pgs (a : Nat) (w : Word) : (s.setReg a w).pgs = s.pgs := rfl
@[simp] theorem State.setReg_before (a : Nat) (w : Word) : (s.setReg a w).before = s.before := rfl
@[simp] theorem State.setReg_inputs (a : Nat) (w : Word) : (s.setReg a w).inputs = s.inputs := rfl
@[simp] theorem State.setReg_gls (a : Nat) (w : Word) : (s.setReg a w).gls = s.gls := rfl
@[simp] theorem State.setReg_tms (a : Nat) (w : Word) : (s.setReg a w).tms = s.tms := rfl
@[simp] theorem State.setReg_tcs (a : Nat) (w : Word) : (s.setReg a w).tcs = s.tcs := rfl
@[simp] theorem State.setReg_rss (a : Nat) (w : Word) : (s.setReg a w).rss = s.rss := rfl
@[simp] theorem State.setReg_qds (a : Nat) (w : Word) : (s.setReg a w).qds = s.qds := rfl
@[simp] theorem State.setReg_hls (a : Nat) (w : Word) : (s.setReg a w).hls = s.hls := rfl
@[simp] theorem State.setReg_dc (a : Nat) (w : Word) : (s.setReg a w).dc = s.dc := rfl
@[simp] theorem State.setReg_ch (a : Nat) (w : Word) : (s.setReg a w).ch = s.ch := rfl
@[simp] theorem State.setReg_acs (a : Nat) (w : Word) : (s.setReg a w).acs = s.acs := rfl
@[simp] theorem State.setReg_sumpActOff (a : Nat) (w : Word) : (s.setReg a w).sumpActOff = s.sumpActOff := rfl
@[simp] theorem State.setReg_ovSince (a : Nat) (w : Word) : (s.setReg a w).ovSince = s.ovSince := rfl
@[simp] theorem State.setReg_sc (a : Nat) (w : Word) : (s.setReg a w).sc = s.sc := rfl
@[simp] theorem State.setReg_sf (a : Nat) (w : Word) : (s.setReg a w).sf = s.sf := rfl
@[simp] theorem State.setReg_rails (a : Nat) (w : Word) : (s.setReg a w).rails = s.rails := rfl
@[simp] theorem State.setReg_cans (a : Nat) (w : Word) : (s.setReg a w).cans = s.cans := rfl
@[simp] theorem State.setReg_al (a : Nat) (w : Word) : (s.setReg a w).al = s.al := rfl
@[simp] theorem State.setReg_trPost (a : Nat) (w : Word) : (s.setReg a w).trPost = s.trPost := rfl
@[simp] theorem State.setReg_unlockEnd (a : Nat) (w : Word) : (s.setReg a w).unlockEnd = s.unlockEnd := rfl
@[simp] theorem State.setReg_lt (a : Nat) (w : Word) : (s.setReg a w).lt = s.lt := rfl
@[simp] theorem State.setReg_scrubAt (a : Nat) (w : Word) : (s.setReg a w).scrubAt = s.scrubAt := rfl
@[simp] theorem State.setReg_lerrOpen (a : Nat) (w : Word) : (s.setReg a w).lerrOpen = s.lerrOpen := rfl
@[simp] theorem State.setReg_spOut (a : Nat) (w : Word) : (s.setReg a w).spOut = s.spOut := rfl
@[simp] theorem State.setReg_spQueue (a : Nat) (w : Word) : (s.setReg a w).spQueue = s.spQueue := rfl
@[simp] theorem State.setReg_pending (a : Nat) (w : Word) : (s.setReg a w).pending = s.pending := rfl

/-! ### `setShad` -/

@[simp] theorem State.setShad_now (a : Nat) (w : Word) : (s.setShad a w).now = s.now := rfl
@[simp] theorem State.setShad_freeCtr (a : Nat) (w : Word) : (s.setShad a w).freeCtr = s.freeCtr := rfl
@[simp] theorem State.setShad_regs (a : Nat) (w : Word) : (s.setShad a w).regs = s.regs := rfl
@[simp] theorem State.setShad_shadow (a : Nat) (w : Word) : (s.setShad a w).shadow = regSet s.shadow a w := rfl
@[simp] theorem State.setShad_pllInt (a : Nat) (w : Word) : (s.setShad a w).pllInt = s.pllInt := rfl
@[simp] theorem State.setShad_mem (a : Nat) (w : Word) : (s.setShad a w).mem = s.mem := rfl
@[simp] theorem State.setShad_parBad (a : Nat) (w : Word) : (s.setShad a w).parBad = s.parBad := rfl
@[simp] theorem State.setShad_wbacks (a : Nat) (w : Word) : (s.setShad a w).wbacks = s.wbacks := rfl
@[simp] theorem State.setShad_wbBy (a : Nat) (w : Word) : (s.setShad a w).wbBy = s.wbBy := rfl
@[simp] theorem State.setShad_lastWb (a : Nat) (w : Word) : (s.setShad a w).lastWb = s.lastWb := rfl
@[simp] theorem State.setShad_commits (a : Nat) (w : Word) : (s.setShad a w).commits = s.commits := rfl
@[simp] theorem State.setShad_raised (a : Nat) (w : Word) : (s.setShad a w).raised = s.raised := rfl
@[simp] theorem State.setShad_fifo (a : Nat) (w : Word) : (s.setShad a w).fifo = s.fifo := rfl
@[simp] theorem State.setShad_fifoLoss (a : Nat) (w : Word) : (s.setShad a w).fifoLoss = s.fifoLoss := rfl
@[simp] theorem State.setShad_logHalf (a : Nat) (w : Word) : (s.setShad a w).logHalf = s.logHalf := rfl
@[simp] theorem State.setShad_logNext (a : Nat) (w : Word) : (s.setShad a w).logNext = s.logNext := rfl
@[simp] theorem State.setShad_undecided (a : Nat) (w : Word) : (s.setShad a w).undecided = s.undecided := rfl
@[simp] theorem State.setShad_hwSets (a : Nat) (w : Word) : (s.setShad a w).hwSets = s.hwSets := rfl
@[simp] theorem State.setShad_reseeks (a : Nat) (w : Word) : (s.setShad a w).reseeks = s.reseeks := rfl
@[simp] theorem State.setShad_jumped (a : Nat) (w : Word) : (s.setShad a w).jumped = s.jumped := rfl
@[simp] theorem State.setShad_turned (a : Nat) (w : Word) : (s.setShad a w).turned = s.turned := rfl
@[simp] theorem State.setShad_doms (a : Nat) (w : Word) : (s.setShad a w).doms = s.doms := rfl
@[simp] theorem State.setShad_trks (a : Nat) (w : Word) : (s.setShad a w).trks = s.trks := rfl
@[simp] theorem State.setShad_fireAt (a : Nat) (w : Word) : (s.setShad a w).fireAt = s.fireAt := rfl
@[simp] theorem State.setShad_fired (a : Nat) (w : Word) : (s.setShad a w).fired = s.fired := rfl
@[simp] theorem State.setShad_marks (a : Nat) (w : Word) : (s.setShad a w).marks = s.marks := rfl
@[simp] theorem State.setShad_adcs (a : Nat) (w : Word) : (s.setShad a w).adcs = s.adcs := rfl
@[simp] theorem State.setShad_xcRun (a : Nat) (w : Word) : (s.setShad a w).xcRun = s.xcRun := rfl
@[simp] theorem State.setShad_fits (a : Nat) (w : Word) : (s.setShad a w).fits = s.fits := rfl
@[simp] theorem State.setShad_lanes (a : Nat) (w : Word) : (s.setShad a w).lanes = s.lanes := rfl
@[simp] theorem State.setShad_ctxRuns (a : Nat) (w : Word) : (s.setShad a w).ctxRuns = s.ctxRuns := rfl
@[simp] theorem State.setShad_profs (a : Nat) (w : Word) : (s.setShad a w).profs = s.profs := rfl
@[simp] theorem State.setShad_gqs (a : Nat) (w : Word) : (s.setShad a w).gqs = s.gqs := rfl
@[simp] theorem State.setShad_cmps (a : Nat) (w : Word) : (s.setShad a w).cmps = s.cmps := rfl
@[simp] theorem State.setShad_shorts (a : Nat) (w : Word) : (s.setShad a w).shorts = s.shorts := rfl
@[simp] theorem State.setShad_ovRel (a : Nat) (w : Word) : (s.setShad a w).ovRel = s.ovRel := rfl
@[simp] theorem State.setShad_pgs (a : Nat) (w : Word) : (s.setShad a w).pgs = s.pgs := rfl
@[simp] theorem State.setShad_before (a : Nat) (w : Word) : (s.setShad a w).before = s.before := rfl
@[simp] theorem State.setShad_inputs (a : Nat) (w : Word) : (s.setShad a w).inputs = s.inputs := rfl
@[simp] theorem State.setShad_gls (a : Nat) (w : Word) : (s.setShad a w).gls = s.gls := rfl
@[simp] theorem State.setShad_tms (a : Nat) (w : Word) : (s.setShad a w).tms = s.tms := rfl
@[simp] theorem State.setShad_tcs (a : Nat) (w : Word) : (s.setShad a w).tcs = s.tcs := rfl
@[simp] theorem State.setShad_rss (a : Nat) (w : Word) : (s.setShad a w).rss = s.rss := rfl
@[simp] theorem State.setShad_qds (a : Nat) (w : Word) : (s.setShad a w).qds = s.qds := rfl
@[simp] theorem State.setShad_hls (a : Nat) (w : Word) : (s.setShad a w).hls = s.hls := rfl
@[simp] theorem State.setShad_dc (a : Nat) (w : Word) : (s.setShad a w).dc = s.dc := rfl
@[simp] theorem State.setShad_ch (a : Nat) (w : Word) : (s.setShad a w).ch = s.ch := rfl
@[simp] theorem State.setShad_acs (a : Nat) (w : Word) : (s.setShad a w).acs = s.acs := rfl
@[simp] theorem State.setShad_sumpActOff (a : Nat) (w : Word) : (s.setShad a w).sumpActOff = s.sumpActOff := rfl
@[simp] theorem State.setShad_ovSince (a : Nat) (w : Word) : (s.setShad a w).ovSince = s.ovSince := rfl
@[simp] theorem State.setShad_sc (a : Nat) (w : Word) : (s.setShad a w).sc = s.sc := rfl
@[simp] theorem State.setShad_sf (a : Nat) (w : Word) : (s.setShad a w).sf = s.sf := rfl
@[simp] theorem State.setShad_rails (a : Nat) (w : Word) : (s.setShad a w).rails = s.rails := rfl
@[simp] theorem State.setShad_cans (a : Nat) (w : Word) : (s.setShad a w).cans = s.cans := rfl
@[simp] theorem State.setShad_al (a : Nat) (w : Word) : (s.setShad a w).al = s.al := rfl
@[simp] theorem State.setShad_trPost (a : Nat) (w : Word) : (s.setShad a w).trPost = s.trPost := rfl
@[simp] theorem State.setShad_unlockEnd (a : Nat) (w : Word) : (s.setShad a w).unlockEnd = s.unlockEnd := rfl
@[simp] theorem State.setShad_lt (a : Nat) (w : Word) : (s.setShad a w).lt = s.lt := rfl
@[simp] theorem State.setShad_scrubAt (a : Nat) (w : Word) : (s.setShad a w).scrubAt = s.scrubAt := rfl
@[simp] theorem State.setShad_lerrOpen (a : Nat) (w : Word) : (s.setShad a w).lerrOpen = s.lerrOpen := rfl
@[simp] theorem State.setShad_spOut (a : Nat) (w : Word) : (s.setShad a w).spOut = s.spOut := rfl
@[simp] theorem State.setShad_spQueue (a : Nat) (w : Word) : (s.setShad a w).spQueue = s.spQueue := rfl
@[simp] theorem State.setShad_pending (a : Nat) (w : Word) : (s.setShad a w).pending = s.pending := rfl

/-! ### `setFld` -/

@[simp] theorem State.setFld_now (f : Fld) (v : Nat) : (s.setFld f v).now = s.now := rfl
@[simp] theorem State.setFld_freeCtr (f : Fld) (v : Nat) : (s.setFld f v).freeCtr = s.freeCtr := rfl
@[simp] theorem State.setFld_regs (f : Fld) (v : Nat) : (s.setFld f v).regs = regSet s.regs f.addr (Word.put (s.reg f.addr) f.lsb f.width v) := rfl
@[simp] theorem State.setFld_shadow (f : Fld) (v : Nat) : (s.setFld f v).shadow = s.shadow := rfl
@[simp] theorem State.setFld_pllInt (f : Fld) (v : Nat) : (s.setFld f v).pllInt = s.pllInt := rfl
@[simp] theorem State.setFld_mem (f : Fld) (v : Nat) : (s.setFld f v).mem = s.mem := rfl
@[simp] theorem State.setFld_parBad (f : Fld) (v : Nat) : (s.setFld f v).parBad = s.parBad := rfl
@[simp] theorem State.setFld_wbacks (f : Fld) (v : Nat) : (s.setFld f v).wbacks = s.wbacks := rfl
@[simp] theorem State.setFld_wbBy (f : Fld) (v : Nat) : (s.setFld f v).wbBy = s.wbBy := rfl
@[simp] theorem State.setFld_lastWb (f : Fld) (v : Nat) : (s.setFld f v).lastWb = s.lastWb := rfl
@[simp] theorem State.setFld_commits (f : Fld) (v : Nat) : (s.setFld f v).commits = s.commits := rfl
@[simp] theorem State.setFld_raised (f : Fld) (v : Nat) : (s.setFld f v).raised = s.raised := rfl
@[simp] theorem State.setFld_fifo (f : Fld) (v : Nat) : (s.setFld f v).fifo = s.fifo := rfl
@[simp] theorem State.setFld_fifoLoss (f : Fld) (v : Nat) : (s.setFld f v).fifoLoss = s.fifoLoss := rfl
@[simp] theorem State.setFld_logHalf (f : Fld) (v : Nat) : (s.setFld f v).logHalf = s.logHalf := rfl
@[simp] theorem State.setFld_logNext (f : Fld) (v : Nat) : (s.setFld f v).logNext = s.logNext := rfl
@[simp] theorem State.setFld_undecided (f : Fld) (v : Nat) : (s.setFld f v).undecided = s.undecided := rfl
@[simp] theorem State.setFld_hwSets (f : Fld) (v : Nat) : (s.setFld f v).hwSets = s.hwSets := rfl
@[simp] theorem State.setFld_reseeks (f : Fld) (v : Nat) : (s.setFld f v).reseeks = s.reseeks := rfl
@[simp] theorem State.setFld_jumped (f : Fld) (v : Nat) : (s.setFld f v).jumped = s.jumped := rfl
@[simp] theorem State.setFld_turned (f : Fld) (v : Nat) : (s.setFld f v).turned = s.turned := rfl
@[simp] theorem State.setFld_doms (f : Fld) (v : Nat) : (s.setFld f v).doms = s.doms := rfl
@[simp] theorem State.setFld_trks (f : Fld) (v : Nat) : (s.setFld f v).trks = s.trks := rfl
@[simp] theorem State.setFld_fireAt (f : Fld) (v : Nat) : (s.setFld f v).fireAt = s.fireAt := rfl
@[simp] theorem State.setFld_fired (f : Fld) (v : Nat) : (s.setFld f v).fired = s.fired := rfl
@[simp] theorem State.setFld_marks (f : Fld) (v : Nat) : (s.setFld f v).marks = s.marks := rfl
@[simp] theorem State.setFld_adcs (f : Fld) (v : Nat) : (s.setFld f v).adcs = s.adcs := rfl
@[simp] theorem State.setFld_xcRun (f : Fld) (v : Nat) : (s.setFld f v).xcRun = s.xcRun := rfl
@[simp] theorem State.setFld_fits (f : Fld) (v : Nat) : (s.setFld f v).fits = s.fits := rfl
@[simp] theorem State.setFld_lanes (f : Fld) (v : Nat) : (s.setFld f v).lanes = s.lanes := rfl
@[simp] theorem State.setFld_ctxRuns (f : Fld) (v : Nat) : (s.setFld f v).ctxRuns = s.ctxRuns := rfl
@[simp] theorem State.setFld_profs (f : Fld) (v : Nat) : (s.setFld f v).profs = s.profs := rfl
@[simp] theorem State.setFld_gqs (f : Fld) (v : Nat) : (s.setFld f v).gqs = s.gqs := rfl
@[simp] theorem State.setFld_cmps (f : Fld) (v : Nat) : (s.setFld f v).cmps = s.cmps := rfl
@[simp] theorem State.setFld_shorts (f : Fld) (v : Nat) : (s.setFld f v).shorts = s.shorts := rfl
@[simp] theorem State.setFld_ovRel (f : Fld) (v : Nat) : (s.setFld f v).ovRel = s.ovRel := rfl
@[simp] theorem State.setFld_pgs (f : Fld) (v : Nat) : (s.setFld f v).pgs = s.pgs := rfl
@[simp] theorem State.setFld_before (f : Fld) (v : Nat) : (s.setFld f v).before = s.before := rfl
@[simp] theorem State.setFld_inputs (f : Fld) (v : Nat) : (s.setFld f v).inputs = s.inputs := rfl
@[simp] theorem State.setFld_gls (f : Fld) (v : Nat) : (s.setFld f v).gls = s.gls := rfl
@[simp] theorem State.setFld_tms (f : Fld) (v : Nat) : (s.setFld f v).tms = s.tms := rfl
@[simp] theorem State.setFld_tcs (f : Fld) (v : Nat) : (s.setFld f v).tcs = s.tcs := rfl
@[simp] theorem State.setFld_rss (f : Fld) (v : Nat) : (s.setFld f v).rss = s.rss := rfl
@[simp] theorem State.setFld_qds (f : Fld) (v : Nat) : (s.setFld f v).qds = s.qds := rfl
@[simp] theorem State.setFld_hls (f : Fld) (v : Nat) : (s.setFld f v).hls = s.hls := rfl
@[simp] theorem State.setFld_dc (f : Fld) (v : Nat) : (s.setFld f v).dc = s.dc := rfl
@[simp] theorem State.setFld_ch (f : Fld) (v : Nat) : (s.setFld f v).ch = s.ch := rfl
@[simp] theorem State.setFld_acs (f : Fld) (v : Nat) : (s.setFld f v).acs = s.acs := rfl
@[simp] theorem State.setFld_sumpActOff (f : Fld) (v : Nat) : (s.setFld f v).sumpActOff = s.sumpActOff := rfl
@[simp] theorem State.setFld_ovSince (f : Fld) (v : Nat) : (s.setFld f v).ovSince = s.ovSince := rfl
@[simp] theorem State.setFld_sc (f : Fld) (v : Nat) : (s.setFld f v).sc = s.sc := rfl
@[simp] theorem State.setFld_sf (f : Fld) (v : Nat) : (s.setFld f v).sf = s.sf := rfl
@[simp] theorem State.setFld_rails (f : Fld) (v : Nat) : (s.setFld f v).rails = s.rails := rfl
@[simp] theorem State.setFld_cans (f : Fld) (v : Nat) : (s.setFld f v).cans = s.cans := rfl
@[simp] theorem State.setFld_al (f : Fld) (v : Nat) : (s.setFld f v).al = s.al := rfl
@[simp] theorem State.setFld_trPost (f : Fld) (v : Nat) : (s.setFld f v).trPost = s.trPost := rfl
@[simp] theorem State.setFld_unlockEnd (f : Fld) (v : Nat) : (s.setFld f v).unlockEnd = s.unlockEnd := rfl
@[simp] theorem State.setFld_lt (f : Fld) (v : Nat) : (s.setFld f v).lt = s.lt := rfl
@[simp] theorem State.setFld_scrubAt (f : Fld) (v : Nat) : (s.setFld f v).scrubAt = s.scrubAt := rfl
@[simp] theorem State.setFld_lerrOpen (f : Fld) (v : Nat) : (s.setFld f v).lerrOpen = s.lerrOpen := rfl
@[simp] theorem State.setFld_spOut (f : Fld) (v : Nat) : (s.setFld f v).spOut = s.spOut := rfl
@[simp] theorem State.setFld_spQueue (f : Fld) (v : Nat) : (s.setFld f v).spQueue = s.spQueue := rfl
@[simp] theorem State.setFld_pending (f : Fld) (v : Nat) : (s.setFld f v).pending = s.pending := rfl

/-! ### `raiseL` -/

@[simp] theorem State.raiseL_now (e : Ev.Src) (sev lvl conv inst : Nat) : (s.raiseL e sev lvl conv inst).now = s.now := rfl
@[simp] theorem State.raiseL_freeCtr (e : Ev.Src) (sev lvl conv inst : Nat) : (s.raiseL e sev lvl conv inst).freeCtr = s.freeCtr := rfl
@[simp] theorem State.raiseL_regs (e : Ev.Src) (sev lvl conv inst : Nat) : (s.raiseL e sev lvl conv inst).regs = s.regs := rfl
@[simp] theorem State.raiseL_shadow (e : Ev.Src) (sev lvl conv inst : Nat) : (s.raiseL e sev lvl conv inst).shadow = s.shadow := rfl
@[simp] theorem State.raiseL_pllInt (e : Ev.Src) (sev lvl conv inst : Nat) : (s.raiseL e sev lvl conv inst).pllInt = s.pllInt := rfl
@[simp] theorem State.raiseL_mem (e : Ev.Src) (sev lvl conv inst : Nat) : (s.raiseL e sev lvl conv inst).mem = s.mem := rfl
@[simp] theorem State.raiseL_parBad (e : Ev.Src) (sev lvl conv inst : Nat) : (s.raiseL e sev lvl conv inst).parBad = s.parBad := rfl
@[simp] theorem State.raiseL_wbacks (e : Ev.Src) (sev lvl conv inst : Nat) : (s.raiseL e sev lvl conv inst).wbacks = s.wbacks := rfl
@[simp] theorem State.raiseL_wbBy (e : Ev.Src) (sev lvl conv inst : Nat) : (s.raiseL e sev lvl conv inst).wbBy = s.wbBy := rfl
@[simp] theorem State.raiseL_lastWb (e : Ev.Src) (sev lvl conv inst : Nat) : (s.raiseL e sev lvl conv inst).lastWb = s.lastWb := rfl
@[simp] theorem State.raiseL_commits (e : Ev.Src) (sev lvl conv inst : Nat) : (s.raiseL e sev lvl conv inst).commits = s.commits := rfl
@[simp] theorem State.raiseL_raised (e : Ev.Src) (sev lvl conv inst : Nat) : (s.raiseL e sev lvl conv inst).raised = s.raised ++ [⟨e.num, sev, lvl, conv, inst⟩] := rfl
@[simp] theorem State.raiseL_fifo (e : Ev.Src) (sev lvl conv inst : Nat) : (s.raiseL e sev lvl conv inst).fifo = s.fifo := rfl
@[simp] theorem State.raiseL_fifoLoss (e : Ev.Src) (sev lvl conv inst : Nat) : (s.raiseL e sev lvl conv inst).fifoLoss = s.fifoLoss := rfl
@[simp] theorem State.raiseL_logHalf (e : Ev.Src) (sev lvl conv inst : Nat) : (s.raiseL e sev lvl conv inst).logHalf = s.logHalf := rfl
@[simp] theorem State.raiseL_logNext (e : Ev.Src) (sev lvl conv inst : Nat) : (s.raiseL e sev lvl conv inst).logNext = s.logNext := rfl
@[simp] theorem State.raiseL_undecided (e : Ev.Src) (sev lvl conv inst : Nat) : (s.raiseL e sev lvl conv inst).undecided = s.undecided := rfl
@[simp] theorem State.raiseL_hwSets (e : Ev.Src) (sev lvl conv inst : Nat) : (s.raiseL e sev lvl conv inst).hwSets = s.hwSets := rfl
@[simp] theorem State.raiseL_reseeks (e : Ev.Src) (sev lvl conv inst : Nat) : (s.raiseL e sev lvl conv inst).reseeks = s.reseeks := rfl
@[simp] theorem State.raiseL_jumped (e : Ev.Src) (sev lvl conv inst : Nat) : (s.raiseL e sev lvl conv inst).jumped = s.jumped := rfl
@[simp] theorem State.raiseL_turned (e : Ev.Src) (sev lvl conv inst : Nat) : (s.raiseL e sev lvl conv inst).turned = s.turned := rfl
@[simp] theorem State.raiseL_doms (e : Ev.Src) (sev lvl conv inst : Nat) : (s.raiseL e sev lvl conv inst).doms = s.doms := rfl
@[simp] theorem State.raiseL_trks (e : Ev.Src) (sev lvl conv inst : Nat) : (s.raiseL e sev lvl conv inst).trks = s.trks := rfl
@[simp] theorem State.raiseL_fireAt (e : Ev.Src) (sev lvl conv inst : Nat) : (s.raiseL e sev lvl conv inst).fireAt = s.fireAt := rfl
@[simp] theorem State.raiseL_fired (e : Ev.Src) (sev lvl conv inst : Nat) : (s.raiseL e sev lvl conv inst).fired = s.fired := rfl
@[simp] theorem State.raiseL_marks (e : Ev.Src) (sev lvl conv inst : Nat) : (s.raiseL e sev lvl conv inst).marks = s.marks := rfl
@[simp] theorem State.raiseL_adcs (e : Ev.Src) (sev lvl conv inst : Nat) : (s.raiseL e sev lvl conv inst).adcs = s.adcs := rfl
@[simp] theorem State.raiseL_xcRun (e : Ev.Src) (sev lvl conv inst : Nat) : (s.raiseL e sev lvl conv inst).xcRun = s.xcRun := rfl
@[simp] theorem State.raiseL_fits (e : Ev.Src) (sev lvl conv inst : Nat) : (s.raiseL e sev lvl conv inst).fits = s.fits := rfl
@[simp] theorem State.raiseL_lanes (e : Ev.Src) (sev lvl conv inst : Nat) : (s.raiseL e sev lvl conv inst).lanes = s.lanes := rfl
@[simp] theorem State.raiseL_ctxRuns (e : Ev.Src) (sev lvl conv inst : Nat) : (s.raiseL e sev lvl conv inst).ctxRuns = s.ctxRuns := rfl
@[simp] theorem State.raiseL_profs (e : Ev.Src) (sev lvl conv inst : Nat) : (s.raiseL e sev lvl conv inst).profs = s.profs := rfl
@[simp] theorem State.raiseL_gqs (e : Ev.Src) (sev lvl conv inst : Nat) : (s.raiseL e sev lvl conv inst).gqs = s.gqs := rfl
@[simp] theorem State.raiseL_cmps (e : Ev.Src) (sev lvl conv inst : Nat) : (s.raiseL e sev lvl conv inst).cmps = s.cmps := rfl
@[simp] theorem State.raiseL_shorts (e : Ev.Src) (sev lvl conv inst : Nat) : (s.raiseL e sev lvl conv inst).shorts = s.shorts := rfl
@[simp] theorem State.raiseL_ovRel (e : Ev.Src) (sev lvl conv inst : Nat) : (s.raiseL e sev lvl conv inst).ovRel = s.ovRel := rfl
@[simp] theorem State.raiseL_pgs (e : Ev.Src) (sev lvl conv inst : Nat) : (s.raiseL e sev lvl conv inst).pgs = s.pgs := rfl
@[simp] theorem State.raiseL_before (e : Ev.Src) (sev lvl conv inst : Nat) : (s.raiseL e sev lvl conv inst).before = s.before := rfl
@[simp] theorem State.raiseL_inputs (e : Ev.Src) (sev lvl conv inst : Nat) : (s.raiseL e sev lvl conv inst).inputs = s.inputs := rfl
@[simp] theorem State.raiseL_gls (e : Ev.Src) (sev lvl conv inst : Nat) : (s.raiseL e sev lvl conv inst).gls = s.gls := rfl
@[simp] theorem State.raiseL_tms (e : Ev.Src) (sev lvl conv inst : Nat) : (s.raiseL e sev lvl conv inst).tms = s.tms := rfl
@[simp] theorem State.raiseL_tcs (e : Ev.Src) (sev lvl conv inst : Nat) : (s.raiseL e sev lvl conv inst).tcs = s.tcs := rfl
@[simp] theorem State.raiseL_rss (e : Ev.Src) (sev lvl conv inst : Nat) : (s.raiseL e sev lvl conv inst).rss = s.rss := rfl
@[simp] theorem State.raiseL_qds (e : Ev.Src) (sev lvl conv inst : Nat) : (s.raiseL e sev lvl conv inst).qds = s.qds := rfl
@[simp] theorem State.raiseL_hls (e : Ev.Src) (sev lvl conv inst : Nat) : (s.raiseL e sev lvl conv inst).hls = s.hls := rfl
@[simp] theorem State.raiseL_dc (e : Ev.Src) (sev lvl conv inst : Nat) : (s.raiseL e sev lvl conv inst).dc = s.dc := rfl
@[simp] theorem State.raiseL_ch (e : Ev.Src) (sev lvl conv inst : Nat) : (s.raiseL e sev lvl conv inst).ch = s.ch := rfl
@[simp] theorem State.raiseL_acs (e : Ev.Src) (sev lvl conv inst : Nat) : (s.raiseL e sev lvl conv inst).acs = s.acs := rfl
@[simp] theorem State.raiseL_sumpActOff (e : Ev.Src) (sev lvl conv inst : Nat) : (s.raiseL e sev lvl conv inst).sumpActOff = s.sumpActOff := rfl
@[simp] theorem State.raiseL_ovSince (e : Ev.Src) (sev lvl conv inst : Nat) : (s.raiseL e sev lvl conv inst).ovSince = s.ovSince := rfl
@[simp] theorem State.raiseL_sc (e : Ev.Src) (sev lvl conv inst : Nat) : (s.raiseL e sev lvl conv inst).sc = s.sc := rfl
@[simp] theorem State.raiseL_sf (e : Ev.Src) (sev lvl conv inst : Nat) : (s.raiseL e sev lvl conv inst).sf = s.sf := rfl
@[simp] theorem State.raiseL_rails (e : Ev.Src) (sev lvl conv inst : Nat) : (s.raiseL e sev lvl conv inst).rails = s.rails := rfl
@[simp] theorem State.raiseL_cans (e : Ev.Src) (sev lvl conv inst : Nat) : (s.raiseL e sev lvl conv inst).cans = s.cans := rfl
@[simp] theorem State.raiseL_al (e : Ev.Src) (sev lvl conv inst : Nat) : (s.raiseL e sev lvl conv inst).al = s.al := rfl
@[simp] theorem State.raiseL_trPost (e : Ev.Src) (sev lvl conv inst : Nat) : (s.raiseL e sev lvl conv inst).trPost = s.trPost := rfl
@[simp] theorem State.raiseL_unlockEnd (e : Ev.Src) (sev lvl conv inst : Nat) : (s.raiseL e sev lvl conv inst).unlockEnd = s.unlockEnd := rfl
@[simp] theorem State.raiseL_lt (e : Ev.Src) (sev lvl conv inst : Nat) : (s.raiseL e sev lvl conv inst).lt = s.lt := rfl
@[simp] theorem State.raiseL_scrubAt (e : Ev.Src) (sev lvl conv inst : Nat) : (s.raiseL e sev lvl conv inst).scrubAt = s.scrubAt := rfl
@[simp] theorem State.raiseL_lerrOpen (e : Ev.Src) (sev lvl conv inst : Nat) : (s.raiseL e sev lvl conv inst).lerrOpen = s.lerrOpen := rfl
@[simp] theorem State.raiseL_spOut (e : Ev.Src) (sev lvl conv inst : Nat) : (s.raiseL e sev lvl conv inst).spOut = s.spOut := rfl
@[simp] theorem State.raiseL_spQueue (e : Ev.Src) (sev lvl conv inst : Nat) : (s.raiseL e sev lvl conv inst).spQueue = s.spQueue := rfl
@[simp] theorem State.raiseL_pending (e : Ev.Src) (sev lvl conv inst : Nat) : (s.raiseL e sev lvl conv inst).pending = s.pending := rfl

/-! ### `noteHw` -/

@[simp] theorem State.noteHw_now (f : Fld) (u : Nat → Nat) : (s.noteHw f u).now = s.now := rfl
@[simp] theorem State.noteHw_freeCtr (f : Fld) (u : Nat → Nat) : (s.noteHw f u).freeCtr = s.freeCtr := rfl
@[simp] theorem State.noteHw_regs (f : Fld) (u : Nat → Nat) : (s.noteHw f u).regs = s.regs := rfl
@[simp] theorem State.noteHw_shadow (f : Fld) (u : Nat → Nat) : (s.noteHw f u).shadow = s.shadow := rfl
@[simp] theorem State.noteHw_pllInt (f : Fld) (u : Nat → Nat) : (s.noteHw f u).pllInt = s.pllInt := rfl
@[simp] theorem State.noteHw_mem (f : Fld) (u : Nat → Nat) : (s.noteHw f u).mem = s.mem := rfl
@[simp] theorem State.noteHw_parBad (f : Fld) (u : Nat → Nat) : (s.noteHw f u).parBad = s.parBad := rfl
@[simp] theorem State.noteHw_wbacks (f : Fld) (u : Nat → Nat) : (s.noteHw f u).wbacks = s.wbacks := rfl
@[simp] theorem State.noteHw_wbBy (f : Fld) (u : Nat → Nat) : (s.noteHw f u).wbBy = s.wbBy := rfl
@[simp] theorem State.noteHw_lastWb (f : Fld) (u : Nat → Nat) : (s.noteHw f u).lastWb = s.lastWb := rfl
@[simp] theorem State.noteHw_commits (f : Fld) (u : Nat → Nat) : (s.noteHw f u).commits = s.commits := rfl
@[simp] theorem State.noteHw_raised (f : Fld) (u : Nat → Nat) : (s.noteHw f u).raised = s.raised := rfl
@[simp] theorem State.noteHw_fifo (f : Fld) (u : Nat → Nat) : (s.noteHw f u).fifo = s.fifo := rfl
@[simp] theorem State.noteHw_fifoLoss (f : Fld) (u : Nat → Nat) : (s.noteHw f u).fifoLoss = s.fifoLoss := rfl
@[simp] theorem State.noteHw_logHalf (f : Fld) (u : Nat → Nat) : (s.noteHw f u).logHalf = s.logHalf := rfl
@[simp] theorem State.noteHw_logNext (f : Fld) (u : Nat → Nat) : (s.noteHw f u).logNext = s.logNext := rfl
@[simp] theorem State.noteHw_undecided (f : Fld) (u : Nat → Nat) : (s.noteHw f u).undecided = s.undecided := rfl
@[simp] theorem State.noteHw_hwSets (f : Fld) (u : Nat → Nat) : (s.noteHw f u).hwSets = if s.hwSets.any (·.fld == f) then
    s.hwSets.map fun h => if h.fld == f then { h with val := u h.val } else h else ⟨f, s.fld f, u 0⟩ :: s.hwSets := rfl
@[simp] theorem State.noteHw_reseeks (f : Fld) (u : Nat → Nat) : (s.noteHw f u).reseeks = s.reseeks := rfl
@[simp] theorem State.noteHw_jumped (f : Fld) (u : Nat → Nat) : (s.noteHw f u).jumped = s.jumped := rfl
@[simp] theorem State.noteHw_turned (f : Fld) (u : Nat → Nat) : (s.noteHw f u).turned = s.turned := rfl
@[simp] theorem State.noteHw_doms (f : Fld) (u : Nat → Nat) : (s.noteHw f u).doms = s.doms := rfl
@[simp] theorem State.noteHw_trks (f : Fld) (u : Nat → Nat) : (s.noteHw f u).trks = s.trks := rfl
@[simp] theorem State.noteHw_fireAt (f : Fld) (u : Nat → Nat) : (s.noteHw f u).fireAt = s.fireAt := rfl
@[simp] theorem State.noteHw_fired (f : Fld) (u : Nat → Nat) : (s.noteHw f u).fired = s.fired := rfl
@[simp] theorem State.noteHw_marks (f : Fld) (u : Nat → Nat) : (s.noteHw f u).marks = s.marks := rfl
@[simp] theorem State.noteHw_adcs (f : Fld) (u : Nat → Nat) : (s.noteHw f u).adcs = s.adcs := rfl
@[simp] theorem State.noteHw_xcRun (f : Fld) (u : Nat → Nat) : (s.noteHw f u).xcRun = s.xcRun := rfl
@[simp] theorem State.noteHw_fits (f : Fld) (u : Nat → Nat) : (s.noteHw f u).fits = s.fits := rfl
@[simp] theorem State.noteHw_lanes (f : Fld) (u : Nat → Nat) : (s.noteHw f u).lanes = s.lanes := rfl
@[simp] theorem State.noteHw_ctxRuns (f : Fld) (u : Nat → Nat) : (s.noteHw f u).ctxRuns = s.ctxRuns := rfl
@[simp] theorem State.noteHw_profs (f : Fld) (u : Nat → Nat) : (s.noteHw f u).profs = s.profs := rfl
@[simp] theorem State.noteHw_gqs (f : Fld) (u : Nat → Nat) : (s.noteHw f u).gqs = s.gqs := rfl
@[simp] theorem State.noteHw_cmps (f : Fld) (u : Nat → Nat) : (s.noteHw f u).cmps = s.cmps := rfl
@[simp] theorem State.noteHw_shorts (f : Fld) (u : Nat → Nat) : (s.noteHw f u).shorts = s.shorts := rfl
@[simp] theorem State.noteHw_ovRel (f : Fld) (u : Nat → Nat) : (s.noteHw f u).ovRel = s.ovRel := rfl
@[simp] theorem State.noteHw_pgs (f : Fld) (u : Nat → Nat) : (s.noteHw f u).pgs = s.pgs := rfl
@[simp] theorem State.noteHw_before (f : Fld) (u : Nat → Nat) : (s.noteHw f u).before = s.before := rfl
@[simp] theorem State.noteHw_inputs (f : Fld) (u : Nat → Nat) : (s.noteHw f u).inputs = s.inputs := rfl
@[simp] theorem State.noteHw_gls (f : Fld) (u : Nat → Nat) : (s.noteHw f u).gls = s.gls := rfl
@[simp] theorem State.noteHw_tms (f : Fld) (u : Nat → Nat) : (s.noteHw f u).tms = s.tms := rfl
@[simp] theorem State.noteHw_tcs (f : Fld) (u : Nat → Nat) : (s.noteHw f u).tcs = s.tcs := rfl
@[simp] theorem State.noteHw_rss (f : Fld) (u : Nat → Nat) : (s.noteHw f u).rss = s.rss := rfl
@[simp] theorem State.noteHw_qds (f : Fld) (u : Nat → Nat) : (s.noteHw f u).qds = s.qds := rfl
@[simp] theorem State.noteHw_hls (f : Fld) (u : Nat → Nat) : (s.noteHw f u).hls = s.hls := rfl
@[simp] theorem State.noteHw_dc (f : Fld) (u : Nat → Nat) : (s.noteHw f u).dc = s.dc := rfl
@[simp] theorem State.noteHw_ch (f : Fld) (u : Nat → Nat) : (s.noteHw f u).ch = s.ch := rfl
@[simp] theorem State.noteHw_acs (f : Fld) (u : Nat → Nat) : (s.noteHw f u).acs = s.acs := rfl
@[simp] theorem State.noteHw_sumpActOff (f : Fld) (u : Nat → Nat) : (s.noteHw f u).sumpActOff = s.sumpActOff := rfl
@[simp] theorem State.noteHw_ovSince (f : Fld) (u : Nat → Nat) : (s.noteHw f u).ovSince = s.ovSince := rfl
@[simp] theorem State.noteHw_sc (f : Fld) (u : Nat → Nat) : (s.noteHw f u).sc = s.sc := rfl
@[simp] theorem State.noteHw_sf (f : Fld) (u : Nat → Nat) : (s.noteHw f u).sf = s.sf := rfl
@[simp] theorem State.noteHw_rails (f : Fld) (u : Nat → Nat) : (s.noteHw f u).rails = s.rails := rfl
@[simp] theorem State.noteHw_cans (f : Fld) (u : Nat → Nat) : (s.noteHw f u).cans = s.cans := rfl
@[simp] theorem State.noteHw_al (f : Fld) (u : Nat → Nat) : (s.noteHw f u).al = s.al := rfl
@[simp] theorem State.noteHw_trPost (f : Fld) (u : Nat → Nat) : (s.noteHw f u).trPost = s.trPost := rfl
@[simp] theorem State.noteHw_unlockEnd (f : Fld) (u : Nat → Nat) : (s.noteHw f u).unlockEnd = s.unlockEnd := rfl
@[simp] theorem State.noteHw_lt (f : Fld) (u : Nat → Nat) : (s.noteHw f u).lt = s.lt := rfl
@[simp] theorem State.noteHw_scrubAt (f : Fld) (u : Nat → Nat) : (s.noteHw f u).scrubAt = s.scrubAt := rfl
@[simp] theorem State.noteHw_lerrOpen (f : Fld) (u : Nat → Nat) : (s.noteHw f u).lerrOpen = s.lerrOpen := rfl
@[simp] theorem State.noteHw_spOut (f : Fld) (u : Nat → Nat) : (s.noteHw f u).spOut = s.spOut := rfl
@[simp] theorem State.noteHw_spQueue (f : Fld) (u : Nat → Nat) : (s.noteHw f u).spQueue = s.spQueue := rfl
@[simp] theorem State.noteHw_pending (f : Fld) (u : Nat → Nat) : (s.noteHw f u).pending = s.pending := rfl

/-! ### `modDom` -/

@[simp] theorem State.modDom_now (d : Nat) (f : Dom → Dom) : (s.modDom d f).now = s.now := rfl
@[simp] theorem State.modDom_freeCtr (d : Nat) (f : Dom → Dom) : (s.modDom d f).freeCtr = s.freeCtr := rfl
@[simp] theorem State.modDom_regs (d : Nat) (f : Dom → Dom) : (s.modDom d f).regs = s.regs := rfl
@[simp] theorem State.modDom_shadow (d : Nat) (f : Dom → Dom) : (s.modDom d f).shadow = s.shadow := rfl
@[simp] theorem State.modDom_pllInt (d : Nat) (f : Dom → Dom) : (s.modDom d f).pllInt = s.pllInt := rfl
@[simp] theorem State.modDom_mem (d : Nat) (f : Dom → Dom) : (s.modDom d f).mem = s.mem := rfl
@[simp] theorem State.modDom_parBad (d : Nat) (f : Dom → Dom) : (s.modDom d f).parBad = s.parBad := rfl
@[simp] theorem State.modDom_wbacks (d : Nat) (f : Dom → Dom) : (s.modDom d f).wbacks = s.wbacks := rfl
@[simp] theorem State.modDom_wbBy (d : Nat) (f : Dom → Dom) : (s.modDom d f).wbBy = s.wbBy := rfl
@[simp] theorem State.modDom_lastWb (d : Nat) (f : Dom → Dom) : (s.modDom d f).lastWb = s.lastWb := rfl
@[simp] theorem State.modDom_commits (d : Nat) (f : Dom → Dom) : (s.modDom d f).commits = s.commits := rfl
@[simp] theorem State.modDom_raised (d : Nat) (f : Dom → Dom) : (s.modDom d f).raised = s.raised := rfl
@[simp] theorem State.modDom_fifo (d : Nat) (f : Dom → Dom) : (s.modDom d f).fifo = s.fifo := rfl
@[simp] theorem State.modDom_fifoLoss (d : Nat) (f : Dom → Dom) : (s.modDom d f).fifoLoss = s.fifoLoss := rfl
@[simp] theorem State.modDom_logHalf (d : Nat) (f : Dom → Dom) : (s.modDom d f).logHalf = s.logHalf := rfl
@[simp] theorem State.modDom_logNext (d : Nat) (f : Dom → Dom) : (s.modDom d f).logNext = s.logNext := rfl
@[simp] theorem State.modDom_undecided (d : Nat) (f : Dom → Dom) : (s.modDom d f).undecided = s.undecided := rfl
@[simp] theorem State.modDom_hwSets (d : Nat) (f : Dom → Dom) : (s.modDom d f).hwSets = s.hwSets := rfl
@[simp] theorem State.modDom_reseeks (d : Nat) (f : Dom → Dom) : (s.modDom d f).reseeks = s.reseeks := rfl
@[simp] theorem State.modDom_jumped (d : Nat) (f : Dom → Dom) : (s.modDom d f).jumped = s.jumped := rfl
@[simp] theorem State.modDom_turned (d : Nat) (f : Dom → Dom) : (s.modDom d f).turned = s.turned := rfl
@[simp] theorem State.modDom_doms (d : Nat) (f : Dom → Dom) : (s.modDom d f).doms = vmod s.doms d f := rfl
@[simp] theorem State.modDom_trks (d : Nat) (f : Dom → Dom) : (s.modDom d f).trks = s.trks := rfl
@[simp] theorem State.modDom_fireAt (d : Nat) (f : Dom → Dom) : (s.modDom d f).fireAt = s.fireAt := rfl
@[simp] theorem State.modDom_fired (d : Nat) (f : Dom → Dom) : (s.modDom d f).fired = s.fired := rfl
@[simp] theorem State.modDom_marks (d : Nat) (f : Dom → Dom) : (s.modDom d f).marks = s.marks := rfl
@[simp] theorem State.modDom_adcs (d : Nat) (f : Dom → Dom) : (s.modDom d f).adcs = s.adcs := rfl
@[simp] theorem State.modDom_xcRun (d : Nat) (f : Dom → Dom) : (s.modDom d f).xcRun = s.xcRun := rfl
@[simp] theorem State.modDom_fits (d : Nat) (f : Dom → Dom) : (s.modDom d f).fits = s.fits := rfl
@[simp] theorem State.modDom_lanes (d : Nat) (f : Dom → Dom) : (s.modDom d f).lanes = s.lanes := rfl
@[simp] theorem State.modDom_ctxRuns (d : Nat) (f : Dom → Dom) : (s.modDom d f).ctxRuns = s.ctxRuns := rfl
@[simp] theorem State.modDom_profs (d : Nat) (f : Dom → Dom) : (s.modDom d f).profs = s.profs := rfl
@[simp] theorem State.modDom_gqs (d : Nat) (f : Dom → Dom) : (s.modDom d f).gqs = s.gqs := rfl
@[simp] theorem State.modDom_cmps (d : Nat) (f : Dom → Dom) : (s.modDom d f).cmps = s.cmps := rfl
@[simp] theorem State.modDom_shorts (d : Nat) (f : Dom → Dom) : (s.modDom d f).shorts = s.shorts := rfl
@[simp] theorem State.modDom_ovRel (d : Nat) (f : Dom → Dom) : (s.modDom d f).ovRel = s.ovRel := rfl
@[simp] theorem State.modDom_pgs (d : Nat) (f : Dom → Dom) : (s.modDom d f).pgs = s.pgs := rfl
@[simp] theorem State.modDom_before (d : Nat) (f : Dom → Dom) : (s.modDom d f).before = s.before := rfl
@[simp] theorem State.modDom_inputs (d : Nat) (f : Dom → Dom) : (s.modDom d f).inputs = s.inputs := rfl
@[simp] theorem State.modDom_gls (d : Nat) (f : Dom → Dom) : (s.modDom d f).gls = s.gls := rfl
@[simp] theorem State.modDom_tms (d : Nat) (f : Dom → Dom) : (s.modDom d f).tms = s.tms := rfl
@[simp] theorem State.modDom_tcs (d : Nat) (f : Dom → Dom) : (s.modDom d f).tcs = s.tcs := rfl
@[simp] theorem State.modDom_rss (d : Nat) (f : Dom → Dom) : (s.modDom d f).rss = s.rss := rfl
@[simp] theorem State.modDom_qds (d : Nat) (f : Dom → Dom) : (s.modDom d f).qds = s.qds := rfl
@[simp] theorem State.modDom_hls (d : Nat) (f : Dom → Dom) : (s.modDom d f).hls = s.hls := rfl
@[simp] theorem State.modDom_dc (d : Nat) (f : Dom → Dom) : (s.modDom d f).dc = s.dc := rfl
@[simp] theorem State.modDom_ch (d : Nat) (f : Dom → Dom) : (s.modDom d f).ch = s.ch := rfl
@[simp] theorem State.modDom_acs (d : Nat) (f : Dom → Dom) : (s.modDom d f).acs = s.acs := rfl
@[simp] theorem State.modDom_sumpActOff (d : Nat) (f : Dom → Dom) : (s.modDom d f).sumpActOff = s.sumpActOff := rfl
@[simp] theorem State.modDom_ovSince (d : Nat) (f : Dom → Dom) : (s.modDom d f).ovSince = s.ovSince := rfl
@[simp] theorem State.modDom_sc (d : Nat) (f : Dom → Dom) : (s.modDom d f).sc = s.sc := rfl
@[simp] theorem State.modDom_sf (d : Nat) (f : Dom → Dom) : (s.modDom d f).sf = s.sf := rfl
@[simp] theorem State.modDom_rails (d : Nat) (f : Dom → Dom) : (s.modDom d f).rails = s.rails := rfl
@[simp] theorem State.modDom_cans (d : Nat) (f : Dom → Dom) : (s.modDom d f).cans = s.cans := rfl
@[simp] theorem State.modDom_al (d : Nat) (f : Dom → Dom) : (s.modDom d f).al = s.al := rfl
@[simp] theorem State.modDom_trPost (d : Nat) (f : Dom → Dom) : (s.modDom d f).trPost = s.trPost := rfl
@[simp] theorem State.modDom_unlockEnd (d : Nat) (f : Dom → Dom) : (s.modDom d f).unlockEnd = s.unlockEnd := rfl
@[simp] theorem State.modDom_lt (d : Nat) (f : Dom → Dom) : (s.modDom d f).lt = s.lt := rfl
@[simp] theorem State.modDom_scrubAt (d : Nat) (f : Dom → Dom) : (s.modDom d f).scrubAt = s.scrubAt := rfl
@[simp] theorem State.modDom_lerrOpen (d : Nat) (f : Dom → Dom) : (s.modDom d f).lerrOpen = s.lerrOpen := rfl
@[simp] theorem State.modDom_spOut (d : Nat) (f : Dom → Dom) : (s.modDom d f).spOut = s.spOut := rfl
@[simp] theorem State.modDom_spQueue (d : Nat) (f : Dom → Dom) : (s.modDom d f).spQueue = s.spQueue := rfl
@[simp] theorem State.modDom_pending (d : Nat) (f : Dom → Dom) : (s.modDom d f).pending = s.pending := rfl

/-! ### `modTrk` -/

@[simp] theorem State.modTrk_now (t : Nat) (f : Trk → Trk) : (s.modTrk t f).now = s.now := rfl
@[simp] theorem State.modTrk_freeCtr (t : Nat) (f : Trk → Trk) : (s.modTrk t f).freeCtr = s.freeCtr := rfl
@[simp] theorem State.modTrk_regs (t : Nat) (f : Trk → Trk) : (s.modTrk t f).regs = s.regs := rfl
@[simp] theorem State.modTrk_shadow (t : Nat) (f : Trk → Trk) : (s.modTrk t f).shadow = s.shadow := rfl
@[simp] theorem State.modTrk_pllInt (t : Nat) (f : Trk → Trk) : (s.modTrk t f).pllInt = s.pllInt := rfl
@[simp] theorem State.modTrk_mem (t : Nat) (f : Trk → Trk) : (s.modTrk t f).mem = s.mem := rfl
@[simp] theorem State.modTrk_parBad (t : Nat) (f : Trk → Trk) : (s.modTrk t f).parBad = s.parBad := rfl
@[simp] theorem State.modTrk_wbacks (t : Nat) (f : Trk → Trk) : (s.modTrk t f).wbacks = s.wbacks := rfl
@[simp] theorem State.modTrk_wbBy (t : Nat) (f : Trk → Trk) : (s.modTrk t f).wbBy = s.wbBy := rfl
@[simp] theorem State.modTrk_lastWb (t : Nat) (f : Trk → Trk) : (s.modTrk t f).lastWb = s.lastWb := rfl
@[simp] theorem State.modTrk_commits (t : Nat) (f : Trk → Trk) : (s.modTrk t f).commits = s.commits := rfl
@[simp] theorem State.modTrk_raised (t : Nat) (f : Trk → Trk) : (s.modTrk t f).raised = s.raised := rfl
@[simp] theorem State.modTrk_fifo (t : Nat) (f : Trk → Trk) : (s.modTrk t f).fifo = s.fifo := rfl
@[simp] theorem State.modTrk_fifoLoss (t : Nat) (f : Trk → Trk) : (s.modTrk t f).fifoLoss = s.fifoLoss := rfl
@[simp] theorem State.modTrk_logHalf (t : Nat) (f : Trk → Trk) : (s.modTrk t f).logHalf = s.logHalf := rfl
@[simp] theorem State.modTrk_logNext (t : Nat) (f : Trk → Trk) : (s.modTrk t f).logNext = s.logNext := rfl
@[simp] theorem State.modTrk_undecided (t : Nat) (f : Trk → Trk) : (s.modTrk t f).undecided = s.undecided := rfl
@[simp] theorem State.modTrk_hwSets (t : Nat) (f : Trk → Trk) : (s.modTrk t f).hwSets = s.hwSets := rfl
@[simp] theorem State.modTrk_reseeks (t : Nat) (f : Trk → Trk) : (s.modTrk t f).reseeks = s.reseeks := rfl
@[simp] theorem State.modTrk_jumped (t : Nat) (f : Trk → Trk) : (s.modTrk t f).jumped = s.jumped := rfl
@[simp] theorem State.modTrk_turned (t : Nat) (f : Trk → Trk) : (s.modTrk t f).turned = s.turned := rfl
@[simp] theorem State.modTrk_doms (t : Nat) (f : Trk → Trk) : (s.modTrk t f).doms = s.doms := rfl
@[simp] theorem State.modTrk_trks (t : Nat) (f : Trk → Trk) : (s.modTrk t f).trks = vmod s.trks t f := rfl
@[simp] theorem State.modTrk_fireAt (t : Nat) (f : Trk → Trk) : (s.modTrk t f).fireAt = s.fireAt := rfl
@[simp] theorem State.modTrk_fired (t : Nat) (f : Trk → Trk) : (s.modTrk t f).fired = s.fired := rfl
@[simp] theorem State.modTrk_marks (t : Nat) (f : Trk → Trk) : (s.modTrk t f).marks = s.marks := rfl
@[simp] theorem State.modTrk_adcs (t : Nat) (f : Trk → Trk) : (s.modTrk t f).adcs = s.adcs := rfl
@[simp] theorem State.modTrk_xcRun (t : Nat) (f : Trk → Trk) : (s.modTrk t f).xcRun = s.xcRun := rfl
@[simp] theorem State.modTrk_fits (t : Nat) (f : Trk → Trk) : (s.modTrk t f).fits = s.fits := rfl
@[simp] theorem State.modTrk_lanes (t : Nat) (f : Trk → Trk) : (s.modTrk t f).lanes = s.lanes := rfl
@[simp] theorem State.modTrk_ctxRuns (t : Nat) (f : Trk → Trk) : (s.modTrk t f).ctxRuns = s.ctxRuns := rfl
@[simp] theorem State.modTrk_profs (t : Nat) (f : Trk → Trk) : (s.modTrk t f).profs = s.profs := rfl
@[simp] theorem State.modTrk_gqs (t : Nat) (f : Trk → Trk) : (s.modTrk t f).gqs = s.gqs := rfl
@[simp] theorem State.modTrk_cmps (t : Nat) (f : Trk → Trk) : (s.modTrk t f).cmps = s.cmps := rfl
@[simp] theorem State.modTrk_shorts (t : Nat) (f : Trk → Trk) : (s.modTrk t f).shorts = s.shorts := rfl
@[simp] theorem State.modTrk_ovRel (t : Nat) (f : Trk → Trk) : (s.modTrk t f).ovRel = s.ovRel := rfl
@[simp] theorem State.modTrk_pgs (t : Nat) (f : Trk → Trk) : (s.modTrk t f).pgs = s.pgs := rfl
@[simp] theorem State.modTrk_before (t : Nat) (f : Trk → Trk) : (s.modTrk t f).before = s.before := rfl
@[simp] theorem State.modTrk_inputs (t : Nat) (f : Trk → Trk) : (s.modTrk t f).inputs = s.inputs := rfl
@[simp] theorem State.modTrk_gls (t : Nat) (f : Trk → Trk) : (s.modTrk t f).gls = s.gls := rfl
@[simp] theorem State.modTrk_tms (t : Nat) (f : Trk → Trk) : (s.modTrk t f).tms = s.tms := rfl
@[simp] theorem State.modTrk_tcs (t : Nat) (f : Trk → Trk) : (s.modTrk t f).tcs = s.tcs := rfl
@[simp] theorem State.modTrk_rss (t : Nat) (f : Trk → Trk) : (s.modTrk t f).rss = s.rss := rfl
@[simp] theorem State.modTrk_qds (t : Nat) (f : Trk → Trk) : (s.modTrk t f).qds = s.qds := rfl
@[simp] theorem State.modTrk_hls (t : Nat) (f : Trk → Trk) : (s.modTrk t f).hls = s.hls := rfl
@[simp] theorem State.modTrk_dc (t : Nat) (f : Trk → Trk) : (s.modTrk t f).dc = s.dc := rfl
@[simp] theorem State.modTrk_ch (t : Nat) (f : Trk → Trk) : (s.modTrk t f).ch = s.ch := rfl
@[simp] theorem State.modTrk_acs (t : Nat) (f : Trk → Trk) : (s.modTrk t f).acs = s.acs := rfl
@[simp] theorem State.modTrk_sumpActOff (t : Nat) (f : Trk → Trk) : (s.modTrk t f).sumpActOff = s.sumpActOff := rfl
@[simp] theorem State.modTrk_ovSince (t : Nat) (f : Trk → Trk) : (s.modTrk t f).ovSince = s.ovSince := rfl
@[simp] theorem State.modTrk_sc (t : Nat) (f : Trk → Trk) : (s.modTrk t f).sc = s.sc := rfl
@[simp] theorem State.modTrk_sf (t : Nat) (f : Trk → Trk) : (s.modTrk t f).sf = s.sf := rfl
@[simp] theorem State.modTrk_rails (t : Nat) (f : Trk → Trk) : (s.modTrk t f).rails = s.rails := rfl
@[simp] theorem State.modTrk_cans (t : Nat) (f : Trk → Trk) : (s.modTrk t f).cans = s.cans := rfl
@[simp] theorem State.modTrk_al (t : Nat) (f : Trk → Trk) : (s.modTrk t f).al = s.al := rfl
@[simp] theorem State.modTrk_trPost (t : Nat) (f : Trk → Trk) : (s.modTrk t f).trPost = s.trPost := rfl
@[simp] theorem State.modTrk_unlockEnd (t : Nat) (f : Trk → Trk) : (s.modTrk t f).unlockEnd = s.unlockEnd := rfl
@[simp] theorem State.modTrk_lt (t : Nat) (f : Trk → Trk) : (s.modTrk t f).lt = s.lt := rfl
@[simp] theorem State.modTrk_scrubAt (t : Nat) (f : Trk → Trk) : (s.modTrk t f).scrubAt = s.scrubAt := rfl
@[simp] theorem State.modTrk_lerrOpen (t : Nat) (f : Trk → Trk) : (s.modTrk t f).lerrOpen = s.lerrOpen := rfl
@[simp] theorem State.modTrk_spOut (t : Nat) (f : Trk → Trk) : (s.modTrk t f).spOut = s.spOut := rfl
@[simp] theorem State.modTrk_spQueue (t : Nat) (f : Trk → Trk) : (s.modTrk t f).spQueue = s.spQueue := rfl
@[simp] theorem State.modTrk_pending (t : Nat) (f : Trk → Trk) : (s.modTrk t f).pending = s.pending := rfl

/-! ### `modPg` -/

@[simp] theorem State.modPg_now (c : Nat) (f : Pg → Pg) : (s.modPg c f).now = s.now := rfl
@[simp] theorem State.modPg_freeCtr (c : Nat) (f : Pg → Pg) : (s.modPg c f).freeCtr = s.freeCtr := rfl
@[simp] theorem State.modPg_regs (c : Nat) (f : Pg → Pg) : (s.modPg c f).regs = s.regs := rfl
@[simp] theorem State.modPg_shadow (c : Nat) (f : Pg → Pg) : (s.modPg c f).shadow = s.shadow := rfl
@[simp] theorem State.modPg_pllInt (c : Nat) (f : Pg → Pg) : (s.modPg c f).pllInt = s.pllInt := rfl
@[simp] theorem State.modPg_mem (c : Nat) (f : Pg → Pg) : (s.modPg c f).mem = s.mem := rfl
@[simp] theorem State.modPg_parBad (c : Nat) (f : Pg → Pg) : (s.modPg c f).parBad = s.parBad := rfl
@[simp] theorem State.modPg_wbacks (c : Nat) (f : Pg → Pg) : (s.modPg c f).wbacks = s.wbacks := rfl
@[simp] theorem State.modPg_wbBy (c : Nat) (f : Pg → Pg) : (s.modPg c f).wbBy = s.wbBy := rfl
@[simp] theorem State.modPg_lastWb (c : Nat) (f : Pg → Pg) : (s.modPg c f).lastWb = s.lastWb := rfl
@[simp] theorem State.modPg_commits (c : Nat) (f : Pg → Pg) : (s.modPg c f).commits = s.commits := rfl
@[simp] theorem State.modPg_raised (c : Nat) (f : Pg → Pg) : (s.modPg c f).raised = s.raised := rfl
@[simp] theorem State.modPg_fifo (c : Nat) (f : Pg → Pg) : (s.modPg c f).fifo = s.fifo := rfl
@[simp] theorem State.modPg_fifoLoss (c : Nat) (f : Pg → Pg) : (s.modPg c f).fifoLoss = s.fifoLoss := rfl
@[simp] theorem State.modPg_logHalf (c : Nat) (f : Pg → Pg) : (s.modPg c f).logHalf = s.logHalf := rfl
@[simp] theorem State.modPg_logNext (c : Nat) (f : Pg → Pg) : (s.modPg c f).logNext = s.logNext := rfl
@[simp] theorem State.modPg_undecided (c : Nat) (f : Pg → Pg) : (s.modPg c f).undecided = s.undecided := rfl
@[simp] theorem State.modPg_hwSets (c : Nat) (f : Pg → Pg) : (s.modPg c f).hwSets = s.hwSets := rfl
@[simp] theorem State.modPg_reseeks (c : Nat) (f : Pg → Pg) : (s.modPg c f).reseeks = s.reseeks := rfl
@[simp] theorem State.modPg_jumped (c : Nat) (f : Pg → Pg) : (s.modPg c f).jumped = s.jumped := rfl
@[simp] theorem State.modPg_turned (c : Nat) (f : Pg → Pg) : (s.modPg c f).turned = s.turned := rfl
@[simp] theorem State.modPg_doms (c : Nat) (f : Pg → Pg) : (s.modPg c f).doms = s.doms := rfl
@[simp] theorem State.modPg_trks (c : Nat) (f : Pg → Pg) : (s.modPg c f).trks = s.trks := rfl
@[simp] theorem State.modPg_fireAt (c : Nat) (f : Pg → Pg) : (s.modPg c f).fireAt = s.fireAt := rfl
@[simp] theorem State.modPg_fired (c : Nat) (f : Pg → Pg) : (s.modPg c f).fired = s.fired := rfl
@[simp] theorem State.modPg_marks (c : Nat) (f : Pg → Pg) : (s.modPg c f).marks = s.marks := rfl
@[simp] theorem State.modPg_adcs (c : Nat) (f : Pg → Pg) : (s.modPg c f).adcs = s.adcs := rfl
@[simp] theorem State.modPg_xcRun (c : Nat) (f : Pg → Pg) : (s.modPg c f).xcRun = s.xcRun := rfl
@[simp] theorem State.modPg_fits (c : Nat) (f : Pg → Pg) : (s.modPg c f).fits = s.fits := rfl
@[simp] theorem State.modPg_lanes (c : Nat) (f : Pg → Pg) : (s.modPg c f).lanes = s.lanes := rfl
@[simp] theorem State.modPg_ctxRuns (c : Nat) (f : Pg → Pg) : (s.modPg c f).ctxRuns = s.ctxRuns := rfl
@[simp] theorem State.modPg_profs (c : Nat) (f : Pg → Pg) : (s.modPg c f).profs = s.profs := rfl
@[simp] theorem State.modPg_gqs (c : Nat) (f : Pg → Pg) : (s.modPg c f).gqs = s.gqs := rfl
@[simp] theorem State.modPg_cmps (c : Nat) (f : Pg → Pg) : (s.modPg c f).cmps = s.cmps := rfl
@[simp] theorem State.modPg_shorts (c : Nat) (f : Pg → Pg) : (s.modPg c f).shorts = s.shorts := rfl
@[simp] theorem State.modPg_ovRel (c : Nat) (f : Pg → Pg) : (s.modPg c f).ovRel = s.ovRel := rfl
@[simp] theorem State.modPg_pgs (c : Nat) (f : Pg → Pg) : (s.modPg c f).pgs = vmod s.pgs c f := rfl
@[simp] theorem State.modPg_before (c : Nat) (f : Pg → Pg) : (s.modPg c f).before = s.before := rfl
@[simp] theorem State.modPg_inputs (c : Nat) (f : Pg → Pg) : (s.modPg c f).inputs = s.inputs := rfl
@[simp] theorem State.modPg_gls (c : Nat) (f : Pg → Pg) : (s.modPg c f).gls = s.gls := rfl
@[simp] theorem State.modPg_tms (c : Nat) (f : Pg → Pg) : (s.modPg c f).tms = s.tms := rfl
@[simp] theorem State.modPg_tcs (c : Nat) (f : Pg → Pg) : (s.modPg c f).tcs = s.tcs := rfl
@[simp] theorem State.modPg_rss (c : Nat) (f : Pg → Pg) : (s.modPg c f).rss = s.rss := rfl
@[simp] theorem State.modPg_qds (c : Nat) (f : Pg → Pg) : (s.modPg c f).qds = s.qds := rfl
@[simp] theorem State.modPg_hls (c : Nat) (f : Pg → Pg) : (s.modPg c f).hls = s.hls := rfl
@[simp] theorem State.modPg_dc (c : Nat) (f : Pg → Pg) : (s.modPg c f).dc = s.dc := rfl
@[simp] theorem State.modPg_ch (c : Nat) (f : Pg → Pg) : (s.modPg c f).ch = s.ch := rfl
@[simp] theorem State.modPg_acs (c : Nat) (f : Pg → Pg) : (s.modPg c f).acs = s.acs := rfl
@[simp] theorem State.modPg_sumpActOff (c : Nat) (f : Pg → Pg) : (s.modPg c f).sumpActOff = s.sumpActOff := rfl
@[simp] theorem State.modPg_ovSince (c : Nat) (f : Pg → Pg) : (s.modPg c f).ovSince = s.ovSince := rfl
@[simp] theorem State.modPg_sc (c : Nat) (f : Pg → Pg) : (s.modPg c f).sc = s.sc := rfl
@[simp] theorem State.modPg_sf (c : Nat) (f : Pg → Pg) : (s.modPg c f).sf = s.sf := rfl
@[simp] theorem State.modPg_rails (c : Nat) (f : Pg → Pg) : (s.modPg c f).rails = s.rails := rfl
@[simp] theorem State.modPg_cans (c : Nat) (f : Pg → Pg) : (s.modPg c f).cans = s.cans := rfl
@[simp] theorem State.modPg_al (c : Nat) (f : Pg → Pg) : (s.modPg c f).al = s.al := rfl
@[simp] theorem State.modPg_trPost (c : Nat) (f : Pg → Pg) : (s.modPg c f).trPost = s.trPost := rfl
@[simp] theorem State.modPg_unlockEnd (c : Nat) (f : Pg → Pg) : (s.modPg c f).unlockEnd = s.unlockEnd := rfl
@[simp] theorem State.modPg_lt (c : Nat) (f : Pg → Pg) : (s.modPg c f).lt = s.lt := rfl
@[simp] theorem State.modPg_scrubAt (c : Nat) (f : Pg → Pg) : (s.modPg c f).scrubAt = s.scrubAt := rfl
@[simp] theorem State.modPg_lerrOpen (c : Nat) (f : Pg → Pg) : (s.modPg c f).lerrOpen = s.lerrOpen := rfl
@[simp] theorem State.modPg_spOut (c : Nat) (f : Pg → Pg) : (s.modPg c f).spOut = s.spOut := rfl
@[simp] theorem State.modPg_spQueue (c : Nat) (f : Pg → Pg) : (s.modPg c f).spQueue = s.spQueue := rfl
@[simp] theorem State.modPg_pending (c : Nat) (f : Pg → Pg) : (s.modPg c f).pending = s.pending := rfl

/-! ### `modGq` -/

@[simp] theorem State.modGq_now (g : Nat) (f : Gq → Gq) : (s.modGq g f).now = s.now := rfl
@[simp] theorem State.modGq_freeCtr (g : Nat) (f : Gq → Gq) : (s.modGq g f).freeCtr = s.freeCtr := rfl
@[simp] theorem State.modGq_regs (g : Nat) (f : Gq → Gq) : (s.modGq g f).regs = s.regs := rfl
@[simp] theorem State.modGq_shadow (g : Nat) (f : Gq → Gq) : (s.modGq g f).shadow = s.shadow := rfl
@[simp] theorem State.modGq_pllInt (g : Nat) (f : Gq → Gq) : (s.modGq g f).pllInt = s.pllInt := rfl
@[simp] theorem State.modGq_mem (g : Nat) (f : Gq → Gq) : (s.modGq g f).mem = s.mem := rfl
@[simp] theorem State.modGq_parBad (g : Nat) (f : Gq → Gq) : (s.modGq g f).parBad = s.parBad := rfl
@[simp] theorem State.modGq_wbacks (g : Nat) (f : Gq → Gq) : (s.modGq g f).wbacks = s.wbacks := rfl
@[simp] theorem State.modGq_wbBy (g : Nat) (f : Gq → Gq) : (s.modGq g f).wbBy = s.wbBy := rfl
@[simp] theorem State.modGq_lastWb (g : Nat) (f : Gq → Gq) : (s.modGq g f).lastWb = s.lastWb := rfl
@[simp] theorem State.modGq_commits (g : Nat) (f : Gq → Gq) : (s.modGq g f).commits = s.commits := rfl
@[simp] theorem State.modGq_raised (g : Nat) (f : Gq → Gq) : (s.modGq g f).raised = s.raised := rfl
@[simp] theorem State.modGq_fifo (g : Nat) (f : Gq → Gq) : (s.modGq g f).fifo = s.fifo := rfl
@[simp] theorem State.modGq_fifoLoss (g : Nat) (f : Gq → Gq) : (s.modGq g f).fifoLoss = s.fifoLoss := rfl
@[simp] theorem State.modGq_logHalf (g : Nat) (f : Gq → Gq) : (s.modGq g f).logHalf = s.logHalf := rfl
@[simp] theorem State.modGq_logNext (g : Nat) (f : Gq → Gq) : (s.modGq g f).logNext = s.logNext := rfl
@[simp] theorem State.modGq_undecided (g : Nat) (f : Gq → Gq) : (s.modGq g f).undecided = s.undecided := rfl
@[simp] theorem State.modGq_hwSets (g : Nat) (f : Gq → Gq) : (s.modGq g f).hwSets = s.hwSets := rfl
@[simp] theorem State.modGq_reseeks (g : Nat) (f : Gq → Gq) : (s.modGq g f).reseeks = s.reseeks := rfl
@[simp] theorem State.modGq_jumped (g : Nat) (f : Gq → Gq) : (s.modGq g f).jumped = s.jumped := rfl
@[simp] theorem State.modGq_turned (g : Nat) (f : Gq → Gq) : (s.modGq g f).turned = s.turned := rfl
@[simp] theorem State.modGq_doms (g : Nat) (f : Gq → Gq) : (s.modGq g f).doms = s.doms := rfl
@[simp] theorem State.modGq_trks (g : Nat) (f : Gq → Gq) : (s.modGq g f).trks = s.trks := rfl
@[simp] theorem State.modGq_fireAt (g : Nat) (f : Gq → Gq) : (s.modGq g f).fireAt = s.fireAt := rfl
@[simp] theorem State.modGq_fired (g : Nat) (f : Gq → Gq) : (s.modGq g f).fired = s.fired := rfl
@[simp] theorem State.modGq_marks (g : Nat) (f : Gq → Gq) : (s.modGq g f).marks = s.marks := rfl
@[simp] theorem State.modGq_adcs (g : Nat) (f : Gq → Gq) : (s.modGq g f).adcs = s.adcs := rfl
@[simp] theorem State.modGq_xcRun (g : Nat) (f : Gq → Gq) : (s.modGq g f).xcRun = s.xcRun := rfl
@[simp] theorem State.modGq_fits (g : Nat) (f : Gq → Gq) : (s.modGq g f).fits = s.fits := rfl
@[simp] theorem State.modGq_lanes (g : Nat) (f : Gq → Gq) : (s.modGq g f).lanes = s.lanes := rfl
@[simp] theorem State.modGq_ctxRuns (g : Nat) (f : Gq → Gq) : (s.modGq g f).ctxRuns = s.ctxRuns := rfl
@[simp] theorem State.modGq_profs (g : Nat) (f : Gq → Gq) : (s.modGq g f).profs = s.profs := rfl
@[simp] theorem State.modGq_gqs (g : Nat) (f : Gq → Gq) : (s.modGq g f).gqs = vmod s.gqs g f := rfl
@[simp] theorem State.modGq_cmps (g : Nat) (f : Gq → Gq) : (s.modGq g f).cmps = s.cmps := rfl
@[simp] theorem State.modGq_shorts (g : Nat) (f : Gq → Gq) : (s.modGq g f).shorts = s.shorts := rfl
@[simp] theorem State.modGq_ovRel (g : Nat) (f : Gq → Gq) : (s.modGq g f).ovRel = s.ovRel := rfl
@[simp] theorem State.modGq_pgs (g : Nat) (f : Gq → Gq) : (s.modGq g f).pgs = s.pgs := rfl
@[simp] theorem State.modGq_before (g : Nat) (f : Gq → Gq) : (s.modGq g f).before = s.before := rfl
@[simp] theorem State.modGq_inputs (g : Nat) (f : Gq → Gq) : (s.modGq g f).inputs = s.inputs := rfl
@[simp] theorem State.modGq_gls (g : Nat) (f : Gq → Gq) : (s.modGq g f).gls = s.gls := rfl
@[simp] theorem State.modGq_tms (g : Nat) (f : Gq → Gq) : (s.modGq g f).tms = s.tms := rfl
@[simp] theorem State.modGq_tcs (g : Nat) (f : Gq → Gq) : (s.modGq g f).tcs = s.tcs := rfl
@[simp] theorem State.modGq_rss (g : Nat) (f : Gq → Gq) : (s.modGq g f).rss = s.rss := rfl
@[simp] theorem State.modGq_qds (g : Nat) (f : Gq → Gq) : (s.modGq g f).qds = s.qds := rfl
@[simp] theorem State.modGq_hls (g : Nat) (f : Gq → Gq) : (s.modGq g f).hls = s.hls := rfl
@[simp] theorem State.modGq_dc (g : Nat) (f : Gq → Gq) : (s.modGq g f).dc = s.dc := rfl
@[simp] theorem State.modGq_ch (g : Nat) (f : Gq → Gq) : (s.modGq g f).ch = s.ch := rfl
@[simp] theorem State.modGq_acs (g : Nat) (f : Gq → Gq) : (s.modGq g f).acs = s.acs := rfl
@[simp] theorem State.modGq_sumpActOff (g : Nat) (f : Gq → Gq) : (s.modGq g f).sumpActOff = s.sumpActOff := rfl
@[simp] theorem State.modGq_ovSince (g : Nat) (f : Gq → Gq) : (s.modGq g f).ovSince = s.ovSince := rfl
@[simp] theorem State.modGq_sc (g : Nat) (f : Gq → Gq) : (s.modGq g f).sc = s.sc := rfl
@[simp] theorem State.modGq_sf (g : Nat) (f : Gq → Gq) : (s.modGq g f).sf = s.sf := rfl
@[simp] theorem State.modGq_rails (g : Nat) (f : Gq → Gq) : (s.modGq g f).rails = s.rails := rfl
@[simp] theorem State.modGq_cans (g : Nat) (f : Gq → Gq) : (s.modGq g f).cans = s.cans := rfl
@[simp] theorem State.modGq_al (g : Nat) (f : Gq → Gq) : (s.modGq g f).al = s.al := rfl
@[simp] theorem State.modGq_trPost (g : Nat) (f : Gq → Gq) : (s.modGq g f).trPost = s.trPost := rfl
@[simp] theorem State.modGq_unlockEnd (g : Nat) (f : Gq → Gq) : (s.modGq g f).unlockEnd = s.unlockEnd := rfl
@[simp] theorem State.modGq_lt (g : Nat) (f : Gq → Gq) : (s.modGq g f).lt = s.lt := rfl
@[simp] theorem State.modGq_scrubAt (g : Nat) (f : Gq → Gq) : (s.modGq g f).scrubAt = s.scrubAt := rfl
@[simp] theorem State.modGq_lerrOpen (g : Nat) (f : Gq → Gq) : (s.modGq g f).lerrOpen = s.lerrOpen := rfl
@[simp] theorem State.modGq_spOut (g : Nat) (f : Gq → Gq) : (s.modGq g f).spOut = s.spOut := rfl
@[simp] theorem State.modGq_spQueue (g : Nat) (f : Gq → Gq) : (s.modGq g f).spQueue = s.spQueue := rfl
@[simp] theorem State.modGq_pending (g : Nat) (f : Gq → Gq) : (s.modGq g f).pending = s.pending := rfl

/-! ### `modLane` -/

@[simp] theorem State.modLane_now (n l : Nat) (f : Lane → Lane) : (s.modLane n l f).now = s.now := rfl
@[simp] theorem State.modLane_freeCtr (n l : Nat) (f : Lane → Lane) : (s.modLane n l f).freeCtr = s.freeCtr := rfl
@[simp] theorem State.modLane_regs (n l : Nat) (f : Lane → Lane) : (s.modLane n l f).regs = s.regs := rfl
@[simp] theorem State.modLane_shadow (n l : Nat) (f : Lane → Lane) : (s.modLane n l f).shadow = s.shadow := rfl
@[simp] theorem State.modLane_pllInt (n l : Nat) (f : Lane → Lane) : (s.modLane n l f).pllInt = s.pllInt := rfl
@[simp] theorem State.modLane_mem (n l : Nat) (f : Lane → Lane) : (s.modLane n l f).mem = s.mem := rfl
@[simp] theorem State.modLane_parBad (n l : Nat) (f : Lane → Lane) : (s.modLane n l f).parBad = s.parBad := rfl
@[simp] theorem State.modLane_wbacks (n l : Nat) (f : Lane → Lane) : (s.modLane n l f).wbacks = s.wbacks := rfl
@[simp] theorem State.modLane_wbBy (n l : Nat) (f : Lane → Lane) : (s.modLane n l f).wbBy = s.wbBy := rfl
@[simp] theorem State.modLane_lastWb (n l : Nat) (f : Lane → Lane) : (s.modLane n l f).lastWb = s.lastWb := rfl
@[simp] theorem State.modLane_commits (n l : Nat) (f : Lane → Lane) : (s.modLane n l f).commits = s.commits := rfl
@[simp] theorem State.modLane_raised (n l : Nat) (f : Lane → Lane) : (s.modLane n l f).raised = s.raised := rfl
@[simp] theorem State.modLane_fifo (n l : Nat) (f : Lane → Lane) : (s.modLane n l f).fifo = s.fifo := rfl
@[simp] theorem State.modLane_fifoLoss (n l : Nat) (f : Lane → Lane) : (s.modLane n l f).fifoLoss = s.fifoLoss := rfl
@[simp] theorem State.modLane_logHalf (n l : Nat) (f : Lane → Lane) : (s.modLane n l f).logHalf = s.logHalf := rfl
@[simp] theorem State.modLane_logNext (n l : Nat) (f : Lane → Lane) : (s.modLane n l f).logNext = s.logNext := rfl
@[simp] theorem State.modLane_undecided (n l : Nat) (f : Lane → Lane) : (s.modLane n l f).undecided = s.undecided := rfl
@[simp] theorem State.modLane_hwSets (n l : Nat) (f : Lane → Lane) : (s.modLane n l f).hwSets = s.hwSets := rfl
@[simp] theorem State.modLane_reseeks (n l : Nat) (f : Lane → Lane) : (s.modLane n l f).reseeks = s.reseeks := rfl
@[simp] theorem State.modLane_jumped (n l : Nat) (f : Lane → Lane) : (s.modLane n l f).jumped = s.jumped := rfl
@[simp] theorem State.modLane_turned (n l : Nat) (f : Lane → Lane) : (s.modLane n l f).turned = s.turned := rfl
@[simp] theorem State.modLane_doms (n l : Nat) (f : Lane → Lane) : (s.modLane n l f).doms = s.doms := rfl
@[simp] theorem State.modLane_trks (n l : Nat) (f : Lane → Lane) : (s.modLane n l f).trks = s.trks := rfl
@[simp] theorem State.modLane_fireAt (n l : Nat) (f : Lane → Lane) : (s.modLane n l f).fireAt = s.fireAt := rfl
@[simp] theorem State.modLane_fired (n l : Nat) (f : Lane → Lane) : (s.modLane n l f).fired = s.fired := rfl
@[simp] theorem State.modLane_marks (n l : Nat) (f : Lane → Lane) : (s.modLane n l f).marks = s.marks := rfl
@[simp] theorem State.modLane_adcs (n l : Nat) (f : Lane → Lane) : (s.modLane n l f).adcs = s.adcs := rfl
@[simp] theorem State.modLane_xcRun (n l : Nat) (f : Lane → Lane) : (s.modLane n l f).xcRun = s.xcRun := rfl
@[simp] theorem State.modLane_fits (n l : Nat) (f : Lane → Lane) : (s.modLane n l f).fits = s.fits := rfl
@[simp] theorem State.modLane_lanes (n l : Nat) (f : Lane → Lane) : (s.modLane n l f).lanes = vmod s.lanes (2 * n + l) f := rfl
@[simp] theorem State.modLane_ctxRuns (n l : Nat) (f : Lane → Lane) : (s.modLane n l f).ctxRuns = s.ctxRuns := rfl
@[simp] theorem State.modLane_profs (n l : Nat) (f : Lane → Lane) : (s.modLane n l f).profs = s.profs := rfl
@[simp] theorem State.modLane_gqs (n l : Nat) (f : Lane → Lane) : (s.modLane n l f).gqs = s.gqs := rfl
@[simp] theorem State.modLane_cmps (n l : Nat) (f : Lane → Lane) : (s.modLane n l f).cmps = s.cmps := rfl
@[simp] theorem State.modLane_shorts (n l : Nat) (f : Lane → Lane) : (s.modLane n l f).shorts = s.shorts := rfl
@[simp] theorem State.modLane_ovRel (n l : Nat) (f : Lane → Lane) : (s.modLane n l f).ovRel = s.ovRel := rfl
@[simp] theorem State.modLane_pgs (n l : Nat) (f : Lane → Lane) : (s.modLane n l f).pgs = s.pgs := rfl
@[simp] theorem State.modLane_before (n l : Nat) (f : Lane → Lane) : (s.modLane n l f).before = s.before := rfl
@[simp] theorem State.modLane_inputs (n l : Nat) (f : Lane → Lane) : (s.modLane n l f).inputs = s.inputs := rfl
@[simp] theorem State.modLane_gls (n l : Nat) (f : Lane → Lane) : (s.modLane n l f).gls = s.gls := rfl
@[simp] theorem State.modLane_tms (n l : Nat) (f : Lane → Lane) : (s.modLane n l f).tms = s.tms := rfl
@[simp] theorem State.modLane_tcs (n l : Nat) (f : Lane → Lane) : (s.modLane n l f).tcs = s.tcs := rfl
@[simp] theorem State.modLane_rss (n l : Nat) (f : Lane → Lane) : (s.modLane n l f).rss = s.rss := rfl
@[simp] theorem State.modLane_qds (n l : Nat) (f : Lane → Lane) : (s.modLane n l f).qds = s.qds := rfl
@[simp] theorem State.modLane_hls (n l : Nat) (f : Lane → Lane) : (s.modLane n l f).hls = s.hls := rfl
@[simp] theorem State.modLane_dc (n l : Nat) (f : Lane → Lane) : (s.modLane n l f).dc = s.dc := rfl
@[simp] theorem State.modLane_ch (n l : Nat) (f : Lane → Lane) : (s.modLane n l f).ch = s.ch := rfl
@[simp] theorem State.modLane_acs (n l : Nat) (f : Lane → Lane) : (s.modLane n l f).acs = s.acs := rfl
@[simp] theorem State.modLane_sumpActOff (n l : Nat) (f : Lane → Lane) : (s.modLane n l f).sumpActOff = s.sumpActOff := rfl
@[simp] theorem State.modLane_ovSince (n l : Nat) (f : Lane → Lane) : (s.modLane n l f).ovSince = s.ovSince := rfl
@[simp] theorem State.modLane_sc (n l : Nat) (f : Lane → Lane) : (s.modLane n l f).sc = s.sc := rfl
@[simp] theorem State.modLane_sf (n l : Nat) (f : Lane → Lane) : (s.modLane n l f).sf = s.sf := rfl
@[simp] theorem State.modLane_rails (n l : Nat) (f : Lane → Lane) : (s.modLane n l f).rails = s.rails := rfl
@[simp] theorem State.modLane_cans (n l : Nat) (f : Lane → Lane) : (s.modLane n l f).cans = s.cans := rfl
@[simp] theorem State.modLane_al (n l : Nat) (f : Lane → Lane) : (s.modLane n l f).al = s.al := rfl
@[simp] theorem State.modLane_trPost (n l : Nat) (f : Lane → Lane) : (s.modLane n l f).trPost = s.trPost := rfl
@[simp] theorem State.modLane_unlockEnd (n l : Nat) (f : Lane → Lane) : (s.modLane n l f).unlockEnd = s.unlockEnd := rfl
@[simp] theorem State.modLane_lt (n l : Nat) (f : Lane → Lane) : (s.modLane n l f).lt = s.lt := rfl
@[simp] theorem State.modLane_scrubAt (n l : Nat) (f : Lane → Lane) : (s.modLane n l f).scrubAt = s.scrubAt := rfl
@[simp] theorem State.modLane_lerrOpen (n l : Nat) (f : Lane → Lane) : (s.modLane n l f).lerrOpen = s.lerrOpen := rfl
@[simp] theorem State.modLane_spOut (n l : Nat) (f : Lane → Lane) : (s.modLane n l f).spOut = s.spOut := rfl
@[simp] theorem State.modLane_spQueue (n l : Nat) (f : Lane → Lane) : (s.modLane n l f).spQueue = s.spQueue := rfl
@[simp] theorem State.modLane_pending (n l : Nat) (f : Lane → Lane) : (s.modLane n l f).pending = s.pending := rfl

/-! ### `modCmp` -/

@[simp] theorem State.modCmp_now (k : Nat) (f : Cmp → Cmp) : (s.modCmp k f).now = s.now := rfl
@[simp] theorem State.modCmp_freeCtr (k : Nat) (f : Cmp → Cmp) : (s.modCmp k f).freeCtr = s.freeCtr := rfl
@[simp] theorem State.modCmp_regs (k : Nat) (f : Cmp → Cmp) : (s.modCmp k f).regs = s.regs := rfl
@[simp] theorem State.modCmp_shadow (k : Nat) (f : Cmp → Cmp) : (s.modCmp k f).shadow = s.shadow := rfl
@[simp] theorem State.modCmp_pllInt (k : Nat) (f : Cmp → Cmp) : (s.modCmp k f).pllInt = s.pllInt := rfl
@[simp] theorem State.modCmp_mem (k : Nat) (f : Cmp → Cmp) : (s.modCmp k f).mem = s.mem := rfl
@[simp] theorem State.modCmp_parBad (k : Nat) (f : Cmp → Cmp) : (s.modCmp k f).parBad = s.parBad := rfl
@[simp] theorem State.modCmp_wbacks (k : Nat) (f : Cmp → Cmp) : (s.modCmp k f).wbacks = s.wbacks := rfl
@[simp] theorem State.modCmp_wbBy (k : Nat) (f : Cmp → Cmp) : (s.modCmp k f).wbBy = s.wbBy := rfl
@[simp] theorem State.modCmp_lastWb (k : Nat) (f : Cmp → Cmp) : (s.modCmp k f).lastWb = s.lastWb := rfl
@[simp] theorem State.modCmp_commits (k : Nat) (f : Cmp → Cmp) : (s.modCmp k f).commits = s.commits := rfl
@[simp] theorem State.modCmp_raised (k : Nat) (f : Cmp → Cmp) : (s.modCmp k f).raised = s.raised := rfl
@[simp] theorem State.modCmp_fifo (k : Nat) (f : Cmp → Cmp) : (s.modCmp k f).fifo = s.fifo := rfl
@[simp] theorem State.modCmp_fifoLoss (k : Nat) (f : Cmp → Cmp) : (s.modCmp k f).fifoLoss = s.fifoLoss := rfl
@[simp] theorem State.modCmp_logHalf (k : Nat) (f : Cmp → Cmp) : (s.modCmp k f).logHalf = s.logHalf := rfl
@[simp] theorem State.modCmp_logNext (k : Nat) (f : Cmp → Cmp) : (s.modCmp k f).logNext = s.logNext := rfl
@[simp] theorem State.modCmp_undecided (k : Nat) (f : Cmp → Cmp) : (s.modCmp k f).undecided = s.undecided := rfl
@[simp] theorem State.modCmp_hwSets (k : Nat) (f : Cmp → Cmp) : (s.modCmp k f).hwSets = s.hwSets := rfl
@[simp] theorem State.modCmp_reseeks (k : Nat) (f : Cmp → Cmp) : (s.modCmp k f).reseeks = s.reseeks := rfl
@[simp] theorem State.modCmp_jumped (k : Nat) (f : Cmp → Cmp) : (s.modCmp k f).jumped = s.jumped := rfl
@[simp] theorem State.modCmp_turned (k : Nat) (f : Cmp → Cmp) : (s.modCmp k f).turned = s.turned := rfl
@[simp] theorem State.modCmp_doms (k : Nat) (f : Cmp → Cmp) : (s.modCmp k f).doms = s.doms := rfl
@[simp] theorem State.modCmp_trks (k : Nat) (f : Cmp → Cmp) : (s.modCmp k f).trks = s.trks := rfl
@[simp] theorem State.modCmp_fireAt (k : Nat) (f : Cmp → Cmp) : (s.modCmp k f).fireAt = s.fireAt := rfl
@[simp] theorem State.modCmp_fired (k : Nat) (f : Cmp → Cmp) : (s.modCmp k f).fired = s.fired := rfl
@[simp] theorem State.modCmp_marks (k : Nat) (f : Cmp → Cmp) : (s.modCmp k f).marks = s.marks := rfl
@[simp] theorem State.modCmp_adcs (k : Nat) (f : Cmp → Cmp) : (s.modCmp k f).adcs = s.adcs := rfl
@[simp] theorem State.modCmp_xcRun (k : Nat) (f : Cmp → Cmp) : (s.modCmp k f).xcRun = s.xcRun := rfl
@[simp] theorem State.modCmp_fits (k : Nat) (f : Cmp → Cmp) : (s.modCmp k f).fits = s.fits := rfl
@[simp] theorem State.modCmp_lanes (k : Nat) (f : Cmp → Cmp) : (s.modCmp k f).lanes = s.lanes := rfl
@[simp] theorem State.modCmp_ctxRuns (k : Nat) (f : Cmp → Cmp) : (s.modCmp k f).ctxRuns = s.ctxRuns := rfl
@[simp] theorem State.modCmp_profs (k : Nat) (f : Cmp → Cmp) : (s.modCmp k f).profs = s.profs := rfl
@[simp] theorem State.modCmp_gqs (k : Nat) (f : Cmp → Cmp) : (s.modCmp k f).gqs = s.gqs := rfl
@[simp] theorem State.modCmp_cmps (k : Nat) (f : Cmp → Cmp) : (s.modCmp k f).cmps = vmod s.cmps k f := rfl
@[simp] theorem State.modCmp_shorts (k : Nat) (f : Cmp → Cmp) : (s.modCmp k f).shorts = s.shorts := rfl
@[simp] theorem State.modCmp_ovRel (k : Nat) (f : Cmp → Cmp) : (s.modCmp k f).ovRel = s.ovRel := rfl
@[simp] theorem State.modCmp_pgs (k : Nat) (f : Cmp → Cmp) : (s.modCmp k f).pgs = s.pgs := rfl
@[simp] theorem State.modCmp_before (k : Nat) (f : Cmp → Cmp) : (s.modCmp k f).before = s.before := rfl
@[simp] theorem State.modCmp_inputs (k : Nat) (f : Cmp → Cmp) : (s.modCmp k f).inputs = s.inputs := rfl
@[simp] theorem State.modCmp_gls (k : Nat) (f : Cmp → Cmp) : (s.modCmp k f).gls = s.gls := rfl
@[simp] theorem State.modCmp_tms (k : Nat) (f : Cmp → Cmp) : (s.modCmp k f).tms = s.tms := rfl
@[simp] theorem State.modCmp_tcs (k : Nat) (f : Cmp → Cmp) : (s.modCmp k f).tcs = s.tcs := rfl
@[simp] theorem State.modCmp_rss (k : Nat) (f : Cmp → Cmp) : (s.modCmp k f).rss = s.rss := rfl
@[simp] theorem State.modCmp_qds (k : Nat) (f : Cmp → Cmp) : (s.modCmp k f).qds = s.qds := rfl
@[simp] theorem State.modCmp_hls (k : Nat) (f : Cmp → Cmp) : (s.modCmp k f).hls = s.hls := rfl
@[simp] theorem State.modCmp_dc (k : Nat) (f : Cmp → Cmp) : (s.modCmp k f).dc = s.dc := rfl
@[simp] theorem State.modCmp_ch (k : Nat) (f : Cmp → Cmp) : (s.modCmp k f).ch = s.ch := rfl
@[simp] theorem State.modCmp_acs (k : Nat) (f : Cmp → Cmp) : (s.modCmp k f).acs = s.acs := rfl
@[simp] theorem State.modCmp_sumpActOff (k : Nat) (f : Cmp → Cmp) : (s.modCmp k f).sumpActOff = s.sumpActOff := rfl
@[simp] theorem State.modCmp_ovSince (k : Nat) (f : Cmp → Cmp) : (s.modCmp k f).ovSince = s.ovSince := rfl
@[simp] theorem State.modCmp_sc (k : Nat) (f : Cmp → Cmp) : (s.modCmp k f).sc = s.sc := rfl
@[simp] theorem State.modCmp_sf (k : Nat) (f : Cmp → Cmp) : (s.modCmp k f).sf = s.sf := rfl
@[simp] theorem State.modCmp_rails (k : Nat) (f : Cmp → Cmp) : (s.modCmp k f).rails = s.rails := rfl
@[simp] theorem State.modCmp_cans (k : Nat) (f : Cmp → Cmp) : (s.modCmp k f).cans = s.cans := rfl
@[simp] theorem State.modCmp_al (k : Nat) (f : Cmp → Cmp) : (s.modCmp k f).al = s.al := rfl
@[simp] theorem State.modCmp_trPost (k : Nat) (f : Cmp → Cmp) : (s.modCmp k f).trPost = s.trPost := rfl
@[simp] theorem State.modCmp_unlockEnd (k : Nat) (f : Cmp → Cmp) : (s.modCmp k f).unlockEnd = s.unlockEnd := rfl
@[simp] theorem State.modCmp_lt (k : Nat) (f : Cmp → Cmp) : (s.modCmp k f).lt = s.lt := rfl
@[simp] theorem State.modCmp_scrubAt (k : Nat) (f : Cmp → Cmp) : (s.modCmp k f).scrubAt = s.scrubAt := rfl
@[simp] theorem State.modCmp_lerrOpen (k : Nat) (f : Cmp → Cmp) : (s.modCmp k f).lerrOpen = s.lerrOpen := rfl
@[simp] theorem State.modCmp_spOut (k : Nat) (f : Cmp → Cmp) : (s.modCmp k f).spOut = s.spOut := rfl
@[simp] theorem State.modCmp_spQueue (k : Nat) (f : Cmp → Cmp) : (s.modCmp k f).spQueue = s.spQueue := rfl
@[simp] theorem State.modCmp_pending (k : Nat) (f : Cmp → Cmp) : (s.modCmp k f).pending = s.pending := rfl

/-! ### `modSc` -/

@[simp] theorem State.modSc_now (f : Sc → Sc) : (s.modSc f).now = s.now := rfl
@[simp] theorem State.modSc_freeCtr (f : Sc → Sc) : (s.modSc f).freeCtr = s.freeCtr := rfl
@[simp] theorem State.modSc_regs (f : Sc → Sc) : (s.modSc f).regs = s.regs := rfl
@[simp] theorem State.modSc_shadow (f : Sc → Sc) : (s.modSc f).shadow = s.shadow := rfl
@[simp] theorem State.modSc_pllInt (f : Sc → Sc) : (s.modSc f).pllInt = s.pllInt := rfl
@[simp] theorem State.modSc_mem (f : Sc → Sc) : (s.modSc f).mem = s.mem := rfl
@[simp] theorem State.modSc_parBad (f : Sc → Sc) : (s.modSc f).parBad = s.parBad := rfl
@[simp] theorem State.modSc_wbacks (f : Sc → Sc) : (s.modSc f).wbacks = s.wbacks := rfl
@[simp] theorem State.modSc_wbBy (f : Sc → Sc) : (s.modSc f).wbBy = s.wbBy := rfl
@[simp] theorem State.modSc_lastWb (f : Sc → Sc) : (s.modSc f).lastWb = s.lastWb := rfl
@[simp] theorem State.modSc_commits (f : Sc → Sc) : (s.modSc f).commits = s.commits := rfl
@[simp] theorem State.modSc_raised (f : Sc → Sc) : (s.modSc f).raised = s.raised := rfl
@[simp] theorem State.modSc_fifo (f : Sc → Sc) : (s.modSc f).fifo = s.fifo := rfl
@[simp] theorem State.modSc_fifoLoss (f : Sc → Sc) : (s.modSc f).fifoLoss = s.fifoLoss := rfl
@[simp] theorem State.modSc_logHalf (f : Sc → Sc) : (s.modSc f).logHalf = s.logHalf := rfl
@[simp] theorem State.modSc_logNext (f : Sc → Sc) : (s.modSc f).logNext = s.logNext := rfl
@[simp] theorem State.modSc_undecided (f : Sc → Sc) : (s.modSc f).undecided = s.undecided := rfl
@[simp] theorem State.modSc_hwSets (f : Sc → Sc) : (s.modSc f).hwSets = s.hwSets := rfl
@[simp] theorem State.modSc_reseeks (f : Sc → Sc) : (s.modSc f).reseeks = s.reseeks := rfl
@[simp] theorem State.modSc_jumped (f : Sc → Sc) : (s.modSc f).jumped = s.jumped := rfl
@[simp] theorem State.modSc_turned (f : Sc → Sc) : (s.modSc f).turned = s.turned := rfl
@[simp] theorem State.modSc_doms (f : Sc → Sc) : (s.modSc f).doms = s.doms := rfl
@[simp] theorem State.modSc_trks (f : Sc → Sc) : (s.modSc f).trks = s.trks := rfl
@[simp] theorem State.modSc_fireAt (f : Sc → Sc) : (s.modSc f).fireAt = s.fireAt := rfl
@[simp] theorem State.modSc_fired (f : Sc → Sc) : (s.modSc f).fired = s.fired := rfl
@[simp] theorem State.modSc_marks (f : Sc → Sc) : (s.modSc f).marks = s.marks := rfl
@[simp] theorem State.modSc_adcs (f : Sc → Sc) : (s.modSc f).adcs = s.adcs := rfl
@[simp] theorem State.modSc_xcRun (f : Sc → Sc) : (s.modSc f).xcRun = s.xcRun := rfl
@[simp] theorem State.modSc_fits (f : Sc → Sc) : (s.modSc f).fits = s.fits := rfl
@[simp] theorem State.modSc_lanes (f : Sc → Sc) : (s.modSc f).lanes = s.lanes := rfl
@[simp] theorem State.modSc_ctxRuns (f : Sc → Sc) : (s.modSc f).ctxRuns = s.ctxRuns := rfl
@[simp] theorem State.modSc_profs (f : Sc → Sc) : (s.modSc f).profs = s.profs := rfl
@[simp] theorem State.modSc_gqs (f : Sc → Sc) : (s.modSc f).gqs = s.gqs := rfl
@[simp] theorem State.modSc_cmps (f : Sc → Sc) : (s.modSc f).cmps = s.cmps := rfl
@[simp] theorem State.modSc_shorts (f : Sc → Sc) : (s.modSc f).shorts = s.shorts := rfl
@[simp] theorem State.modSc_ovRel (f : Sc → Sc) : (s.modSc f).ovRel = s.ovRel := rfl
@[simp] theorem State.modSc_pgs (f : Sc → Sc) : (s.modSc f).pgs = s.pgs := rfl
@[simp] theorem State.modSc_before (f : Sc → Sc) : (s.modSc f).before = s.before := rfl
@[simp] theorem State.modSc_inputs (f : Sc → Sc) : (s.modSc f).inputs = s.inputs := rfl
@[simp] theorem State.modSc_gls (f : Sc → Sc) : (s.modSc f).gls = s.gls := rfl
@[simp] theorem State.modSc_tms (f : Sc → Sc) : (s.modSc f).tms = s.tms := rfl
@[simp] theorem State.modSc_tcs (f : Sc → Sc) : (s.modSc f).tcs = s.tcs := rfl
@[simp] theorem State.modSc_rss (f : Sc → Sc) : (s.modSc f).rss = s.rss := rfl
@[simp] theorem State.modSc_qds (f : Sc → Sc) : (s.modSc f).qds = s.qds := rfl
@[simp] theorem State.modSc_hls (f : Sc → Sc) : (s.modSc f).hls = s.hls := rfl
@[simp] theorem State.modSc_dc (f : Sc → Sc) : (s.modSc f).dc = s.dc := rfl
@[simp] theorem State.modSc_ch (f : Sc → Sc) : (s.modSc f).ch = s.ch := rfl
@[simp] theorem State.modSc_acs (f : Sc → Sc) : (s.modSc f).acs = s.acs := rfl
@[simp] theorem State.modSc_sumpActOff (f : Sc → Sc) : (s.modSc f).sumpActOff = s.sumpActOff := rfl
@[simp] theorem State.modSc_ovSince (f : Sc → Sc) : (s.modSc f).ovSince = s.ovSince := rfl
@[simp] theorem State.modSc_sc (f : Sc → Sc) : (s.modSc f).sc = f s.sc := rfl
@[simp] theorem State.modSc_sf (f : Sc → Sc) : (s.modSc f).sf = s.sf := rfl
@[simp] theorem State.modSc_rails (f : Sc → Sc) : (s.modSc f).rails = s.rails := rfl
@[simp] theorem State.modSc_cans (f : Sc → Sc) : (s.modSc f).cans = s.cans := rfl
@[simp] theorem State.modSc_al (f : Sc → Sc) : (s.modSc f).al = s.al := rfl
@[simp] theorem State.modSc_trPost (f : Sc → Sc) : (s.modSc f).trPost = s.trPost := rfl
@[simp] theorem State.modSc_unlockEnd (f : Sc → Sc) : (s.modSc f).unlockEnd = s.unlockEnd := rfl
@[simp] theorem State.modSc_lt (f : Sc → Sc) : (s.modSc f).lt = s.lt := rfl
@[simp] theorem State.modSc_scrubAt (f : Sc → Sc) : (s.modSc f).scrubAt = s.scrubAt := rfl
@[simp] theorem State.modSc_lerrOpen (f : Sc → Sc) : (s.modSc f).lerrOpen = s.lerrOpen := rfl
@[simp] theorem State.modSc_spOut (f : Sc → Sc) : (s.modSc f).spOut = s.spOut := rfl
@[simp] theorem State.modSc_spQueue (f : Sc → Sc) : (s.modSc f).spQueue = s.spQueue := rfl
@[simp] theorem State.modSc_pending (f : Sc → Sc) : (s.modSc f).pending = s.pending := rfl

/-! ### `modSf` -/

@[simp] theorem State.modSf_now (f : Sf → Sf) : (s.modSf f).now = s.now := rfl
@[simp] theorem State.modSf_freeCtr (f : Sf → Sf) : (s.modSf f).freeCtr = s.freeCtr := rfl
@[simp] theorem State.modSf_regs (f : Sf → Sf) : (s.modSf f).regs = s.regs := rfl
@[simp] theorem State.modSf_shadow (f : Sf → Sf) : (s.modSf f).shadow = s.shadow := rfl
@[simp] theorem State.modSf_pllInt (f : Sf → Sf) : (s.modSf f).pllInt = s.pllInt := rfl
@[simp] theorem State.modSf_mem (f : Sf → Sf) : (s.modSf f).mem = s.mem := rfl
@[simp] theorem State.modSf_parBad (f : Sf → Sf) : (s.modSf f).parBad = s.parBad := rfl
@[simp] theorem State.modSf_wbacks (f : Sf → Sf) : (s.modSf f).wbacks = s.wbacks := rfl
@[simp] theorem State.modSf_wbBy (f : Sf → Sf) : (s.modSf f).wbBy = s.wbBy := rfl
@[simp] theorem State.modSf_lastWb (f : Sf → Sf) : (s.modSf f).lastWb = s.lastWb := rfl
@[simp] theorem State.modSf_commits (f : Sf → Sf) : (s.modSf f).commits = s.commits := rfl
@[simp] theorem State.modSf_raised (f : Sf → Sf) : (s.modSf f).raised = s.raised := rfl
@[simp] theorem State.modSf_fifo (f : Sf → Sf) : (s.modSf f).fifo = s.fifo := rfl
@[simp] theorem State.modSf_fifoLoss (f : Sf → Sf) : (s.modSf f).fifoLoss = s.fifoLoss := rfl
@[simp] theorem State.modSf_logHalf (f : Sf → Sf) : (s.modSf f).logHalf = s.logHalf := rfl
@[simp] theorem State.modSf_logNext (f : Sf → Sf) : (s.modSf f).logNext = s.logNext := rfl
@[simp] theorem State.modSf_undecided (f : Sf → Sf) : (s.modSf f).undecided = s.undecided := rfl
@[simp] theorem State.modSf_hwSets (f : Sf → Sf) : (s.modSf f).hwSets = s.hwSets := rfl
@[simp] theorem State.modSf_reseeks (f : Sf → Sf) : (s.modSf f).reseeks = s.reseeks := rfl
@[simp] theorem State.modSf_jumped (f : Sf → Sf) : (s.modSf f).jumped = s.jumped := rfl
@[simp] theorem State.modSf_turned (f : Sf → Sf) : (s.modSf f).turned = s.turned := rfl
@[simp] theorem State.modSf_doms (f : Sf → Sf) : (s.modSf f).doms = s.doms := rfl
@[simp] theorem State.modSf_trks (f : Sf → Sf) : (s.modSf f).trks = s.trks := rfl
@[simp] theorem State.modSf_fireAt (f : Sf → Sf) : (s.modSf f).fireAt = s.fireAt := rfl
@[simp] theorem State.modSf_fired (f : Sf → Sf) : (s.modSf f).fired = s.fired := rfl
@[simp] theorem State.modSf_marks (f : Sf → Sf) : (s.modSf f).marks = s.marks := rfl
@[simp] theorem State.modSf_adcs (f : Sf → Sf) : (s.modSf f).adcs = s.adcs := rfl
@[simp] theorem State.modSf_xcRun (f : Sf → Sf) : (s.modSf f).xcRun = s.xcRun := rfl
@[simp] theorem State.modSf_fits (f : Sf → Sf) : (s.modSf f).fits = s.fits := rfl
@[simp] theorem State.modSf_lanes (f : Sf → Sf) : (s.modSf f).lanes = s.lanes := rfl
@[simp] theorem State.modSf_ctxRuns (f : Sf → Sf) : (s.modSf f).ctxRuns = s.ctxRuns := rfl
@[simp] theorem State.modSf_profs (f : Sf → Sf) : (s.modSf f).profs = s.profs := rfl
@[simp] theorem State.modSf_gqs (f : Sf → Sf) : (s.modSf f).gqs = s.gqs := rfl
@[simp] theorem State.modSf_cmps (f : Sf → Sf) : (s.modSf f).cmps = s.cmps := rfl
@[simp] theorem State.modSf_shorts (f : Sf → Sf) : (s.modSf f).shorts = s.shorts := rfl
@[simp] theorem State.modSf_ovRel (f : Sf → Sf) : (s.modSf f).ovRel = s.ovRel := rfl
@[simp] theorem State.modSf_pgs (f : Sf → Sf) : (s.modSf f).pgs = s.pgs := rfl
@[simp] theorem State.modSf_before (f : Sf → Sf) : (s.modSf f).before = s.before := rfl
@[simp] theorem State.modSf_inputs (f : Sf → Sf) : (s.modSf f).inputs = s.inputs := rfl
@[simp] theorem State.modSf_gls (f : Sf → Sf) : (s.modSf f).gls = s.gls := rfl
@[simp] theorem State.modSf_tms (f : Sf → Sf) : (s.modSf f).tms = s.tms := rfl
@[simp] theorem State.modSf_tcs (f : Sf → Sf) : (s.modSf f).tcs = s.tcs := rfl
@[simp] theorem State.modSf_rss (f : Sf → Sf) : (s.modSf f).rss = s.rss := rfl
@[simp] theorem State.modSf_qds (f : Sf → Sf) : (s.modSf f).qds = s.qds := rfl
@[simp] theorem State.modSf_hls (f : Sf → Sf) : (s.modSf f).hls = s.hls := rfl
@[simp] theorem State.modSf_dc (f : Sf → Sf) : (s.modSf f).dc = s.dc := rfl
@[simp] theorem State.modSf_ch (f : Sf → Sf) : (s.modSf f).ch = s.ch := rfl
@[simp] theorem State.modSf_acs (f : Sf → Sf) : (s.modSf f).acs = s.acs := rfl
@[simp] theorem State.modSf_sumpActOff (f : Sf → Sf) : (s.modSf f).sumpActOff = s.sumpActOff := rfl
@[simp] theorem State.modSf_ovSince (f : Sf → Sf) : (s.modSf f).ovSince = s.ovSince := rfl
@[simp] theorem State.modSf_sc (f : Sf → Sf) : (s.modSf f).sc = s.sc := rfl
@[simp] theorem State.modSf_sf (f : Sf → Sf) : (s.modSf f).sf = f s.sf := rfl
@[simp] theorem State.modSf_rails (f : Sf → Sf) : (s.modSf f).rails = s.rails := rfl
@[simp] theorem State.modSf_cans (f : Sf → Sf) : (s.modSf f).cans = s.cans := rfl
@[simp] theorem State.modSf_al (f : Sf → Sf) : (s.modSf f).al = s.al := rfl
@[simp] theorem State.modSf_trPost (f : Sf → Sf) : (s.modSf f).trPost = s.trPost := rfl
@[simp] theorem State.modSf_unlockEnd (f : Sf → Sf) : (s.modSf f).unlockEnd = s.unlockEnd := rfl
@[simp] theorem State.modSf_lt (f : Sf → Sf) : (s.modSf f).lt = s.lt := rfl
@[simp] theorem State.modSf_scrubAt (f : Sf → Sf) : (s.modSf f).scrubAt = s.scrubAt := rfl
@[simp] theorem State.modSf_lerrOpen (f : Sf → Sf) : (s.modSf f).lerrOpen = s.lerrOpen := rfl
@[simp] theorem State.modSf_spOut (f : Sf → Sf) : (s.modSf f).spOut = s.spOut := rfl
@[simp] theorem State.modSf_spQueue (f : Sf → Sf) : (s.modSf f).spQueue = s.spQueue := rfl
@[simp] theorem State.modSf_pending (f : Sf → Sf) : (s.modSf f).pending = s.pending := rfl

/-! ### `modLt` -/

@[simp] theorem State.modLt_now (f : Lt → Lt) : (s.modLt f).now = s.now := rfl
@[simp] theorem State.modLt_freeCtr (f : Lt → Lt) : (s.modLt f).freeCtr = s.freeCtr := rfl
@[simp] theorem State.modLt_regs (f : Lt → Lt) : (s.modLt f).regs = s.regs := rfl
@[simp] theorem State.modLt_shadow (f : Lt → Lt) : (s.modLt f).shadow = s.shadow := rfl
@[simp] theorem State.modLt_pllInt (f : Lt → Lt) : (s.modLt f).pllInt = s.pllInt := rfl
@[simp] theorem State.modLt_mem (f : Lt → Lt) : (s.modLt f).mem = s.mem := rfl
@[simp] theorem State.modLt_parBad (f : Lt → Lt) : (s.modLt f).parBad = s.parBad := rfl
@[simp] theorem State.modLt_wbacks (f : Lt → Lt) : (s.modLt f).wbacks = s.wbacks := rfl
@[simp] theorem State.modLt_wbBy (f : Lt → Lt) : (s.modLt f).wbBy = s.wbBy := rfl
@[simp] theorem State.modLt_lastWb (f : Lt → Lt) : (s.modLt f).lastWb = s.lastWb := rfl
@[simp] theorem State.modLt_commits (f : Lt → Lt) : (s.modLt f).commits = s.commits := rfl
@[simp] theorem State.modLt_raised (f : Lt → Lt) : (s.modLt f).raised = s.raised := rfl
@[simp] theorem State.modLt_fifo (f : Lt → Lt) : (s.modLt f).fifo = s.fifo := rfl
@[simp] theorem State.modLt_fifoLoss (f : Lt → Lt) : (s.modLt f).fifoLoss = s.fifoLoss := rfl
@[simp] theorem State.modLt_logHalf (f : Lt → Lt) : (s.modLt f).logHalf = s.logHalf := rfl
@[simp] theorem State.modLt_logNext (f : Lt → Lt) : (s.modLt f).logNext = s.logNext := rfl
@[simp] theorem State.modLt_undecided (f : Lt → Lt) : (s.modLt f).undecided = s.undecided := rfl
@[simp] theorem State.modLt_hwSets (f : Lt → Lt) : (s.modLt f).hwSets = s.hwSets := rfl
@[simp] theorem State.modLt_reseeks (f : Lt → Lt) : (s.modLt f).reseeks = s.reseeks := rfl
@[simp] theorem State.modLt_jumped (f : Lt → Lt) : (s.modLt f).jumped = s.jumped := rfl
@[simp] theorem State.modLt_turned (f : Lt → Lt) : (s.modLt f).turned = s.turned := rfl
@[simp] theorem State.modLt_doms (f : Lt → Lt) : (s.modLt f).doms = s.doms := rfl
@[simp] theorem State.modLt_trks (f : Lt → Lt) : (s.modLt f).trks = s.trks := rfl
@[simp] theorem State.modLt_fireAt (f : Lt → Lt) : (s.modLt f).fireAt = s.fireAt := rfl
@[simp] theorem State.modLt_fired (f : Lt → Lt) : (s.modLt f).fired = s.fired := rfl
@[simp] theorem State.modLt_marks (f : Lt → Lt) : (s.modLt f).marks = s.marks := rfl
@[simp] theorem State.modLt_adcs (f : Lt → Lt) : (s.modLt f).adcs = s.adcs := rfl
@[simp] theorem State.modLt_xcRun (f : Lt → Lt) : (s.modLt f).xcRun = s.xcRun := rfl
@[simp] theorem State.modLt_fits (f : Lt → Lt) : (s.modLt f).fits = s.fits := rfl
@[simp] theorem State.modLt_lanes (f : Lt → Lt) : (s.modLt f).lanes = s.lanes := rfl
@[simp] theorem State.modLt_ctxRuns (f : Lt → Lt) : (s.modLt f).ctxRuns = s.ctxRuns := rfl
@[simp] theorem State.modLt_profs (f : Lt → Lt) : (s.modLt f).profs = s.profs := rfl
@[simp] theorem State.modLt_gqs (f : Lt → Lt) : (s.modLt f).gqs = s.gqs := rfl
@[simp] theorem State.modLt_cmps (f : Lt → Lt) : (s.modLt f).cmps = s.cmps := rfl
@[simp] theorem State.modLt_shorts (f : Lt → Lt) : (s.modLt f).shorts = s.shorts := rfl
@[simp] theorem State.modLt_ovRel (f : Lt → Lt) : (s.modLt f).ovRel = s.ovRel := rfl
@[simp] theorem State.modLt_pgs (f : Lt → Lt) : (s.modLt f).pgs = s.pgs := rfl
@[simp] theorem State.modLt_before (f : Lt → Lt) : (s.modLt f).before = s.before := rfl
@[simp] theorem State.modLt_inputs (f : Lt → Lt) : (s.modLt f).inputs = s.inputs := rfl
@[simp] theorem State.modLt_gls (f : Lt → Lt) : (s.modLt f).gls = s.gls := rfl
@[simp] theorem State.modLt_tms (f : Lt → Lt) : (s.modLt f).tms = s.tms := rfl
@[simp] theorem State.modLt_tcs (f : Lt → Lt) : (s.modLt f).tcs = s.tcs := rfl
@[simp] theorem State.modLt_rss (f : Lt → Lt) : (s.modLt f).rss = s.rss := rfl
@[simp] theorem State.modLt_qds (f : Lt → Lt) : (s.modLt f).qds = s.qds := rfl
@[simp] theorem State.modLt_hls (f : Lt → Lt) : (s.modLt f).hls = s.hls := rfl
@[simp] theorem State.modLt_dc (f : Lt → Lt) : (s.modLt f).dc = s.dc := rfl
@[simp] theorem State.modLt_ch (f : Lt → Lt) : (s.modLt f).ch = s.ch := rfl
@[simp] theorem State.modLt_acs (f : Lt → Lt) : (s.modLt f).acs = s.acs := rfl
@[simp] theorem State.modLt_sumpActOff (f : Lt → Lt) : (s.modLt f).sumpActOff = s.sumpActOff := rfl
@[simp] theorem State.modLt_ovSince (f : Lt → Lt) : (s.modLt f).ovSince = s.ovSince := rfl
@[simp] theorem State.modLt_sc (f : Lt → Lt) : (s.modLt f).sc = s.sc := rfl
@[simp] theorem State.modLt_sf (f : Lt → Lt) : (s.modLt f).sf = s.sf := rfl
@[simp] theorem State.modLt_rails (f : Lt → Lt) : (s.modLt f).rails = s.rails := rfl
@[simp] theorem State.modLt_cans (f : Lt → Lt) : (s.modLt f).cans = s.cans := rfl
@[simp] theorem State.modLt_al (f : Lt → Lt) : (s.modLt f).al = s.al := rfl
@[simp] theorem State.modLt_trPost (f : Lt → Lt) : (s.modLt f).trPost = s.trPost := rfl
@[simp] theorem State.modLt_unlockEnd (f : Lt → Lt) : (s.modLt f).unlockEnd = s.unlockEnd := rfl
@[simp] theorem State.modLt_lt (f : Lt → Lt) : (s.modLt f).lt = f s.lt := rfl
@[simp] theorem State.modLt_scrubAt (f : Lt → Lt) : (s.modLt f).scrubAt = s.scrubAt := rfl
@[simp] theorem State.modLt_lerrOpen (f : Lt → Lt) : (s.modLt f).lerrOpen = s.lerrOpen := rfl
@[simp] theorem State.modLt_spOut (f : Lt → Lt) : (s.modLt f).spOut = s.spOut := rfl
@[simp] theorem State.modLt_spQueue (f : Lt → Lt) : (s.modLt f).spQueue = s.spQueue := rfl
@[simp] theorem State.modLt_pending (f : Lt → Lt) : (s.modLt f).pending = s.pending := rfl

/-! ### `modCan` -/

@[simp] theorem State.modCan_now (k : Nat) (f : Can → Can) : (s.modCan k f).now = s.now := rfl
@[simp] theorem State.modCan_freeCtr (k : Nat) (f : Can → Can) : (s.modCan k f).freeCtr = s.freeCtr := rfl
@[simp] theorem State.modCan_regs (k : Nat) (f : Can → Can) : (s.modCan k f).regs = s.regs := rfl
@[simp] theorem State.modCan_shadow (k : Nat) (f : Can → Can) : (s.modCan k f).shadow = s.shadow := rfl
@[simp] theorem State.modCan_pllInt (k : Nat) (f : Can → Can) : (s.modCan k f).pllInt = s.pllInt := rfl
@[simp] theorem State.modCan_mem (k : Nat) (f : Can → Can) : (s.modCan k f).mem = s.mem := rfl
@[simp] theorem State.modCan_parBad (k : Nat) (f : Can → Can) : (s.modCan k f).parBad = s.parBad := rfl
@[simp] theorem State.modCan_wbacks (k : Nat) (f : Can → Can) : (s.modCan k f).wbacks = s.wbacks := rfl
@[simp] theorem State.modCan_wbBy (k : Nat) (f : Can → Can) : (s.modCan k f).wbBy = s.wbBy := rfl
@[simp] theorem State.modCan_lastWb (k : Nat) (f : Can → Can) : (s.modCan k f).lastWb = s.lastWb := rfl
@[simp] theorem State.modCan_commits (k : Nat) (f : Can → Can) : (s.modCan k f).commits = s.commits := rfl
@[simp] theorem State.modCan_raised (k : Nat) (f : Can → Can) : (s.modCan k f).raised = s.raised := rfl
@[simp] theorem State.modCan_fifo (k : Nat) (f : Can → Can) : (s.modCan k f).fifo = s.fifo := rfl
@[simp] theorem State.modCan_fifoLoss (k : Nat) (f : Can → Can) : (s.modCan k f).fifoLoss = s.fifoLoss := rfl
@[simp] theorem State.modCan_logHalf (k : Nat) (f : Can → Can) : (s.modCan k f).logHalf = s.logHalf := rfl
@[simp] theorem State.modCan_logNext (k : Nat) (f : Can → Can) : (s.modCan k f).logNext = s.logNext := rfl
@[simp] theorem State.modCan_undecided (k : Nat) (f : Can → Can) : (s.modCan k f).undecided = s.undecided := rfl
@[simp] theorem State.modCan_hwSets (k : Nat) (f : Can → Can) : (s.modCan k f).hwSets = s.hwSets := rfl
@[simp] theorem State.modCan_reseeks (k : Nat) (f : Can → Can) : (s.modCan k f).reseeks = s.reseeks := rfl
@[simp] theorem State.modCan_jumped (k : Nat) (f : Can → Can) : (s.modCan k f).jumped = s.jumped := rfl
@[simp] theorem State.modCan_turned (k : Nat) (f : Can → Can) : (s.modCan k f).turned = s.turned := rfl
@[simp] theorem State.modCan_doms (k : Nat) (f : Can → Can) : (s.modCan k f).doms = s.doms := rfl
@[simp] theorem State.modCan_trks (k : Nat) (f : Can → Can) : (s.modCan k f).trks = s.trks := rfl
@[simp] theorem State.modCan_fireAt (k : Nat) (f : Can → Can) : (s.modCan k f).fireAt = s.fireAt := rfl
@[simp] theorem State.modCan_fired (k : Nat) (f : Can → Can) : (s.modCan k f).fired = s.fired := rfl
@[simp] theorem State.modCan_marks (k : Nat) (f : Can → Can) : (s.modCan k f).marks = s.marks := rfl
@[simp] theorem State.modCan_adcs (k : Nat) (f : Can → Can) : (s.modCan k f).adcs = s.adcs := rfl
@[simp] theorem State.modCan_xcRun (k : Nat) (f : Can → Can) : (s.modCan k f).xcRun = s.xcRun := rfl
@[simp] theorem State.modCan_fits (k : Nat) (f : Can → Can) : (s.modCan k f).fits = s.fits := rfl
@[simp] theorem State.modCan_lanes (k : Nat) (f : Can → Can) : (s.modCan k f).lanes = s.lanes := rfl
@[simp] theorem State.modCan_ctxRuns (k : Nat) (f : Can → Can) : (s.modCan k f).ctxRuns = s.ctxRuns := rfl
@[simp] theorem State.modCan_profs (k : Nat) (f : Can → Can) : (s.modCan k f).profs = s.profs := rfl
@[simp] theorem State.modCan_gqs (k : Nat) (f : Can → Can) : (s.modCan k f).gqs = s.gqs := rfl
@[simp] theorem State.modCan_cmps (k : Nat) (f : Can → Can) : (s.modCan k f).cmps = s.cmps := rfl
@[simp] theorem State.modCan_shorts (k : Nat) (f : Can → Can) : (s.modCan k f).shorts = s.shorts := rfl
@[simp] theorem State.modCan_ovRel (k : Nat) (f : Can → Can) : (s.modCan k f).ovRel = s.ovRel := rfl
@[simp] theorem State.modCan_pgs (k : Nat) (f : Can → Can) : (s.modCan k f).pgs = s.pgs := rfl
@[simp] theorem State.modCan_before (k : Nat) (f : Can → Can) : (s.modCan k f).before = s.before := rfl
@[simp] theorem State.modCan_inputs (k : Nat) (f : Can → Can) : (s.modCan k f).inputs = s.inputs := rfl
@[simp] theorem State.modCan_gls (k : Nat) (f : Can → Can) : (s.modCan k f).gls = s.gls := rfl
@[simp] theorem State.modCan_tms (k : Nat) (f : Can → Can) : (s.modCan k f).tms = s.tms := rfl
@[simp] theorem State.modCan_tcs (k : Nat) (f : Can → Can) : (s.modCan k f).tcs = s.tcs := rfl
@[simp] theorem State.modCan_rss (k : Nat) (f : Can → Can) : (s.modCan k f).rss = s.rss := rfl
@[simp] theorem State.modCan_qds (k : Nat) (f : Can → Can) : (s.modCan k f).qds = s.qds := rfl
@[simp] theorem State.modCan_hls (k : Nat) (f : Can → Can) : (s.modCan k f).hls = s.hls := rfl
@[simp] theorem State.modCan_dc (k : Nat) (f : Can → Can) : (s.modCan k f).dc = s.dc := rfl
@[simp] theorem State.modCan_ch (k : Nat) (f : Can → Can) : (s.modCan k f).ch = s.ch := rfl
@[simp] theorem State.modCan_acs (k : Nat) (f : Can → Can) : (s.modCan k f).acs = s.acs := rfl
@[simp] theorem State.modCan_sumpActOff (k : Nat) (f : Can → Can) : (s.modCan k f).sumpActOff = s.sumpActOff := rfl
@[simp] theorem State.modCan_ovSince (k : Nat) (f : Can → Can) : (s.modCan k f).ovSince = s.ovSince := rfl
@[simp] theorem State.modCan_sc (k : Nat) (f : Can → Can) : (s.modCan k f).sc = s.sc := rfl
@[simp] theorem State.modCan_sf (k : Nat) (f : Can → Can) : (s.modCan k f).sf = s.sf := rfl
@[simp] theorem State.modCan_rails (k : Nat) (f : Can → Can) : (s.modCan k f).rails = s.rails := rfl
@[simp] theorem State.modCan_cans (k : Nat) (f : Can → Can) : (s.modCan k f).cans = vmod s.cans k f := rfl
@[simp] theorem State.modCan_al (k : Nat) (f : Can → Can) : (s.modCan k f).al = s.al := rfl
@[simp] theorem State.modCan_trPost (k : Nat) (f : Can → Can) : (s.modCan k f).trPost = s.trPost := rfl
@[simp] theorem State.modCan_unlockEnd (k : Nat) (f : Can → Can) : (s.modCan k f).unlockEnd = s.unlockEnd := rfl
@[simp] theorem State.modCan_lt (k : Nat) (f : Can → Can) : (s.modCan k f).lt = s.lt := rfl
@[simp] theorem State.modCan_scrubAt (k : Nat) (f : Can → Can) : (s.modCan k f).scrubAt = s.scrubAt := rfl
@[simp] theorem State.modCan_lerrOpen (k : Nat) (f : Can → Can) : (s.modCan k f).lerrOpen = s.lerrOpen := rfl
@[simp] theorem State.modCan_spOut (k : Nat) (f : Can → Can) : (s.modCan k f).spOut = s.spOut := rfl
@[simp] theorem State.modCan_spQueue (k : Nat) (f : Can → Can) : (s.modCan k f).spQueue = s.spQueue := rfl
@[simp] theorem State.modCan_pending (k : Nat) (f : Can → Can) : (s.modCan k f).pending = s.pending := rfl

/-! ### `modTm` -/

@[simp] theorem State.modTm_now (m : Nat) (f : Tm → Tm) : (s.modTm m f).now = s.now := rfl
@[simp] theorem State.modTm_freeCtr (m : Nat) (f : Tm → Tm) : (s.modTm m f).freeCtr = s.freeCtr := rfl
@[simp] theorem State.modTm_regs (m : Nat) (f : Tm → Tm) : (s.modTm m f).regs = s.regs := rfl
@[simp] theorem State.modTm_shadow (m : Nat) (f : Tm → Tm) : (s.modTm m f).shadow = s.shadow := rfl
@[simp] theorem State.modTm_pllInt (m : Nat) (f : Tm → Tm) : (s.modTm m f).pllInt = s.pllInt := rfl
@[simp] theorem State.modTm_mem (m : Nat) (f : Tm → Tm) : (s.modTm m f).mem = s.mem := rfl
@[simp] theorem State.modTm_parBad (m : Nat) (f : Tm → Tm) : (s.modTm m f).parBad = s.parBad := rfl
@[simp] theorem State.modTm_wbacks (m : Nat) (f : Tm → Tm) : (s.modTm m f).wbacks = s.wbacks := rfl
@[simp] theorem State.modTm_wbBy (m : Nat) (f : Tm → Tm) : (s.modTm m f).wbBy = s.wbBy := rfl
@[simp] theorem State.modTm_lastWb (m : Nat) (f : Tm → Tm) : (s.modTm m f).lastWb = s.lastWb := rfl
@[simp] theorem State.modTm_commits (m : Nat) (f : Tm → Tm) : (s.modTm m f).commits = s.commits := rfl
@[simp] theorem State.modTm_raised (m : Nat) (f : Tm → Tm) : (s.modTm m f).raised = s.raised := rfl
@[simp] theorem State.modTm_fifo (m : Nat) (f : Tm → Tm) : (s.modTm m f).fifo = s.fifo := rfl
@[simp] theorem State.modTm_fifoLoss (m : Nat) (f : Tm → Tm) : (s.modTm m f).fifoLoss = s.fifoLoss := rfl
@[simp] theorem State.modTm_logHalf (m : Nat) (f : Tm → Tm) : (s.modTm m f).logHalf = s.logHalf := rfl
@[simp] theorem State.modTm_logNext (m : Nat) (f : Tm → Tm) : (s.modTm m f).logNext = s.logNext := rfl
@[simp] theorem State.modTm_undecided (m : Nat) (f : Tm → Tm) : (s.modTm m f).undecided = s.undecided := rfl
@[simp] theorem State.modTm_hwSets (m : Nat) (f : Tm → Tm) : (s.modTm m f).hwSets = s.hwSets := rfl
@[simp] theorem State.modTm_reseeks (m : Nat) (f : Tm → Tm) : (s.modTm m f).reseeks = s.reseeks := rfl
@[simp] theorem State.modTm_jumped (m : Nat) (f : Tm → Tm) : (s.modTm m f).jumped = s.jumped := rfl
@[simp] theorem State.modTm_turned (m : Nat) (f : Tm → Tm) : (s.modTm m f).turned = s.turned := rfl
@[simp] theorem State.modTm_doms (m : Nat) (f : Tm → Tm) : (s.modTm m f).doms = s.doms := rfl
@[simp] theorem State.modTm_trks (m : Nat) (f : Tm → Tm) : (s.modTm m f).trks = s.trks := rfl
@[simp] theorem State.modTm_fireAt (m : Nat) (f : Tm → Tm) : (s.modTm m f).fireAt = s.fireAt := rfl
@[simp] theorem State.modTm_fired (m : Nat) (f : Tm → Tm) : (s.modTm m f).fired = s.fired := rfl
@[simp] theorem State.modTm_marks (m : Nat) (f : Tm → Tm) : (s.modTm m f).marks = s.marks := rfl
@[simp] theorem State.modTm_adcs (m : Nat) (f : Tm → Tm) : (s.modTm m f).adcs = s.adcs := rfl
@[simp] theorem State.modTm_xcRun (m : Nat) (f : Tm → Tm) : (s.modTm m f).xcRun = s.xcRun := rfl
@[simp] theorem State.modTm_fits (m : Nat) (f : Tm → Tm) : (s.modTm m f).fits = s.fits := rfl
@[simp] theorem State.modTm_lanes (m : Nat) (f : Tm → Tm) : (s.modTm m f).lanes = s.lanes := rfl
@[simp] theorem State.modTm_ctxRuns (m : Nat) (f : Tm → Tm) : (s.modTm m f).ctxRuns = s.ctxRuns := rfl
@[simp] theorem State.modTm_profs (m : Nat) (f : Tm → Tm) : (s.modTm m f).profs = s.profs := rfl
@[simp] theorem State.modTm_gqs (m : Nat) (f : Tm → Tm) : (s.modTm m f).gqs = s.gqs := rfl
@[simp] theorem State.modTm_cmps (m : Nat) (f : Tm → Tm) : (s.modTm m f).cmps = s.cmps := rfl
@[simp] theorem State.modTm_shorts (m : Nat) (f : Tm → Tm) : (s.modTm m f).shorts = s.shorts := rfl
@[simp] theorem State.modTm_ovRel (m : Nat) (f : Tm → Tm) : (s.modTm m f).ovRel = s.ovRel := rfl
@[simp] theorem State.modTm_pgs (m : Nat) (f : Tm → Tm) : (s.modTm m f).pgs = s.pgs := rfl
@[simp] theorem State.modTm_before (m : Nat) (f : Tm → Tm) : (s.modTm m f).before = s.before := rfl
@[simp] theorem State.modTm_inputs (m : Nat) (f : Tm → Tm) : (s.modTm m f).inputs = s.inputs := rfl
@[simp] theorem State.modTm_gls (m : Nat) (f : Tm → Tm) : (s.modTm m f).gls = s.gls := rfl
@[simp] theorem State.modTm_tms (m : Nat) (f : Tm → Tm) : (s.modTm m f).tms = vmod s.tms m f := rfl
@[simp] theorem State.modTm_tcs (m : Nat) (f : Tm → Tm) : (s.modTm m f).tcs = s.tcs := rfl
@[simp] theorem State.modTm_rss (m : Nat) (f : Tm → Tm) : (s.modTm m f).rss = s.rss := rfl
@[simp] theorem State.modTm_qds (m : Nat) (f : Tm → Tm) : (s.modTm m f).qds = s.qds := rfl
@[simp] theorem State.modTm_hls (m : Nat) (f : Tm → Tm) : (s.modTm m f).hls = s.hls := rfl
@[simp] theorem State.modTm_dc (m : Nat) (f : Tm → Tm) : (s.modTm m f).dc = s.dc := rfl
@[simp] theorem State.modTm_ch (m : Nat) (f : Tm → Tm) : (s.modTm m f).ch = s.ch := rfl
@[simp] theorem State.modTm_acs (m : Nat) (f : Tm → Tm) : (s.modTm m f).acs = s.acs := rfl
@[simp] theorem State.modTm_sumpActOff (m : Nat) (f : Tm → Tm) : (s.modTm m f).sumpActOff = s.sumpActOff := rfl
@[simp] theorem State.modTm_ovSince (m : Nat) (f : Tm → Tm) : (s.modTm m f).ovSince = s.ovSince := rfl
@[simp] theorem State.modTm_sc (m : Nat) (f : Tm → Tm) : (s.modTm m f).sc = s.sc := rfl
@[simp] theorem State.modTm_sf (m : Nat) (f : Tm → Tm) : (s.modTm m f).sf = s.sf := rfl
@[simp] theorem State.modTm_rails (m : Nat) (f : Tm → Tm) : (s.modTm m f).rails = s.rails := rfl
@[simp] theorem State.modTm_cans (m : Nat) (f : Tm → Tm) : (s.modTm m f).cans = s.cans := rfl
@[simp] theorem State.modTm_al (m : Nat) (f : Tm → Tm) : (s.modTm m f).al = s.al := rfl
@[simp] theorem State.modTm_trPost (m : Nat) (f : Tm → Tm) : (s.modTm m f).trPost = s.trPost := rfl
@[simp] theorem State.modTm_unlockEnd (m : Nat) (f : Tm → Tm) : (s.modTm m f).unlockEnd = s.unlockEnd := rfl
@[simp] theorem State.modTm_lt (m : Nat) (f : Tm → Tm) : (s.modTm m f).lt = s.lt := rfl
@[simp] theorem State.modTm_scrubAt (m : Nat) (f : Tm → Tm) : (s.modTm m f).scrubAt = s.scrubAt := rfl
@[simp] theorem State.modTm_lerrOpen (m : Nat) (f : Tm → Tm) : (s.modTm m f).lerrOpen = s.lerrOpen := rfl
@[simp] theorem State.modTm_spOut (m : Nat) (f : Tm → Tm) : (s.modTm m f).spOut = s.spOut := rfl
@[simp] theorem State.modTm_spQueue (m : Nat) (f : Tm → Tm) : (s.modTm m f).spQueue = s.spQueue := rfl
@[simp] theorem State.modTm_pending (m : Nat) (f : Tm → Tm) : (s.modTm m f).pending = s.pending := rfl

/-! ### `modTc` -/

@[simp] theorem State.modTc_now (t : Nat) (f : Tc → Tc) : (s.modTc t f).now = s.now := rfl
@[simp] theorem State.modTc_freeCtr (t : Nat) (f : Tc → Tc) : (s.modTc t f).freeCtr = s.freeCtr := rfl
@[simp] theorem State.modTc_regs (t : Nat) (f : Tc → Tc) : (s.modTc t f).regs = s.regs := rfl
@[simp] theorem State.modTc_shadow (t : Nat) (f : Tc → Tc) : (s.modTc t f).shadow = s.shadow := rfl
@[simp] theorem State.modTc_pllInt (t : Nat) (f : Tc → Tc) : (s.modTc t f).pllInt = s.pllInt := rfl
@[simp] theorem State.modTc_mem (t : Nat) (f : Tc → Tc) : (s.modTc t f).mem = s.mem := rfl
@[simp] theorem State.modTc_parBad (t : Nat) (f : Tc → Tc) : (s.modTc t f).parBad = s.parBad := rfl
@[simp] theorem State.modTc_wbacks (t : Nat) (f : Tc → Tc) : (s.modTc t f).wbacks = s.wbacks := rfl
@[simp] theorem State.modTc_wbBy (t : Nat) (f : Tc → Tc) : (s.modTc t f).wbBy = s.wbBy := rfl
@[simp] theorem State.modTc_lastWb (t : Nat) (f : Tc → Tc) : (s.modTc t f).lastWb = s.lastWb := rfl
@[simp] theorem State.modTc_commits (t : Nat) (f : Tc → Tc) : (s.modTc t f).commits = s.commits := rfl
@[simp] theorem State.modTc_raised (t : Nat) (f : Tc → Tc) : (s.modTc t f).raised = s.raised := rfl
@[simp] theorem State.modTc_fifo (t : Nat) (f : Tc → Tc) : (s.modTc t f).fifo = s.fifo := rfl
@[simp] theorem State.modTc_fifoLoss (t : Nat) (f : Tc → Tc) : (s.modTc t f).fifoLoss = s.fifoLoss := rfl
@[simp] theorem State.modTc_logHalf (t : Nat) (f : Tc → Tc) : (s.modTc t f).logHalf = s.logHalf := rfl
@[simp] theorem State.modTc_logNext (t : Nat) (f : Tc → Tc) : (s.modTc t f).logNext = s.logNext := rfl
@[simp] theorem State.modTc_undecided (t : Nat) (f : Tc → Tc) : (s.modTc t f).undecided = s.undecided := rfl
@[simp] theorem State.modTc_hwSets (t : Nat) (f : Tc → Tc) : (s.modTc t f).hwSets = s.hwSets := rfl
@[simp] theorem State.modTc_reseeks (t : Nat) (f : Tc → Tc) : (s.modTc t f).reseeks = s.reseeks := rfl
@[simp] theorem State.modTc_jumped (t : Nat) (f : Tc → Tc) : (s.modTc t f).jumped = s.jumped := rfl
@[simp] theorem State.modTc_turned (t : Nat) (f : Tc → Tc) : (s.modTc t f).turned = s.turned := rfl
@[simp] theorem State.modTc_doms (t : Nat) (f : Tc → Tc) : (s.modTc t f).doms = s.doms := rfl
@[simp] theorem State.modTc_trks (t : Nat) (f : Tc → Tc) : (s.modTc t f).trks = s.trks := rfl
@[simp] theorem State.modTc_fireAt (t : Nat) (f : Tc → Tc) : (s.modTc t f).fireAt = s.fireAt := rfl
@[simp] theorem State.modTc_fired (t : Nat) (f : Tc → Tc) : (s.modTc t f).fired = s.fired := rfl
@[simp] theorem State.modTc_marks (t : Nat) (f : Tc → Tc) : (s.modTc t f).marks = s.marks := rfl
@[simp] theorem State.modTc_adcs (t : Nat) (f : Tc → Tc) : (s.modTc t f).adcs = s.adcs := rfl
@[simp] theorem State.modTc_xcRun (t : Nat) (f : Tc → Tc) : (s.modTc t f).xcRun = s.xcRun := rfl
@[simp] theorem State.modTc_fits (t : Nat) (f : Tc → Tc) : (s.modTc t f).fits = s.fits := rfl
@[simp] theorem State.modTc_lanes (t : Nat) (f : Tc → Tc) : (s.modTc t f).lanes = s.lanes := rfl
@[simp] theorem State.modTc_ctxRuns (t : Nat) (f : Tc → Tc) : (s.modTc t f).ctxRuns = s.ctxRuns := rfl
@[simp] theorem State.modTc_profs (t : Nat) (f : Tc → Tc) : (s.modTc t f).profs = s.profs := rfl
@[simp] theorem State.modTc_gqs (t : Nat) (f : Tc → Tc) : (s.modTc t f).gqs = s.gqs := rfl
@[simp] theorem State.modTc_cmps (t : Nat) (f : Tc → Tc) : (s.modTc t f).cmps = s.cmps := rfl
@[simp] theorem State.modTc_shorts (t : Nat) (f : Tc → Tc) : (s.modTc t f).shorts = s.shorts := rfl
@[simp] theorem State.modTc_ovRel (t : Nat) (f : Tc → Tc) : (s.modTc t f).ovRel = s.ovRel := rfl
@[simp] theorem State.modTc_pgs (t : Nat) (f : Tc → Tc) : (s.modTc t f).pgs = s.pgs := rfl
@[simp] theorem State.modTc_before (t : Nat) (f : Tc → Tc) : (s.modTc t f).before = s.before := rfl
@[simp] theorem State.modTc_inputs (t : Nat) (f : Tc → Tc) : (s.modTc t f).inputs = s.inputs := rfl
@[simp] theorem State.modTc_gls (t : Nat) (f : Tc → Tc) : (s.modTc t f).gls = s.gls := rfl
@[simp] theorem State.modTc_tms (t : Nat) (f : Tc → Tc) : (s.modTc t f).tms = s.tms := rfl
@[simp] theorem State.modTc_tcs (t : Nat) (f : Tc → Tc) : (s.modTc t f).tcs = vmod s.tcs t f := rfl
@[simp] theorem State.modTc_rss (t : Nat) (f : Tc → Tc) : (s.modTc t f).rss = s.rss := rfl
@[simp] theorem State.modTc_qds (t : Nat) (f : Tc → Tc) : (s.modTc t f).qds = s.qds := rfl
@[simp] theorem State.modTc_hls (t : Nat) (f : Tc → Tc) : (s.modTc t f).hls = s.hls := rfl
@[simp] theorem State.modTc_dc (t : Nat) (f : Tc → Tc) : (s.modTc t f).dc = s.dc := rfl
@[simp] theorem State.modTc_ch (t : Nat) (f : Tc → Tc) : (s.modTc t f).ch = s.ch := rfl
@[simp] theorem State.modTc_acs (t : Nat) (f : Tc → Tc) : (s.modTc t f).acs = s.acs := rfl
@[simp] theorem State.modTc_sumpActOff (t : Nat) (f : Tc → Tc) : (s.modTc t f).sumpActOff = s.sumpActOff := rfl
@[simp] theorem State.modTc_ovSince (t : Nat) (f : Tc → Tc) : (s.modTc t f).ovSince = s.ovSince := rfl
@[simp] theorem State.modTc_sc (t : Nat) (f : Tc → Tc) : (s.modTc t f).sc = s.sc := rfl
@[simp] theorem State.modTc_sf (t : Nat) (f : Tc → Tc) : (s.modTc t f).sf = s.sf := rfl
@[simp] theorem State.modTc_rails (t : Nat) (f : Tc → Tc) : (s.modTc t f).rails = s.rails := rfl
@[simp] theorem State.modTc_cans (t : Nat) (f : Tc → Tc) : (s.modTc t f).cans = s.cans := rfl
@[simp] theorem State.modTc_al (t : Nat) (f : Tc → Tc) : (s.modTc t f).al = s.al := rfl
@[simp] theorem State.modTc_trPost (t : Nat) (f : Tc → Tc) : (s.modTc t f).trPost = s.trPost := rfl
@[simp] theorem State.modTc_unlockEnd (t : Nat) (f : Tc → Tc) : (s.modTc t f).unlockEnd = s.unlockEnd := rfl
@[simp] theorem State.modTc_lt (t : Nat) (f : Tc → Tc) : (s.modTc t f).lt = s.lt := rfl
@[simp] theorem State.modTc_scrubAt (t : Nat) (f : Tc → Tc) : (s.modTc t f).scrubAt = s.scrubAt := rfl
@[simp] theorem State.modTc_lerrOpen (t : Nat) (f : Tc → Tc) : (s.modTc t f).lerrOpen = s.lerrOpen := rfl
@[simp] theorem State.modTc_spOut (t : Nat) (f : Tc → Tc) : (s.modTc t f).spOut = s.spOut := rfl
@[simp] theorem State.modTc_spQueue (t : Nat) (f : Tc → Tc) : (s.modTc t f).spQueue = s.spQueue := rfl
@[simp] theorem State.modTc_pending (t : Nat) (f : Tc → Tc) : (s.modTc t f).pending = s.pending := rfl

/-! ### `modGl` -/

@[simp] theorem State.modGl_now (n : Nat) (f : GlPort → GlPort) : (s.modGl n f).now = s.now := rfl
@[simp] theorem State.modGl_freeCtr (n : Nat) (f : GlPort → GlPort) : (s.modGl n f).freeCtr = s.freeCtr := rfl
@[simp] theorem State.modGl_regs (n : Nat) (f : GlPort → GlPort) : (s.modGl n f).regs = s.regs := rfl
@[simp] theorem State.modGl_shadow (n : Nat) (f : GlPort → GlPort) : (s.modGl n f).shadow = s.shadow := rfl
@[simp] theorem State.modGl_pllInt (n : Nat) (f : GlPort → GlPort) : (s.modGl n f).pllInt = s.pllInt := rfl
@[simp] theorem State.modGl_mem (n : Nat) (f : GlPort → GlPort) : (s.modGl n f).mem = s.mem := rfl
@[simp] theorem State.modGl_parBad (n : Nat) (f : GlPort → GlPort) : (s.modGl n f).parBad = s.parBad := rfl
@[simp] theorem State.modGl_wbacks (n : Nat) (f : GlPort → GlPort) : (s.modGl n f).wbacks = s.wbacks := rfl
@[simp] theorem State.modGl_wbBy (n : Nat) (f : GlPort → GlPort) : (s.modGl n f).wbBy = s.wbBy := rfl
@[simp] theorem State.modGl_lastWb (n : Nat) (f : GlPort → GlPort) : (s.modGl n f).lastWb = s.lastWb := rfl
@[simp] theorem State.modGl_commits (n : Nat) (f : GlPort → GlPort) : (s.modGl n f).commits = s.commits := rfl
@[simp] theorem State.modGl_raised (n : Nat) (f : GlPort → GlPort) : (s.modGl n f).raised = s.raised := rfl
@[simp] theorem State.modGl_fifo (n : Nat) (f : GlPort → GlPort) : (s.modGl n f).fifo = s.fifo := rfl
@[simp] theorem State.modGl_fifoLoss (n : Nat) (f : GlPort → GlPort) : (s.modGl n f).fifoLoss = s.fifoLoss := rfl
@[simp] theorem State.modGl_logHalf (n : Nat) (f : GlPort → GlPort) : (s.modGl n f).logHalf = s.logHalf := rfl
@[simp] theorem State.modGl_logNext (n : Nat) (f : GlPort → GlPort) : (s.modGl n f).logNext = s.logNext := rfl
@[simp] theorem State.modGl_undecided (n : Nat) (f : GlPort → GlPort) : (s.modGl n f).undecided = s.undecided := rfl
@[simp] theorem State.modGl_hwSets (n : Nat) (f : GlPort → GlPort) : (s.modGl n f).hwSets = s.hwSets := rfl
@[simp] theorem State.modGl_reseeks (n : Nat) (f : GlPort → GlPort) : (s.modGl n f).reseeks = s.reseeks := rfl
@[simp] theorem State.modGl_jumped (n : Nat) (f : GlPort → GlPort) : (s.modGl n f).jumped = s.jumped := rfl
@[simp] theorem State.modGl_turned (n : Nat) (f : GlPort → GlPort) : (s.modGl n f).turned = s.turned := rfl
@[simp] theorem State.modGl_doms (n : Nat) (f : GlPort → GlPort) : (s.modGl n f).doms = s.doms := rfl
@[simp] theorem State.modGl_trks (n : Nat) (f : GlPort → GlPort) : (s.modGl n f).trks = s.trks := rfl
@[simp] theorem State.modGl_fireAt (n : Nat) (f : GlPort → GlPort) : (s.modGl n f).fireAt = s.fireAt := rfl
@[simp] theorem State.modGl_fired (n : Nat) (f : GlPort → GlPort) : (s.modGl n f).fired = s.fired := rfl
@[simp] theorem State.modGl_marks (n : Nat) (f : GlPort → GlPort) : (s.modGl n f).marks = s.marks := rfl
@[simp] theorem State.modGl_adcs (n : Nat) (f : GlPort → GlPort) : (s.modGl n f).adcs = s.adcs := rfl
@[simp] theorem State.modGl_xcRun (n : Nat) (f : GlPort → GlPort) : (s.modGl n f).xcRun = s.xcRun := rfl
@[simp] theorem State.modGl_fits (n : Nat) (f : GlPort → GlPort) : (s.modGl n f).fits = s.fits := rfl
@[simp] theorem State.modGl_lanes (n : Nat) (f : GlPort → GlPort) : (s.modGl n f).lanes = s.lanes := rfl
@[simp] theorem State.modGl_ctxRuns (n : Nat) (f : GlPort → GlPort) : (s.modGl n f).ctxRuns = s.ctxRuns := rfl
@[simp] theorem State.modGl_profs (n : Nat) (f : GlPort → GlPort) : (s.modGl n f).profs = s.profs := rfl
@[simp] theorem State.modGl_gqs (n : Nat) (f : GlPort → GlPort) : (s.modGl n f).gqs = s.gqs := rfl
@[simp] theorem State.modGl_cmps (n : Nat) (f : GlPort → GlPort) : (s.modGl n f).cmps = s.cmps := rfl
@[simp] theorem State.modGl_shorts (n : Nat) (f : GlPort → GlPort) : (s.modGl n f).shorts = s.shorts := rfl
@[simp] theorem State.modGl_ovRel (n : Nat) (f : GlPort → GlPort) : (s.modGl n f).ovRel = s.ovRel := rfl
@[simp] theorem State.modGl_pgs (n : Nat) (f : GlPort → GlPort) : (s.modGl n f).pgs = s.pgs := rfl
@[simp] theorem State.modGl_before (n : Nat) (f : GlPort → GlPort) : (s.modGl n f).before = s.before := rfl
@[simp] theorem State.modGl_inputs (n : Nat) (f : GlPort → GlPort) : (s.modGl n f).inputs = s.inputs := rfl
@[simp] theorem State.modGl_gls (n : Nat) (f : GlPort → GlPort) : (s.modGl n f).gls = vmod s.gls n f := rfl
@[simp] theorem State.modGl_tms (n : Nat) (f : GlPort → GlPort) : (s.modGl n f).tms = s.tms := rfl
@[simp] theorem State.modGl_tcs (n : Nat) (f : GlPort → GlPort) : (s.modGl n f).tcs = s.tcs := rfl
@[simp] theorem State.modGl_rss (n : Nat) (f : GlPort → GlPort) : (s.modGl n f).rss = s.rss := rfl
@[simp] theorem State.modGl_qds (n : Nat) (f : GlPort → GlPort) : (s.modGl n f).qds = s.qds := rfl
@[simp] theorem State.modGl_hls (n : Nat) (f : GlPort → GlPort) : (s.modGl n f).hls = s.hls := rfl
@[simp] theorem State.modGl_dc (n : Nat) (f : GlPort → GlPort) : (s.modGl n f).dc = s.dc := rfl
@[simp] theorem State.modGl_ch (n : Nat) (f : GlPort → GlPort) : (s.modGl n f).ch = s.ch := rfl
@[simp] theorem State.modGl_acs (n : Nat) (f : GlPort → GlPort) : (s.modGl n f).acs = s.acs := rfl
@[simp] theorem State.modGl_sumpActOff (n : Nat) (f : GlPort → GlPort) : (s.modGl n f).sumpActOff = s.sumpActOff := rfl
@[simp] theorem State.modGl_ovSince (n : Nat) (f : GlPort → GlPort) : (s.modGl n f).ovSince = s.ovSince := rfl
@[simp] theorem State.modGl_sc (n : Nat) (f : GlPort → GlPort) : (s.modGl n f).sc = s.sc := rfl
@[simp] theorem State.modGl_sf (n : Nat) (f : GlPort → GlPort) : (s.modGl n f).sf = s.sf := rfl
@[simp] theorem State.modGl_rails (n : Nat) (f : GlPort → GlPort) : (s.modGl n f).rails = s.rails := rfl
@[simp] theorem State.modGl_cans (n : Nat) (f : GlPort → GlPort) : (s.modGl n f).cans = s.cans := rfl
@[simp] theorem State.modGl_al (n : Nat) (f : GlPort → GlPort) : (s.modGl n f).al = s.al := rfl
@[simp] theorem State.modGl_trPost (n : Nat) (f : GlPort → GlPort) : (s.modGl n f).trPost = s.trPost := rfl
@[simp] theorem State.modGl_unlockEnd (n : Nat) (f : GlPort → GlPort) : (s.modGl n f).unlockEnd = s.unlockEnd := rfl
@[simp] theorem State.modGl_lt (n : Nat) (f : GlPort → GlPort) : (s.modGl n f).lt = s.lt := rfl
@[simp] theorem State.modGl_scrubAt (n : Nat) (f : GlPort → GlPort) : (s.modGl n f).scrubAt = s.scrubAt := rfl
@[simp] theorem State.modGl_lerrOpen (n : Nat) (f : GlPort → GlPort) : (s.modGl n f).lerrOpen = s.lerrOpen := rfl
@[simp] theorem State.modGl_spOut (n : Nat) (f : GlPort → GlPort) : (s.modGl n f).spOut = s.spOut := rfl
@[simp] theorem State.modGl_spQueue (n : Nat) (f : GlPort → GlPort) : (s.modGl n f).spQueue = s.spQueue := rfl
@[simp] theorem State.modGl_pending (n : Nat) (f : GlPort → GlPort) : (s.modGl n f).pending = s.pending := rfl

/-! ### `modQd` -/

@[simp] theorem State.modQd_now (q : Nat) (f : Qd → Qd) : (s.modQd q f).now = s.now := rfl
@[simp] theorem State.modQd_freeCtr (q : Nat) (f : Qd → Qd) : (s.modQd q f).freeCtr = s.freeCtr := rfl
@[simp] theorem State.modQd_regs (q : Nat) (f : Qd → Qd) : (s.modQd q f).regs = s.regs := rfl
@[simp] theorem State.modQd_shadow (q : Nat) (f : Qd → Qd) : (s.modQd q f).shadow = s.shadow := rfl
@[simp] theorem State.modQd_pllInt (q : Nat) (f : Qd → Qd) : (s.modQd q f).pllInt = s.pllInt := rfl
@[simp] theorem State.modQd_mem (q : Nat) (f : Qd → Qd) : (s.modQd q f).mem = s.mem := rfl
@[simp] theorem State.modQd_parBad (q : Nat) (f : Qd → Qd) : (s.modQd q f).parBad = s.parBad := rfl
@[simp] theorem State.modQd_wbacks (q : Nat) (f : Qd → Qd) : (s.modQd q f).wbacks = s.wbacks := rfl
@[simp] theorem State.modQd_wbBy (q : Nat) (f : Qd → Qd) : (s.modQd q f).wbBy = s.wbBy := rfl
@[simp] theorem State.modQd_lastWb (q : Nat) (f : Qd → Qd) : (s.modQd q f).lastWb = s.lastWb := rfl
@[simp] theorem State.modQd_commits (q : Nat) (f : Qd → Qd) : (s.modQd q f).commits = s.commits := rfl
@[simp] theorem State.modQd_raised (q : Nat) (f : Qd → Qd) : (s.modQd q f).raised = s.raised := rfl
@[simp] theorem State.modQd_fifo (q : Nat) (f : Qd → Qd) : (s.modQd q f).fifo = s.fifo := rfl
@[simp] theorem State.modQd_fifoLoss (q : Nat) (f : Qd → Qd) : (s.modQd q f).fifoLoss = s.fifoLoss := rfl
@[simp] theorem State.modQd_logHalf (q : Nat) (f : Qd → Qd) : (s.modQd q f).logHalf = s.logHalf := rfl
@[simp] theorem State.modQd_logNext (q : Nat) (f : Qd → Qd) : (s.modQd q f).logNext = s.logNext := rfl
@[simp] theorem State.modQd_undecided (q : Nat) (f : Qd → Qd) : (s.modQd q f).undecided = s.undecided := rfl
@[simp] theorem State.modQd_hwSets (q : Nat) (f : Qd → Qd) : (s.modQd q f).hwSets = s.hwSets := rfl
@[simp] theorem State.modQd_reseeks (q : Nat) (f : Qd → Qd) : (s.modQd q f).reseeks = s.reseeks := rfl
@[simp] theorem State.modQd_jumped (q : Nat) (f : Qd → Qd) : (s.modQd q f).jumped = s.jumped := rfl
@[simp] theorem State.modQd_turned (q : Nat) (f : Qd → Qd) : (s.modQd q f).turned = s.turned := rfl
@[simp] theorem State.modQd_doms (q : Nat) (f : Qd → Qd) : (s.modQd q f).doms = s.doms := rfl
@[simp] theorem State.modQd_trks (q : Nat) (f : Qd → Qd) : (s.modQd q f).trks = s.trks := rfl
@[simp] theorem State.modQd_fireAt (q : Nat) (f : Qd → Qd) : (s.modQd q f).fireAt = s.fireAt := rfl
@[simp] theorem State.modQd_fired (q : Nat) (f : Qd → Qd) : (s.modQd q f).fired = s.fired := rfl
@[simp] theorem State.modQd_marks (q : Nat) (f : Qd → Qd) : (s.modQd q f).marks = s.marks := rfl
@[simp] theorem State.modQd_adcs (q : Nat) (f : Qd → Qd) : (s.modQd q f).adcs = s.adcs := rfl
@[simp] theorem State.modQd_xcRun (q : Nat) (f : Qd → Qd) : (s.modQd q f).xcRun = s.xcRun := rfl
@[simp] theorem State.modQd_fits (q : Nat) (f : Qd → Qd) : (s.modQd q f).fits = s.fits := rfl
@[simp] theorem State.modQd_lanes (q : Nat) (f : Qd → Qd) : (s.modQd q f).lanes = s.lanes := rfl
@[simp] theorem State.modQd_ctxRuns (q : Nat) (f : Qd → Qd) : (s.modQd q f).ctxRuns = s.ctxRuns := rfl
@[simp] theorem State.modQd_profs (q : Nat) (f : Qd → Qd) : (s.modQd q f).profs = s.profs := rfl
@[simp] theorem State.modQd_gqs (q : Nat) (f : Qd → Qd) : (s.modQd q f).gqs = s.gqs := rfl
@[simp] theorem State.modQd_cmps (q : Nat) (f : Qd → Qd) : (s.modQd q f).cmps = s.cmps := rfl
@[simp] theorem State.modQd_shorts (q : Nat) (f : Qd → Qd) : (s.modQd q f).shorts = s.shorts := rfl
@[simp] theorem State.modQd_ovRel (q : Nat) (f : Qd → Qd) : (s.modQd q f).ovRel = s.ovRel := rfl
@[simp] theorem State.modQd_pgs (q : Nat) (f : Qd → Qd) : (s.modQd q f).pgs = s.pgs := rfl
@[simp] theorem State.modQd_before (q : Nat) (f : Qd → Qd) : (s.modQd q f).before = s.before := rfl
@[simp] theorem State.modQd_inputs (q : Nat) (f : Qd → Qd) : (s.modQd q f).inputs = s.inputs := rfl
@[simp] theorem State.modQd_gls (q : Nat) (f : Qd → Qd) : (s.modQd q f).gls = s.gls := rfl
@[simp] theorem State.modQd_tms (q : Nat) (f : Qd → Qd) : (s.modQd q f).tms = s.tms := rfl
@[simp] theorem State.modQd_tcs (q : Nat) (f : Qd → Qd) : (s.modQd q f).tcs = s.tcs := rfl
@[simp] theorem State.modQd_rss (q : Nat) (f : Qd → Qd) : (s.modQd q f).rss = s.rss := rfl
@[simp] theorem State.modQd_qds (q : Nat) (f : Qd → Qd) : (s.modQd q f).qds = vmod s.qds q f := rfl
@[simp] theorem State.modQd_hls (q : Nat) (f : Qd → Qd) : (s.modQd q f).hls = s.hls := rfl
@[simp] theorem State.modQd_dc (q : Nat) (f : Qd → Qd) : (s.modQd q f).dc = s.dc := rfl
@[simp] theorem State.modQd_ch (q : Nat) (f : Qd → Qd) : (s.modQd q f).ch = s.ch := rfl
@[simp] theorem State.modQd_acs (q : Nat) (f : Qd → Qd) : (s.modQd q f).acs = s.acs := rfl
@[simp] theorem State.modQd_sumpActOff (q : Nat) (f : Qd → Qd) : (s.modQd q f).sumpActOff = s.sumpActOff := rfl
@[simp] theorem State.modQd_ovSince (q : Nat) (f : Qd → Qd) : (s.modQd q f).ovSince = s.ovSince := rfl
@[simp] theorem State.modQd_sc (q : Nat) (f : Qd → Qd) : (s.modQd q f).sc = s.sc := rfl
@[simp] theorem State.modQd_sf (q : Nat) (f : Qd → Qd) : (s.modQd q f).sf = s.sf := rfl
@[simp] theorem State.modQd_rails (q : Nat) (f : Qd → Qd) : (s.modQd q f).rails = s.rails := rfl
@[simp] theorem State.modQd_cans (q : Nat) (f : Qd → Qd) : (s.modQd q f).cans = s.cans := rfl
@[simp] theorem State.modQd_al (q : Nat) (f : Qd → Qd) : (s.modQd q f).al = s.al := rfl
@[simp] theorem State.modQd_trPost (q : Nat) (f : Qd → Qd) : (s.modQd q f).trPost = s.trPost := rfl
@[simp] theorem State.modQd_unlockEnd (q : Nat) (f : Qd → Qd) : (s.modQd q f).unlockEnd = s.unlockEnd := rfl
@[simp] theorem State.modQd_lt (q : Nat) (f : Qd → Qd) : (s.modQd q f).lt = s.lt := rfl
@[simp] theorem State.modQd_scrubAt (q : Nat) (f : Qd → Qd) : (s.modQd q f).scrubAt = s.scrubAt := rfl
@[simp] theorem State.modQd_lerrOpen (q : Nat) (f : Qd → Qd) : (s.modQd q f).lerrOpen = s.lerrOpen := rfl
@[simp] theorem State.modQd_spOut (q : Nat) (f : Qd → Qd) : (s.modQd q f).spOut = s.spOut := rfl
@[simp] theorem State.modQd_spQueue (q : Nat) (f : Qd → Qd) : (s.modQd q f).spQueue = s.spQueue := rfl
@[simp] theorem State.modQd_pending (q : Nat) (f : Qd → Qd) : (s.modQd q f).pending = s.pending := rfl

/-! ### The updates that are one or two of the above -/

@[simp] theorem State.setFlag_true (f : Fld) : s.setFlag f true = (s.noteHw f fun _ => 1).setFld f 1 := rfl
@[simp] theorem State.setFlag_false (f : Fld) : s.setFlag f false = s.setFld f 0 := rfl
@[simp] theorem State.setBit_true (f : Fld) (i : Nat) :
    s.setBit f i true = (s.noteHw ⟨f.addr, f.lsb + i, 1⟩ fun _ => 1).setFld f (putBits (s.fld f) i 1 1) := rfl
@[simp] theorem State.setBit_false (f : Fld) (i : Nat) : s.setBit f i false = s.setFld f (putBits (s.fld f) i 1 0) := rfl
@[simp] theorem State.addSat_eq (f : Fld) (n : Nat) :
    s.addSat f n = (s.noteHw f fun v => min (v + n) (2 ^ f.width - 1)).setFld f (min (s.fld f + n) (2 ^ f.width - 1)) := rfl
@[simp] theorem State.incSat_eq (f : Fld) : s.incSat f = s.addSat f 1 := rfl
@[simp] theorem State.incMod_eq (f : Fld) : s.incMod f = (s.noteHw f (· + 1)).setFld f (s.fld f + 1) := rfl
@[simp] theorem State.raise_eq (e : Ev.Src) (conv inst : Nat) : s.raise e conv inst = s.raiseL e e.sev e.lvl conv inst := rfl
@[simp] theorem State.noteHw_reg (f : Fld) (u : Nat → Nat) (a : Nat) : (s.noteHw f u).reg a = s.reg a := rfl
@[simp] theorem State.noteHw_fld (f g : Fld) (u : Nat → Nat) : (s.noteHw f u).fld g = s.fld g := rfl

/-! ### What a flag's update changes besides the register -/

theorem State.setFlag_mem (f : Fld) (b : Bool) : (s.setFlag f b).mem = s.mem := by cases b <;> rfl
theorem State.setFlag_raised (f : Fld) (b : Bool) : (s.setFlag f b).raised = s.raised := by cases b <;> rfl
theorem State.setFlag_now (f : Fld) (b : Bool) : (s.setFlag f b).now = s.now := by cases b <;> rfl

end Sys2Proof.Machine
end

