-- ==== Sys2Proof/Laws/Step.lean ====
section
/-! SUPPORT. What a step answers: the forms `run`, `live` and `guarded` of a command, and the two cases of `step`. -/

namespace Sys2Proof.Machine

theorem run_eq (dt : Nat) (s : State) (f : State → State) : run dt s f = .next (f (s.elapse dt)).settle := rfl

theorem live_reset (dt : Nat) (s : State) (f : State → State) (h : s.sys = sysReset) : live dt s f = .next (s.advance dt) := by
  simp [live, h]

theorem live_eq (dt : Nat) (s : State) (f : State → State) (h : s.sys ≠ sysReset) :
    live dt s f = .next (f (s.elapse dt)).settle := by
  simp [live, run, h]

theorem live_when (dt : Nat) (s : State) (c : State → Bool) (f : State → State) (h : s.sys ≠ sysReset)
    (hc : c (s.elapse dt) = true) : live dt s (fun s => s.when (c s) f) = .next (f (s.elapse dt)).settle := by
  rw [live_eq dt s _ h]; simp [State.when, hc]

theorem guarded_wf (i : Instr) (r : Result) (h : i.wf = true) : guarded i r = r := by simp [guarded, h]

theorem guarded_ill (i : Instr) (r : Result) (h : i.wf = false) : guarded i r = .refused .illFormed := by simp [guarded, h]

theorem step_nil (s : State) (h : s.pending = []) : step s = .next (s.elapse 1) := by simp [step, h]

theorem step_cons (s : State) (c : Instr) (rest : List Instr) (h : s.pending = c :: rest) :
    step s = exec c { s with pending := rest } := by simp [step, h]

/-- What ends a step leaves nothing behind that waits for the end of a step, whatever came before. -/
theorem follow_settled (s : State) : s.follow.Settled := ⟨rfl, rfl, rfl⟩

theorem reset_mem_wf : Memory.wf State.reset.mem = true := rfl

end Sys2Proof.Machine
end

