-- ==== Sys2Proof/Tests/Slice0.lean ====
section
/-! SUPPORT. Small checks of the model: operands out of range are refused, worked values of the manual, and for every statement with
hypotheses a concrete state and operands that meet them. -/

set_option Elab.async false

namespace Sys2Proof.Tests

open Sys2Proof Sys2Proof.Machine

/-- The block just after reset in the given operating state. -/
def inState (k : Nat) : State := State.reset.setFld F.SYS_STAT_SYS_STATE k
def ready : State := inState sysReady
/-- The same with one command waiting. -/
def withCommand (s : State) (c : Instr) : State := { s with pending := [c] }
/-- A state with a running Dripline. -/
def running : State := ready.setFlag F.DL_CTRL_RUN true

/-! ### Operands out of range are refused -/

theorem test_wf_pllLock : (Instr.pllLock 0 [] true ⟨0, true, 0, true, true, 0, 0⟩).wf = false ∧
    (Instr.pllLock 0 (List.replicate 72 0) true ⟨0, true, 0, true, true, 64, 0⟩).wf = false := by decide
theorem test_wf_engineSelfTest : (Instr.engineSelfTest 0 [] ⟨true, true⟩).wf = false := by decide
theorem test_wf_proximityEvaluation : (Instr.proximityEvaluation 0 [0]).wf = false := by decide
theorem test_wf_faultLogScan : (Instr.faultLogScan 0 [(1, List.replicate 32 0#8), (1, List.replicate 32 0#8)]).wf = false ∧
    (Instr.faultLogScan 0 [(0, [0#8])]).wf = false := by decide
theorem test_wf_memorySelfTest : (Instr.memorySelfTest 0 (some (0x900000, 0))).wf = false ∧ (Instr.memorySelfTest 0 (some (0x8FFFFF, 3))).wf = true := by
  decide
theorem test_wf_windowSampleResult : (Instr.windowSampleResult 0 0 [0, 0, 0, 65536] 0).wf = false ∧ (Instr.windowSampleResult 0 0 [0, 0, 0] 0).wf = false := by
  decide
theorem test_wf_onceEntryResult : (Instr.onceEntryResult 0 0 [(4, 0)] false).wf = false := by decide
theorem test_wf_estimatorUpdate : (Instr.estimatorUpdate 0 0 (List.replicate 12 2)).wf = false ∧ (Instr.estimatorUpdate 0 0 []).wf = false := by decide
theorem test_wf_frameReceived : (Instr.frameReceived 0 0 false true false false false false 2048 0 []).wf = false ∧
    (Instr.frameReceived 0 0 true true false false false false (2 ^ 29 - 1) 15 (List.replicate 64 0#8)).wf = true := by decide
theorem test_wf_parityWriteBack : (Instr.parityWriteBack 0 0x500000).wf = false ∧ (Instr.parityWriteBack 0 0x100000).wf = true := by decide
theorem test_wf_scrubStep : (Instr.scrubStep 0 [(0x900000, 0#8, true)]).wf = false := by decide
theorem test_wf_spRead : (Instr.spRead 0 0 0 0#8).wf = false ∧ (Instr.spRead 0 32 0xFFFFFF 0#8).wf = true := by decide
theorem test_wf_spReads : (Instr.spReads 0 33 0 0#8).wf = false := by decide
theorem test_wf_spWrite : (Instr.spWrite 0 0 [] 0#8 0#8).wf = false ∧ (Instr.spWrite 0 0x1000000 [0#32] 0#8 0#8).wf = false := by decide
theorem test_wf_registerWrite : (Instr.registerWrite 0 0x1000000 0#32).wf = false := by decide
theorem test_wf_spReservedOpcode : (Instr.spReservedOpcode 0 1 1 0 0#8).wf = false ∧ (Instr.spReservedOpcode 0 7 1 0 0#8).wf = true := by decide

/-- An ill-formed command is refused by name, and the command after it stays in the queue. -/
theorem test_ill_formed_is_refused : exec (.registerWrite 0 0x1000000 0#32) ready = .refused .illFormed := by rfl

/-! ### One step -/

/-- R764: in RESET a command that is no part of the reset sequence leaves the operating state. -/
theorem test_reset_swallows : exec (.trArm 0) State.reset = .next (State.reset.advance 0) :=
  live_reset 0 State.reset (fun s => s.writeOne Reg.TR_CTL 1) rfl

/-- A property of the state that a command leaves. -/
def leaves (r : Host.Outcome State Fault Refusal) (p : State → Bool) : Bool :=
  match r with
  | .next t => p t
  | _ => false

/-- R821: the unlock with the key 0x7E57 for 600 ms. -/
theorem test_spUnlock_granted :
    leaves (exec (.spUnlock 0 0x7E57 600) (ready.setFlag F.SP_CFG_UNLEN true)) (fun t => t.unlocked && t.unlockEnd == 240000000000) = true := by
  decide +kernel

/-- R821: a duration of 0 is not granted. -/
theorem test_spUnlock_zero :
    leaves (exec (.spUnlock 0 0x7E57 0) (ready.setFlag F.SP_CFG_UNLEN true)) (fun t => !t.unlocked) = true := by decide +kernel

/-- R53: a domain at the rate 3 · 2^16 moves its angle word by 3 in each cycle, and wraps. -/
theorem test_advance_wraps :
    (((((ready.setFld (F.AD_STAT_STATE 0) dsLocked).modDom 0 fun x => { x with acc := 0xFFFFFFFF0000#48, rate := 0x30000#48 }).advance
      2).dom 0).acc == 0x50000#48) = true := by decide +kernel

/-- R853: a level that returns before its recognition is not recognised. -/
theorem test_pinLevel_returns :
    ((ready.pinLevel .qd 0 1).pinLevel .qd 0 0).inputs = [] ∧ (ready.pinLevel .qd 0 1).inputs = [⟨.qd, 0, 1, 2⟩] := by decide +kernel

/-- R213: rounding is symmetric about zero. -/
theorem test_rnd_symmetric : rnd 3 1 = 2 ∧ rnd (-3) 1 = -2 ∧ rnd 5 2 = 1 ∧ rnd 6 2 = 2 ∧ rnd (-6) 2 = -2 := by decide

/-- R305: an arc across the wrap of the angle. -/
theorem test_insideArc_wraps : insideArc 0#32 0xFFFFFFF0#32 0x10#32 = true ∧ insideArc 0x10#32 0xFFFFFFF0#32 0x10#32 = false := by decide

/-- R230: the sine at the quarters of a turn. -/
theorem test_sine_quarters : sinA 0#32 = 0 ∧ sinA 0x40000000#32 = 0x7FFFFFFF ∧ sinA 0xC0000000#32 = -0x7FFFFFFF := by decide +kernel

/-! ### Witnesses: for every statement with hypotheses a state and operands that meet them -/

theorem witness_StepRunsFrontCommand : (withCommand ready (.trArm 0)).pending = .trArm 0 :: [] := rfl

theorem witness_EmptyQueueStepIsACycle : State.reset.pending = [] ∧ 0 < 1 ∧ State.reset.endCycle.nextAuto (State.reset.now + 1) = none := by
  decide +kernel

theorem witness_ResetSwallowsCommands : State.reset.sys = sysReset ∧ (Instr.trArm 0).wf = true := by decide +kernel

theorem witness_WellFormedCommandsComplete : (Instr.scrubStep 1 [(0x100000, 0#8, true)]).wf = true ∧ (Instr.scrubStep 1 [(0, 0#8, true)]).wf = false := by
  decide +kernel

/-- A state outside RESET, for the completion statements, and operands in range for the commands that have a range. -/
theorem witness_commands_complete : ready.sys ≠ sysReset ∧
    (Instr.faultLogScan 1 [(0, List.replicate 32 0#8), (5, List.replicate 32 255#8)]).wf = true ∧
    (Instr.memorySelfTest 1 (some (0x100000, 3))).wf = true ∧
    (Instr.windowSampleResult 1 0 [0, 1, 2, 65535] 15).wf = true ∧ (Instr.onceEntryResult 1 0 [(3, 65535)] false).wf = true ∧
    (Instr.estimatorUpdate 1 0 (List.replicate 11 1 ++ [-1])).wf = true ∧
    (Instr.frameReceived 1 0 false true false false false false 2047 15 (List.replicate 64 0#8)).wf = true ∧
    (Instr.parityWriteBack 1 0x4FFFFF).wf = true ∧ (Instr.scrubStep 1 [(0x8FFFFF, 0#8, true)]).wf = true ∧
    (Instr.spRead 1 1 0 0#8).wf = true ∧ (Instr.spReads 1 32 0xFFFFFF 0#8).wf = true ∧
    (Instr.spWrite 1 0 [0#32] 0#8 0#8).wf = true ∧ (Instr.registerWrite 1 0xFFFFFF 0#32).wf = true ∧
    (Instr.spReservedOpcode 1 4 1 0 0#8).wf = true ∧ (Instr.pllLock 1 (List.replicate 72 0) true ⟨0x50444653, true, 20, true, true, 63, 63⟩).wf = true ∧
    (Instr.engineSelfTest 1 (List.replicate 4 ⟨true, true, true, true⟩) ⟨true, true⟩).wf = true ∧
    (Instr.proximityEvaluation 1 (List.replicate 20 500)).wf = true := by decide +kernel

theorem witness_ActionsCommandsComplete : running.sys ≠ sysReset ∧ (running.elapse 1).dlRuns = true := by decide +kernel

theorem witness_GearboxCommandsComplete :
    let s := ready.setFlag (F.AC_CFG_EN 3) true
    s.sys ≠ sysReset ∧ (s.elapse 1).flag (F.AC_CFG_EN 3) = true := by decide +kernel

/-- A run of context 0 at its start, with the state `s`: no slot is filled yet. -/
def freshRun (s : State) : EWork :=
  ⟨s, { req := ⟨0, 0, 0, 0, [], 0, false⟩, done := 100, nstg := 1, next := 0, nextAt := 0, lead := List.replicate 8 0#32,
        echo := List.replicate 8 0#32, reads := [], old := [(ctxAddr 0 + 0x150, some 5#32)], stale := false, busErr := false, mis := false,
        refinv := false, satf := 0, stateW := [], nout := 0, rel := [], cmps := [], ncmp := 0, sup := false, gs := none, gsErr := false,
        armed := false, flipped := false, faults := [] }⟩

/-- Loop context 0 with a proportional-integral stage, in a memory that is otherwise clear. -/
def oneStage : State := { ready with mem := cellSet [] (ctxAddr 0 + 0x93) 0x60#8 }

theorem oneStage_byte (k : Nat) (hk : k < 0x880093) : cellGet oneStage.mem k = unlistedByte := by
  have h0 : oneStage.mem = [(0x880093, 0x60#8)] := by decide +kernel
  simp only [h0, cellGet, mapGet]
  rw [if_neg (by omega)]
  rfl

theorem oneStage_banks : (freshRun oneStage).s.BanksEqual := by
  intro a h1 h2
  have h3 : a < 0x300000 := h2
  have h4 : a + bankSize < 0x880093 := by unfold bankSize; omega
  show cellGet oneStage.mem (a + bankSize) = cellGet oneStage.mem a
  rw [oneStage_byte _ h4, oneStage_byte a (by omega)]

/-- The descriptor words of the stage in that context. -/
def piWords : Word × Word := (oneStage.peek32 (ctxAddr 0 + 0x90), oneStage.peek32 (ctxAddr 0 + 0x94))

theorem oneStage_mirrors : (freshRun oneStage).Mirrors := by
  refine ⟨by decide +kernel, rfl, rfl, rfl, by decide, ?_, ?_, ?_, ?_⟩
  · decide
  · show List.replicate 8 0#32 = (List.replicate 8 0#32).map neg32
    decide
  · intro x h
    rw [List.eq_of_mem_replicate (show x ∈ List.replicate 8 0#32 from h)]
    decide
  · exact fun m h => absurd h List.not_mem_nil

theorem oneStage_states : (freshRun oneStage).s.StatesMirror 0 (Stage.ofWords piWords.1 piWords.2) := by
  unfold State.StatesMirror
  decide +kernel

theorem witness_EchoRunComparesPass : (freshRun oneStage).Mirrors ∧ (freshRun oneStage).s.BanksEqual ∧
    (freshRun oneStage).s.StatesMirror (freshRun oneStage).ctx (Stage.ofWords piWords.1 piWords.2) :=
  ⟨oneStage_mirrors, oneStage_banks, oneStage_states⟩

theorem witness_AdvanceMovesDomains : ready.domState 0 = dsOff ∧ 0 < 15 ∧
    (∀ k ∈ [dsOff, dsSlave], (ready.setFld (F.AD_STAT_STATE 15) (dsSlave + dsOff + 1)).domState 15 ≠ k) := by decide +kernel

/-- Domain 0 with standstill threshold 1 and a given rate. -/
def rated (r : Int) : State :=
  (ready.setFld (F.AD_THR_RATE_STILL 0) 1).modDom 0 fun x => { x with rate := BitVec.ofInt 48 r }

theorem witness_DirectionFollowsRate :
    let th (s : State) : Int := s.fld (F.AD_THR_RATE_STILL 0) * 65536
    (th (rated 65537) < (rated 65537).rate 0) ∧ ((rated (-65537)).rate 0 < -th (rated (-65537))) ∧
    (-th (rated 65536) ≤ (rated 65536).rate 0 ∧ (rated 65536).rate 0 ≤ th (rated 65536)) ∧
    ((rated (-65537)).updateDir 0).flag (F.AD_STAT_DIR 0) ≠ (rated (-65537)).flag (F.AD_STAT_DIR 0) := by decide +kernel

theorem witness_CommitRefusals :
    let linked := (ready.setFlag F.DC_CFG_EN true).setFld F.AL_STAT_SSTATE 2
    (inState sysDefaults).sys = sysDefaults ∧ (ready.sys ≠ sysDefaults ∧ groupGiven 0x280 = false ∧ ready.groupEnabled 0x07C = false) ∧
    (linked.sys ≠ sysDefaults ∧ groupGiven 0x07C = true ∧ linked.groupEnabled 0x07C = true ∧ linked.ownedByLink 0x07C = true) ∧
    (ready.sys ≠ sysDefaults ∧ groupGiven 0x010 = true ∧ ready.groupEnabled 0x010 = true ∧ ready.ownedByLink 0x010 = false ∧
      ∃ c ∈ (({ ready with commits := [⟨0x010, [], false, 0⟩] } : State)).commits, c.group = 0x010) := by decide +kernel

theorem witness_CommitsTakeEffectAtTheirBoundary :
    let s := { ready with now := 5, commits := [⟨0x0B7, [(Reg.PG_DTR 39, 5#32), (Reg.PG_DTF 39, 6#32)], true, 4⟩] }
    4 < s.now ∧ s.commits = [⟨0x090 + 39, [(Reg.PG_DTR 39, 5#32), (Reg.PG_DTF 39, 6#32)], true, 4⟩] := by decide +kernel

theorem witness_GroupWriteReachesShadowOnly : ready.inForce = true ∧ groupOf (Reg.PG_DTR 39) = some 0x0B7 ∧
    ready.ownedByLink 0x0B7 = false ∧ (regRow (Reg.PG_DTR 39)).isSome = true := by decide +kernel

/-- Channel 0 enabled in a mode. -/
def channel (m : Nat) : State := ((ready.setFlag (F.PG_CFG_EN 0) true).setFld (F.PG_CFG_MODE 0) m)
/-- Channel 0 in complementary mode, r = 1 with its gate open, the turn-on of the high output waiting. -/
def waiting : State :=
  (((channel pgCompl).setFlag (F.PG_STAT_RH 0) true).setFlag (pendF 0 false) true).modPg 0 fun p => { p with gateH := true }

theorem witness_TurnOnTime : waiting.pgSafe 0 = 0 ∧ waiting.pgMode 0 = pgCompl ∧ waiting.flag (pendF 0 false) = true ∧
    waiting.flag (pinF 0 false) = false ∧ waiting.pgWant 0 false = true ∧ waiting.withheld 0 = false ∧
    (let s := { waiting.setFlag (ocF 0 true) true with now := 1000 }
     s.complOff 0 false = true ∧ s.turnOnTime 0 false / 64 ≤ s.now) ∧
    (waiting.setFlag (ocF 0 true) false).complOff 0 false = false := by decide +kernel

theorem witness_EdgeQueueHoldsSixteen :
    let q (n : Nat) := ready.modPg 39 fun p => { p with queue := List.replicate n ⟨0#32, true, false⟩ }
    ((q 0).pg 39).queue = [] ∧ ((q 15).pg 39).queue.length < 16 ∧ 16 ≤ ((q 16).pg 39).queue.length := by decide +kernel

theorem witness_SafeCommandPins : ∀ m ∈ [pgCompl, pgIndep], ∀ k ∈ [1, 2, 3],
    let s := (channel m).setFld (F.PG_STAT_SAFEC 0) k
    s.flag (F.PG_CFG_SUMP 0) = false ∧ s.flag (F.PG_STAT_STOG 0) = false ∧ s.flag (F.PG_CFG_EN 0) = true ∧ s.inForce = true ∧
      s.fld (F.PG_STAT_SAFEC 0) = k ∧ s.pgMode 0 = m := by decide +kernel

theorem witness_StoGateDeassertsPins : (ready.setFlag (F.PG_STAT_STOG 39) true).flag (F.PG_STAT_STOG 39) = true ∧
    (ready.setFld F.PG_STOMASK1_MASK1 0x80).stoMasked 39 = true ∧ (ready.setFld F.PG_STOMASK0_MASK0 0x80000000).stoMasked 31 = true := by
  decide +kernel

theorem witness_IsolationHoldsOutputsOff : ready.flag (F.PG_STAT_ISO 39) = false ∧ ready.pgSafe 39 = 0 := by decide +kernel

theorem witness_MemoryWritesReadBack : isTable 0x100000 = true ∧ isTable 0x4FFFFF = true ∧ 0x100000 % 4 = 0 ∧ isMem 0x100000 = true ∧
    0x8FFFFC % 4 = 0 ∧ isMem 0x8FFFFC = true ∧ isTable 0x8FFFFC = false ∧ ready.flag F.MP_FLIP_ARM = false := by decide +kernel

theorem witness_InputPinsAreFiltered :
    let own (x : PinIn) : Bool := x.kind == .oc && x.inst == 79
    let s := { ready with inputs := [⟨.oc, 79, 1, 5⟩] }
    s.inputs.any (fun x => own x && x.level == 1) = true ∧ s.inputs.any (fun x => own x && x.level == 0) = false ∧ (0 : Nat) ≠ 1 := by
  decide +kernel

theorem witness_HeldWritesAreReleasedTogether :
    ready.scRun (.refresh [0x24, 0x28]) [] = some (ready.scLead (.refresh [0x24, 0x28])) ∧
    ready.scRun (.refresh [0x24, 0x28]) [(1, 1#32)] = none ∧ ready.scMis.scRun (.refresh [0x24, 0x28]) [(0, 8#32)] = none := by decide +kernel

theorem witness_FailedByteIsReadFromTheOtherBank :
    let s (c : Bool) := { ready.setFlag F.MP_STAT_CORR c with parBad := [0x4FFFFF] }
    ∀ c : Bool, (s c).wbacks.contains 0x4FFFFF = false ∧ isTable 0x4FFFFF = true ∧ (s c).parOk 0x4FFFFF = false ∧ (s c).parOk (otherBank 0x4FFFFF) = true ∧
      (s c).flag F.MP_STAT_CORR = c := by decide +kernel

theorem witness_UncorrectableByteIsABusError :
    let s (c : Bool) := { ready.setFlag F.MP_STAT_UNCORR c with parBad := [0x100000, 0x300000, 0x500000] }
    ∀ c : Bool, (s c).lastWb.contains 0x500000 = false ∧ (s c).parOk 0x500000 = false ∧ isTable 0x500000 = false ∧ (s c).parOk 0x100000 = false ∧
      (s c).parOk (otherBank 0x100000) = false ∧ (s c).flag F.MP_STAT_UNCORR = c := by decide +kernel

theorem witness_FlipMaskSpendsItself :
    let s := ready.setFlag F.MP_FLIP_ARM true
    0x8FFFFC % 4 = 0 ∧ isMem 0x8FFFFC = true ∧ isTable 0x8FFFFC = false ∧ s.flag F.MP_FLIP_ARM = true ∧
      (s.setFld F.MP_FLIPA_FADDR (0x8FFFFC / 4)).fld F.MP_FLIPA_FADDR = 0x8FFFFC / 4 ∧ s.fld F.MP_FLIPA_FADDR ≠ 0x8FFFFC / 4 := by decide +kernel

/-- Gallery 63 running in cycle 7, with `n` entries in its input buffer that came in cycle 6. -/
def gallery (n : Nat) : State :=
  ({ ready.setFlag (F.GQ_CFG_EN 63) true with now := 7 } : State).modGq 63 fun x => { x with buf := List.replicate n ⟨6, rankEngine, .item [1#8]⟩ }

theorem witness_GalleryPushAndDrop : ∀ n ∈ [3, 4], (gallery n).gqRuns 63 = true ∧ (gallery n).flag (F.GQ_STAT_SEAL 63) = false ∧
    ((gallery n).gq 63).rstAt ≠ some (gallery n).now ∧ ((gallery n).gq 63).buf.length = n ∧
    (∀ y ∈ ((gallery n).gq 63).buf, y.came ≠ (gallery n).now ∨ y.rank ≤ rankMatrix) ∧ (gallery n).flag (F.GQ_STAT_DROP 63) = false ∧
    ((gallery n).setFlag (F.GQ_STAT_DROP 63) true).flag (F.GQ_STAT_DROP 63) = true := by decide +kernel

theorem witness_GalleryPacksAnItem :
    let s := (gallery 1).setFld (F.GQ_STAT_OVB 63) 6
    (s.gq 63).buf = ⟨6, rankEngine, .item [1#8]⟩ :: [] ∧ 6 < s.now ∧ (s.gq 63).packAt ≠ some s.now ∧ s.gqVB 63 + [1#8].length < 8 ∧
      ({ s with now := 6 } : State).now ≤ 6 := by decide +kernel

/-- A FIFO with `n` entries. -/
def fifoOf (n : Nat) : State := { ready with fifo := List.replicate n ⟨0, 0, ⟨0, 0, 0, 0, 0⟩, 0, 0, false, false⟩ }

theorem witness_RaisesAreNumberedInOrder : ({ fifoOf 63 with raised := [⟨0x1F0, 3, 5, axle, 0⟩] } : State).fifo.length +
    [(⟨0x1F0, 3, 5, axle, 0⟩ : Raise)].length ≤ 64 := by decide +kernel

theorem witness_RaiseSetsItsPendingBits : (fifoOf 63).fifo.length < 64 ∧ 64 ≤ (fifoOf 64).fifo.length ∧
    (let s := (ready.setFlag (F.GQ_CFG_EN 0) true).setFld (F.GQ_CFG_NSLOT 0) 8192
     s.flag (F.GQ_STAT_SEAL 0) = false ∧ s.logRoom = true) := by decide +kernel

theorem witness_BadCrcFrameDoesNothing : ready.sys ≠ sysReset ∧
    (∃ h : Byte, h ≠ crc8 (spHeader 1 1 0)) ∧ (∃ h : Byte, h ≠ crc8 (spHeader 3 1 0)) ∧
    ∃ h d : Byte, h = crc8 (spHeader 3 [0#32].length 0) ∧ d ≠ crc8 ([0#32].flatMap beBytes) :=
  ⟨by decide +kernel, ⟨crc8 (spHeader 1 1 0) + 1, by decide +kernel⟩, ⟨crc8 (spHeader 3 1 0) + 1, by decide +kernel⟩,
    crc8 (spHeader 3 1 0), crc8 ([0#32].flatMap beBytes) + 1, rfl, by decide +kernel⟩

theorem witness_WriteFrameIsAllOrNone : pastEnd 0xFFFFF8 [0#32, 0#32].length = none ∧ (inState sysDefaults).spQueue = [] ∧
    (let s := inState sysDefaults
     s.writeCode 0x8FFFFC = 0 ∧ s.writeCode (0x8FFFFC + 4) ≠ 0 ∧ pastEnd 0x8FFFFC [0#32, 0#32].length = none) ∧
    (∀ i ≤ 1, (inState sysDefaults).writeCode (0x8FFFF8 + 4 * i) = 0) ∧ pastEnd 0x8FFFF8 ([0#32].length + 1) = none ∧
    ({ ready with spQueue := [(0x8FFFFC, 0#32)] } : State).spQueue = (0x8FFFFC, 0#32) :: [] := by decide +kernel

theorem witness_UnlockIsGrantedOnItsConditions :
    let s := ready.setFlag F.SP_CFG_UNLEN true
    0x7E57 ≠ 0 ∧ 1 ≤ 600 ∧ 600 ≤ 600 ∧ s.flag F.SP_CFG_UNLEN = true ∧ (s.sys = sysReady ∨ s.sys = sysAxleSafe) ∧
      ready.flag F.SP_CFG_UNLEN = false := by decide +kernel

theorem witness_UnlockEndRestores :
    let s := { ready.setFlag F.SYS_STAT_UNL true with unlockEnd := 5 }
    s.unlocked = true ∧ s.now < s.unlockEnd ∧ (({ s with now := 5 } : State)).unlockEnd ≤ 5 := by decide +kernel

theorem witness_ResetAssertClears : ∀ cause ∈ [rstPower, rstPin, rstSys], cause < 3 ∧ (ready.lt.held && ready.lt.por) = false := by
  decide +kernel

theorem witness_PairsDemandUnlessReleased : (State.reset.setFlag (F.SI_CFG_EN 7) true).flag (F.SI_CFG_EN 7) = true := by decide +kernel

theorem witness_StoRequestAndWiresFollow : ready.sf.wireBad = false ∧ ready.ioRun = none ∧
    (let s := ((inState sysTest).setFld F.LT_STAT_STEP 0x23).markAt .step4 0 0
     ∀ e ∈ [3999, 4000, 7999, 8000], ({ s with now := e } : State).ioRun = some e) := by decide +kernel

theorem witness_BusOffEndsEveryRequest : (ready.setFld (F.CAN_TXS_TXREQ 3) 0x80).canPending 3 7 = true := by decide +kernel

theorem witness_FaultLogRecordsAreValid :
    let s (n : Nat) := { ready with lt := { ready.lt with op := some (.program 0 ⟨0, ⟨0, 0, 0, 0, 0⟩, 0, 0, []⟩), fails := n } }
    (s 0).lt.op = some (.program 0 ⟨0, ⟨0, 0, 0, 0, 0⟩, 0, 0, []⟩) ∧ (s 1).lt.fails + 1 < 3 ∧ 3 ≤ (s 2).lt.fails + 1 := by decide +kernel

theorem witness_GoverningReactionHasHighestRank :
    let v : Verdict := ⟨⟨0, 2, 3, 0, 0⟩, frPlain 0 0 frSafe 0, frSafe, 0, false⟩
    governing false [v] = some v ∧ frRank v.react ≠ 0 := by decide +kernel

theorem witness_ProfileVelocityIsLimited :
    let s := ready.setFlag (F.PF_CFG_EN 15) true
    s.loaded = true ∧ s.flag (F.PF_CFG_EN 15) = true := by decide +kernel

theorem witness_OperationsKeepCanonicalMaps : State.reset.Canonical := by unfold State.Canonical; decide +kernel

theorem witness_StepsLeaveNothingWaiting : State.reset.Settled ∧ ∃ t, step State.reset = .next t := ⟨⟨rfl, rfl, rfl⟩, _, step_nil _ rfl⟩

end Sys2Proof.Tests
end

section
/-! The direction of a domain (R68): the flags and the raises of a domain, and what the direction logic does to each part of the state. -/

namespace Sys2Proof.Machine

/-! ### Flags -/

theorem State.setFlag_frame (s : State) (f : Fld) (b : Bool) :
    s.setFlag f b = { s with regs := (s.setFlag f b).regs, hwSets := (s.setFlag f b).hwSets } := by
  cases b <;> rfl

theorem State.reg_setFlag_ne (s : State) (f : Fld) (b : Bool) {a : Nat} (h : a ≠ f.addr) : (s.setFlag f b).reg a = s.reg a := by
  cases b <;> exact State.reg_setFld_ne _ _ _ h

theorem State.flag_setFlag_disjoint (s : State) (f g : Fld) (b : Bool) (hf : f.lsb + f.width ≤ 32)
    (h : g.lsb + g.width ≤ f.lsb ∨ f.lsb + f.width ≤ g.lsb) : (s.setFlag f b).flag g = s.flag g := by
  cases b
  · rw [State.setFlag_false, State.flag, State.fld_setFld_disjoint s f g 0 hf h, State.flag]
  · rw [State.setFlag_true, State.flag, State.fld_setFld_disjoint _ f g 1 hf h]
    rfl

/-! ### Raises against the converters of a domain -/

theorem State.raiseAll_eq (e : Ev.Src) (inst : Nat) (convs : List Nat) : ∀ s : State,
    s.raiseAll e convs inst = { s with raised := s.raised ++ convs.map fun c => ⟨e.num, e.sev, e.lvl, c, inst⟩ } := by
  induction convs with
  | nil => intro s; simp [State.raiseAll]
  | cons c cs ih =>
    intro s
    calc s.raiseAll e (c :: cs) inst = (s.raise e c inst).raiseAll e cs inst := rfl
      _ = _ := by rw [ih]; simp [State.raise, State.raiseL]

theorem insertNat_ne_nil (n : Nat) (l : List Nat) : insertNat n l ≠ [] := by
  cases l with
  | nil => simp [insertNat]
  | cons x xs => rw [insertNat]; split_ifs <;> simp

theorem foldl_insertNat_ne_nil (l : List Nat) : ∀ acc : List Nat, acc ≠ [] → l.foldl (fun acc n => insertNat n acc) acc ≠ [] := by
  induction l with
  | nil => exact fun acc h => h
  | cons n l ih => exact fun acc _ => ih _ (insertNat_ne_nil n acc)

theorem sortNat_ne_nil {l : List Nat} (h : l ≠ []) : sortNat l ≠ [] := by
  cases l with
  | nil => exact absurd rfl h
  | cons n l => exact foldl_insertNat_ne_nil l _ (insertNat_ne_nil n [])

theorem sortNat_or_axle_ne_nil (l : List Nat) : (if l == [] then [axle] else sortNat l) ≠ [] := by
  split_ifs with h
  · exact List.cons_ne_nil _ _
  · exact sortNat_ne_nil (by simpa using h)

/-- R99: a domain that belongs to no converter raises its events against the axle. -/
theorem State.domConvs_ne_nil (s : State) (d : Nat) : s.domConvs d ≠ [] := by
  unfold State.domConvs
  dsimp only
  split
  next htrk => exact sortNat_ne_nil (mt List.map_eq_nil_iff.1 (bne_iff_ne.1 htrk))
  next => exact sortNat_or_axle_ne_nil _

theorem State.raiseDom_raises (s : State) (e : Ev.Src) (d : Nat) : ∃ r ∈ (s.raiseDom e d).raised, r.src = e.num ∧ r.inst = d := by
  obtain ⟨c, hc⟩ := List.exists_mem_of_ne_nil _ (s.domConvs_ne_nil d)
  refine ⟨⟨e.num, e.sev, e.lvl, c, d⟩, ?_, rfl, rfl⟩
  rw [State.raiseDom, State.raiseAll_eq]
  exact List.mem_append_right _ (List.mem_map_of_mem hc)

/-! ### The direction logic (R68) -/

/-- The standstill threshold of a domain in the unit of its rate. -/
def State.stillThr (s : State) (d : Nat) : Int := s.fld (F.AD_THR_RATE_STILL d) * 65536

/-- The direction that R68 gives a domain at its present rate. -/
def State.dirOfRate (s : State) (d : Nat) : Bool :=
  if s.stillThr d < s.rate d then false else if s.rate d < -s.stillThr d then true else s.flag (F.AD_STAT_DIR d)

/-- The standstill flag that R68 gives a domain at its present rate. -/
def State.stillOfRate (s : State) (d : Nat) : Bool := decide (-s.stillThr d ≤ s.rate d ∧ s.rate d ≤ s.stillThr d)

/-- The first half of `updateDir`: both flags follow the rate. -/
def State.setDirStill (s : State) (d : Nat) : State :=
  (s.setFlag (F.AD_STAT_DIR d) (s.dirOfRate d)).setFlag (F.AD_STAT_STILL d) (s.stillOfRate d)

/-- The second half of `updateDir`, on a change of direction: the turn is recorded and `AD_DIR` raised. -/
def State.recordTurn (s : State) (d : Nat) : State := ({ s with turned := s.turned ++ [d] } : State).raiseDom Ev.AD_DIR d

theorem State.updateDir_eq (s : State) (d : Nat) :
    s.updateDir d = (s.setDirStill d).when (s.dirOfRate d != s.flag (F.AD_STAT_DIR d)) (·.recordTurn d) := rfl

theorem State.setDirStill_frame (s : State) (d : Nat) :
    s.setDirStill d = { s with regs := (s.setDirStill d).regs, hwSets := (s.setDirStill d).hwSets } := by
  unfold State.setDirStill
  rw [State.setFlag_frame (s.setFlag _ _), State.setFlag_frame s]

theorem State.recordTurn_frame (s : State) (d : Nat) :
    s.recordTurn d = { s with raised := (s.recordTurn d).raised, turned := s.turned ++ [d] } := by
  rw [State.recordTurn, State.raiseDom, State.raiseAll_eq]

theorem State.recordTurn_regs (s : State) (d : Nat) : (s.recordTurn d).regs = s.regs := by rw [State.recordTurn_frame]

theorem State.updateDir_regs (s : State) (d : Nat) : (s.updateDir d).regs = (s.setDirStill d).regs := by
  rw [State.updateDir_eq]
  exact State.when_keeps (fun t => t.regs = (s.setDirStill d).regs) _ _ _ rfl fun _ => State.recordTurn_regs _ d

theorem State.updateDir_reg (s : State) (d a : Nat) : (s.updateDir d).reg a = (s.setDirStill d).reg a := by
  rw [State.reg, State.updateDir_regs, State.reg]

theorem State.updateDir_flag (s : State) (d : Nat) (f : Fld) : (s.updateDir d).flag f = (s.setDirStill d).flag f := by
  rw [State.flag, State.fld, State.updateDir_reg, State.flag, State.fld]

theorem State.updateDir_dir (s : State) (d : Nat) : (s.updateDir d).flag (F.AD_STAT_DIR d) = s.dirOfRate d := by
  rw [State.updateDir_flag, State.setDirStill, State.flag_setFlag_disjoint _ _ _ _ (by simp [F.AD_STAT_STILL])
    (.inl (by simp [F.AD_STAT_DIR, F.AD_STAT_STILL]))]
  exact State.flag_setFlag_same _ _ _ (by simp [F.AD_STAT_DIR]) (by simp [F.AD_STAT_DIR])

theorem State.updateDir_still (s : State) (d : Nat) : (s.updateDir d).flag (F.AD_STAT_STILL d) = s.stillOfRate d := by
  rw [State.updateDir_flag]
  exact State.flag_setFlag_same _ _ _ (by simp [F.AD_STAT_STILL]) (by simp [F.AD_STAT_STILL])

theorem State.updateDir_frame (s : State) (d : Nat) :
    let t := s.updateDir d
    t = { s with regs := t.regs, raised := t.raised, turned := t.turned, hwSets := t.hwSets } := by
  dsimp only
  rw [State.updateDir_eq]
  cases s.dirOfRate d != s.flag (F.AD_STAT_DIR d)
  · rw [State.when_false, State.setDirStill_frame]
  · rw [State.when_true, State.recordTurn_frame, State.setDirStill_frame]

theorem State.updateDir_reg_ne (s : State) (d : Nat) {a : Nat} (h : a ≠ Reg.AD_STAT d) : (s.updateDir d).reg a = s.reg a := by
  rw [State.updateDir_reg, State.setDirStill, State.reg_setFlag_ne _ _ _ h, State.reg_setFlag_ne _ _ _ h]

theorem State.updateDir_raises (s : State) (d : Nat) (h : (s.updateDir d).flag (F.AD_STAT_DIR d) ≠ s.flag (F.AD_STAT_DIR d)) :
    ∃ r ∈ (s.updateDir d).raised, r.src = Ev.AD_DIR.num ∧ r.inst = d := by
  rw [State.updateDir_dir] at h
  rw [State.updateDir_eq, bne_iff_ne.2 h, State.when_true]
  exact State.raiseDom_raises _ _ d

theorem State.stillThr_nonneg (s : State) (d : Nat) : 0 ≤ s.stillThr d := by unfold State.stillThr; omega

theorem State.dirOfRate_above (s : State) (d : Nat) (h : s.stillThr d < s.rate d) : s.dirOfRate d = false := if_pos h

theorem State.dirOfRate_below (s : State) (d : Nat) (h : s.rate d < -s.stillThr d) : s.dirOfRate d = true := by
  have hnot : ¬ s.stillThr d < s.rate d := by have := s.stillThr_nonneg d; omega
  rw [State.dirOfRate, if_neg hnot, if_pos h]

theorem State.dirOfRate_between (s : State) (d : Nat) (hl : -s.stillThr d ≤ s.rate d) (hu : s.rate d ≤ s.stillThr d) :
    s.dirOfRate d = s.flag (F.AD_STAT_DIR d) := by
  rw [State.dirOfRate, if_neg (Int.not_lt.2 hu), if_neg (Int.not_lt.2 hl)]

/-- Settles O25: the two flags at each side of the thresholds, the raise on a change of direction, and the frame of `updateDir`. -/
theorem directionFollowsRate : Obligations.DirectionFollowsRate := by
  intro s d _ t th
  have hdir : t.flag (F.AD_STAT_DIR d) = s.dirOfRate d := s.updateDir_dir d
  have hstill : t.flag (F.AD_STAT_STILL d) = decide (-th ≤ s.rate d ∧ s.rate d ≤ th) := s.updateDir_still d
  refine ⟨fun h => ⟨?_, ?_⟩, fun h => ⟨?_, ?_⟩, fun hl hu => ⟨?_, ?_⟩, s.updateDir_raises d, s.updateDir_frame d,
    fun a ha => s.updateDir_reg_ne d ha⟩
  · exact hdir.trans (s.dirOfRate_above d h)
  · exact hstill.trans (decide_eq_false fun hb => absurd h (Int.not_lt.2 hb.2))
  · exact hdir.trans (s.dirOfRate_below d h)
  · exact hstill.trans (decide_eq_false fun hb => absurd h (Int.not_lt.2 hb.1))
  · exact hdir.trans (s.dirOfRate_between d hl hu)
  · exact hstill.trans (decide_eq_true ⟨hl, hu⟩)

end Sys2Proof.Machine
end

section
/-! O20: each clause is an equation of the model's own arithmetic, so every limit comes from one reading of `clampI`. -/

namespace Sys2Proof.Machine

theorem clampI_eq_max_min {lo hi : Int} (h : lo ≤ hi) (v : Int) : clampI lo hi v = max lo (min hi v) := by
  unfold clampI
  split_ifs with hlo hhi
  · rw [min_eq_right (by omega), max_eq_left (by omega)]
  · rw [min_eq_left (by omega), max_eq_right h]
  · rw [min_eq_right (by omega), max_eq_right (by omega)]

theorem sat32_eq_max_min (v : Int) : sat32 v = max (-(2 ^ 31 - 1)) (min (2 ^ 31 - 1) v) := clampI_eq_max_min (by decide) v

theorem sat72_eq_max_min (v : Int) : sat72 v = max (-(2 ^ 71 - 1)) (min (2 ^ 71 - 1) v) := clampI_eq_max_min (by decide) v

theorem sgn_eq_sign (v : Int) : sgn v = v.sign := by
  unfold sgn
  split_ifs with hneg hpos
  · exact (Int.sign_eq_neg_one_of_neg hneg).symm
  · exact (Int.sign_eq_one_of_pos hpos).symm
  · rw [show v = 0 by omega, Int.sign_zero]

theorem rnd_zero (v : Int) : rnd v 0 = v := rfl

theorem rnd_of_pos (v : Int) {n : Nat} (h : 1 ≤ n) :
    rnd v n = v.sign * (((v.natAbs + 2 ^ (n - 1)) / 2 ^ n : Nat) : Int) := by
  obtain ⟨k, rfl⟩ := Nat.exists_eq_add_of_le' h
  rw [rnd, sgn_eq_sign, Nat.add_sub_cancel]

theorem term_of_seven_le (x : Int) {c : Coeff} (h : 7 ≤ c.s) : term x c = sat72 (x * c.m * 2 ^ (c.s - 7).toNat) := by
  rw [term, shlRnd, if_pos (Int.sub_nonneg.2 h)]

theorem term_of_lt_seven (x : Int) {c : Coeff} (h : c.s < 7) : term x c = sat72 (rnd (x * c.m) (7 - c.s).toNat) := by
  rw [term, shlRnd, if_neg (by omega), Int.neg_sub]

/-- Settles O20: the two cases of `rnd` and of `term`, the two limits as `max` and `min`, and the operations defined as R213 and R214
write them. -/
theorem engineOperations : Obligations.EngineOperations :=
  ⟨rnd_zero, fun v _ h => rnd_of_pos v h, fun x _ h => term_of_seven_le x h, fun x _ h => term_of_lt_seven x h,
    fun _ _ => rfl, fun _ _ => rfl, fun _ => rfl, sat32_eq_max_min, fun _ _ => ⟨rfl, rfl⟩, sat72_eq_max_min⟩

end Sys2Proof.Machine
end

section
/-! O29: a difference of two words reads as the modular difference of R305, and no difference is less than 0. -/

namespace Sys2Proof.Machine

/-- The word difference as R305 writes it, with 2^32 added before the subtraction. -/
theorem toNat_sub_eq_angle_mod (a b : Word) : (a - b).toNat = (a.toNat + 2 ^ 32 - b.toNat) % 2 ^ 32 := by
  have hb : b.toNat < 2 ^ 32 := b.isLt
  rw [BitVec.toNat_sub, show 2 ^ 32 - b.toNat + a.toNat = a.toNat + 2 ^ 32 - b.toNat by omega]

theorem insideArc_iff (psi x1 x2 : Word) : insideArc psi x1 x2 = true ↔ (psi - x1).toNat < (x2 - x1).toNat := decide_eq_true_iff

theorem insideArc_empty (psi x : Word) : insideArc psi x x = false := by
  have hempty : (x - x).toNat = 0 := by rw [BitVec.sub_self]; rfl
  rw [← Bool.not_eq_true, insideArc_iff, hempty]
  exact Nat.not_lt_zero _

/-- Settles O29: the membership is the comparison of two modular differences, and the arc of a pair of equal angles has length 0. -/
theorem arcMembership : Obligations.ArcMembership :=
  ⟨fun psi x1 x2 => by rw [insideArc_iff, toNat_sub_eq_angle_mod, toNat_sub_eq_angle_mod], insideArc_empty⟩

end Sys2Proof.Machine
end

section
/-! O31: the edge queues (R309, R312). A channel's part of the state reads back what was put there and no other channel's part changes;
a push then is one update of the queue with its count, or the overflow flag and the raise. -/

namespace Sys2Proof.Machine

/-! ### A channel's part of the state -/

theorem vget_vmod_same {α : Type} {n : Nat} (v : Vector α n) {i : Nat} (hi : i < n) (f : α → α) (d : α) :
    vget (vmod v i f) i d = f (vget v i d) := by
  simp [vget, vmod, hi]

theorem vget_vmod_ne {α : Type} {n : Nat} (v : Vector α n) {i j : Nat} (h : j ≠ i) (f : α → α) (d : α) :
    vget (vmod v i f) j d = vget v j d := by
  unfold vget vmod
  split <;> simp [Ne.symm h]

theorem State.pg_modPg_same (s : State) {c : Nat} (hc : c < 40) (f : Pg → Pg) : (s.modPg c f).pg c = f (s.pg c) :=
  vget_vmod_same s.pgs hc f Pg.reset

theorem State.pg_modPg_ne (s : State) {c k : Nat} (h : k ≠ c) (f : Pg → Pg) : (s.modPg c f).pg k = s.pg k :=
  vget_vmod_ne s.pgs h f Pg.reset

@[simp] theorem State.pg_setFld (s : State) (f : Fld) (v k : Nat) : (s.setFld f v).pg k = s.pg k := rfl

/-! ### The queue of a channel and its count -/

theorem State.queue_setQueue (s : State) {c : Nat} (hc : c < 40) (l : List EqItem) : ((s.setQueue c l).pg c).queue = l := by
  rw [State.setQueue, State.pg_setFld, State.pg_modPg_same s hc]

theorem State.pg_setQueue_ne (s : State) {c k : Nat} (h : k ≠ c) (l : List EqItem) : (s.setQueue c l).pg k = s.pg k := by
  rw [State.setQueue, State.pg_setFld, State.pg_modPg_ne s h]

/-- `EQCNT` has five bits, so that it shows every count up to the size of the queue. -/
theorem State.eqcnt_setQueue (s : State) (c : Nat) {l : List EqItem} (h : l.length ≤ eqSize) :
    (s.setQueue c l).fld (F.PG_STAT_EQCNT c) = l.length := by
  have hsize : l.length < 2 ^ 5 := Nat.lt_of_le_of_lt h (by decide)
  rw [State.setQueue, State.fld_setFld_same _ _ _ (by simp [F.PG_STAT_EQCNT])]
  exact Nat.mod_eq_of_lt hsize

/-! ### Push and fire -/

theorem State.eqPush_of_lt (s : State) (c : Nat) (it : EqItem) (h : (s.pg c).queue.length < eqSize) :
    s.eqPush c it = s.setQueue c ((s.pg c).queue ++ [it]) := if_pos h

theorem State.eqPush_of_le (s : State) (c : Nat) (it : EqItem) (h : eqSize ≤ (s.pg c).queue.length) :
    s.eqPush c it = (s.setFlag (F.PG_FLAG_EQOVF c) true).raise Ev.PG_EQOVF (s.pgConv c) c := if_neg (Nat.not_lt.2 h)

theorem State.eqFire_of_empty (s : State) (c : Nat) (h : (s.pg c).queue = []) : s.eqFire c = s := by
  rw [State.eqFire, h]

/-- Settles O31: the three states of the queue, empty, with room and full. -/
theorem edgeQueueHoldsSixteen : Obligations.EdgeQueueHoldsSixteen := by
  intro s c it hc
  refine ⟨s.eqFire_of_empty c, fun hroom => ?_, fun hfull => ?_⟩
  · have hlen : ((s.pg c).queue ++ [it]).length = (s.pg c).queue.length + 1 := List.length_append
    rw [s.eqPush_of_lt c it hroom]
    refine ⟨s.queue_setQueue hc _, ?_, fun k _ hk => s.pg_setQueue_ne hk _⟩
    rw [s.eqcnt_setQueue c (hlen ▸ hroom), hlen]
  · rw [s.eqPush_of_le c it hfull]
    rfl

end Sys2Proof.Machine
end

section
/-! O53: the demand of a pair of safety inputs (R640), and what the registers of the pairs read when reset is released. -/

namespace Sys2Proof.Machine

/-! ### Reset release -/

@[simp] theorem Word.get_zero (lsb width : Nat) : Word.get 0 lsb width = 0 := by
  simp [Word.get, bitsOf]

@[simp] theorem State.reg_reset (a : Nat) : State.reset.reg a = resetWord a := rfl

theorem State.fld_reset (f : Fld) : State.reset.fld f = Word.get (resetWord f.addr) f.lsb f.width := by
  rw [State.fld, State.reg_reset]

/-! ### Pairs of safety inputs -/

theorem State.pairDemands_iff (s : State) (n : Nat) :
    s.pairDemands n = true ↔ s.flag (F.SI_CFG_EN n) = true ∧ s.fld (F.SI_STAT_SISTATE n) ≠ siRelease := by
  rw [State.pairDemands, Bool.and_eq_true, bne_iff_ne]

theorem resetWord_siStat : ∀ n < 8, resetWord (Reg.SI_STAT n) = 0 := by decide

theorem State.sistate_reset {n : Nat} (h : n < 8) : State.reset.fld (F.SI_STAT_SISTATE n) = siUnres := by
  have hword : resetWord (F.SI_STAT_SISTATE n).addr = 0 := resetWord_siStat n h
  rw [State.fld_reset, hword, Word.get_zero, siUnres]

/-- Settles O53: with the enable given, the demand is the test of the state; the word of a pair is 0 at reset, whose `SISTATE` is UNRES. -/
theorem pairsDemandUnlessReleased : Obligations.PairsDemandUnlessReleased :=
  ⟨fun s n hen => (s.pairDemands_iff n).trans (and_iff_right hen), fun _ hn => State.sistate_reset hn⟩

end Sys2Proof.Machine
end

section
/-! O49: a request for an unlock (R821) is either granted in its own cycle (log entry 51) or changes nothing. -/

namespace Sys2Proof.Machine

theorem State.inForce_iff (s : State) : s.inForce = true ↔ s.sys = sysReady ∨ s.sys = sysAxleSafe := by
  rw [State.inForce, Bool.or_eq_true, beq_iff_eq, beq_iff_eq]

/-- The conditions of R821 on a request. -/
def State.unlockGranted (s : State) (key dur : Nat) : Prop :=
  key = unlockKey ∧ 1 ≤ dur ∧ dur ≤ 600 ∧ s.flag F.SP_CFG_UNLEN = true ∧ s.inForce = true

theorem State.unlockRequest_of_granted (s : State) {key dur : Nat} (hkey : key ≠ 0) (h : s.unlockGranted key dur) :
    s.unlockRequest key dur =
      { (s.setFlag F.SYS_STAT_UNL true).raise Ev.SP_UNL axle 0 with unlockEnd := s.now + dur * cyclesPerS } := by
  simp only [State.unlockGranted] at h
  simp only [State.unlockRequest, beq_iff_eq, Bool.and_eq_true, decide_eq_true_eq, and_assoc, if_neg hkey, if_pos h]

theorem State.unlockRequest_of_not_granted (s : State) {key dur : Nat} (hkey : key ≠ 0) (h : ¬ s.unlockGranted key dur) :
    s.unlockRequest key dur = s := by
  simp only [State.unlockGranted] at h
  simp only [State.unlockRequest, beq_iff_eq, Bool.and_eq_true, decide_eq_true_eq, and_assoc, if_neg hkey, if_neg h]

theorem State.unlocked_setFlag_unl (s : State) (b : Bool) : (s.setFlag F.SYS_STAT_UNL b).unlocked = b :=
  State.flag_setFlag_same s _ b (by decide) (by decide)

/-- Settles O49: the two cases of the conditions; the flag of a granted unlock reads what the grant has set. -/
theorem unlockIsGrantedOnItsConditions : Obligations.UnlockIsGrantedOnItsConditions := by
  intro s key dur hkey ok
  have hok : ok ↔ s.unlockGranted key dur := by simp only [ok, State.unlockGranted, unlockKey, State.inForce_iff]
  refine ⟨fun h => ?_, fun h => s.unlockRequest_of_not_granted hkey (mt hok.2 h)⟩
  rw [s.unlockRequest_of_granted hkey (hok.1 h)]
  exact ⟨rfl, s.unlocked_setFlag_unl true⟩

end Sys2Proof.Machine
end

section
/-! O45: the interrupt outputs (R831). Bit g of `EV_SUM` comes from the sum of the powers 2^g of the groups with an enabled pending bit. -/

namespace Sys2Proof.Machine

theorem bitOf_eq_testBit (x i : Nat) : bitOf x i = x.testBit i := by
  rw [Nat.testBit_eq_decide_div_mod_eq]
  rfl

/-- R831: group `g` has an enabled pending bit. -/
def State.groupPends (s : State) (g : Nat) : Bool := Nat.land (s.fld (F.EV_PEND_PEND g)) (s.fld (F.EV_EN_IRQEN g)) != 0

theorem State.groupPends_iff (s : State) (g : Nat) :
    s.groupPends g = true ↔ Nat.land (s.fld (F.EV_PEND_PEND g)) (s.fld (F.EV_EN_IRQEN g)) ≠ 0 := bne_iff_ne

theorem any_range_eq_true_iff (n : Nat) (p : Nat → Bool) : (List.range n).any p = true ↔ ∃ g < n, p g = true := by
  simp only [List.any_eq_true, List.mem_range]

theorem State.irqAsserted_iff (s : State) : s.irqAsserted = true ↔ ∃ g < 32, s.groupPends g = true := any_range_eq_true_iff 32 s.groupPends

theorem State.fltAsserted_iff (s : State) :
    s.fltAsserted = true ↔ s.sys ≠ sysReady ∨ ∃ g < 32, s.fld (F.EV_PEND_FPEND g) ≠ 0 := by
  simp only [State.fltAsserted, Bool.or_eq_true, bne_iff_ne, any_range_eq_true_iff]

/-! ### The sum register -/

theorem foldl_add_two_pow (l : List Nat) : l.foldl (fun n g => n + 2 ^ g) 0 = (l.map (2 ^ ·)).sum := by
  rw [List.sum_eq_foldl, List.foldl_map]

theorem testBit_sum_two_pow_filter_range (n : Nat) (p : Nat → Bool) (g : Nat) :
    ((((List.range n).filter p).map (2 ^ ·)).sum).testBit g = (decide (g < n) && p g) := by
  have hsorted : ((List.range n).filter p).SortedLT := ((List.sortedLT_range n).pairwise.filter p).sortedLT
  rw [Bool.eq_iff_iff, ← Nat.mem_bitIndices, Nat.bitIndices_sum_map_two_pow hsorted]
  simp [List.mem_filter]

theorem State.testBit_evSum (s : State) (g : Nat) : s.evSum.testBit g = (decide (g < 32) && s.groupPends g) := by
  rw [State.evSum, foldl_add_two_pow]
  exact testBit_sum_two_pow_filter_range 32 s.groupPends g

theorem State.view_of_regRow (s : State) {a : Nat} {r : RegRow} (h : regRow a = some r) :
    s.view a = s.window a &&& ~~~ BitVec.ofNat 32 r.wo := by
  rw [State.view, h]

theorem regRow_evSum : regRow Reg.EV_SUM = some ⟨Reg.EV_SUM, 1, 0x4, 1, 0x4, 0x0, 0x0, 0x0, 0x0, 0x0, 0x0, 0x0⟩ := by decide +kernel

theorem State.window_evSum (s : State) : s.window Reg.EV_SUM = BitVec.ofNat 32 s.evSum := rfl

theorem State.view_evSum (s : State) : s.view Reg.EV_SUM = BitVec.ofNat 32 s.evSum := by
  rw [s.view_of_regRow regRow_evSum, s.window_evSum]
  exact BitVec.and_allOnes

theorem State.bitOf_view_evSum (s : State) {g : Nat} (hg : g < 32) : bitOf (s.view Reg.EV_SUM).toNat g = s.groupPends g := by
  rw [bitOf_eq_testBit, s.view_evSum, BitVec.toNat_ofNat, Nat.testBit_mod_two_pow, s.testBit_evSum]
  simp [hg]

/-- Settles O45: both pins are a search of the 32 groups, and the sum register shows each group at its own bit. -/
theorem interruptPinsFollowPendingBits : Obligations.InterruptPinsFollowPendingBits := fun s =>
  ⟨by simp only [s.irqAsserted_iff, s.groupPends_iff], s.fltAsserted_iff.trans or_comm,
    fun g hg => (s.bitOf_view_evSum hg).trans (by rw [State.groupPends, Bool.eq_iff_iff]; simp)⟩

end Sys2Proof.Machine
end

section
/-! O44: a raise reaches the matrix (R829, R830). The registers change first, by `pendRaise`; what the FIFO then does with the raise leaves
every pending bit alone. -/

namespace Sys2Proof.Machine

/-! ### One bit of a field -/

theorem State.setBit_frame (s : State) (f : Fld) (i : Nat) (b : Bool) :
    s.setBit f i b = { s with regs := (s.setBit f i b).regs, hwSets := (s.setBit f i b).hwSets } := by
  cases b <;> rfl

theorem State.fld_setBit_ne (s : State) (f g : Fld) (i : Nat) (b : Bool) (h : g.addr ≠ f.addr) : (s.setBit f i b).fld g = s.fld g := by
  cases b <;> exact State.fld_setFld_ne _ f g _ h

theorem State.fld_setBit_disjoint (s : State) (f g : Fld) (i : Nat) (b : Bool) (hf : f.lsb + f.width ≤ 32)
    (h : g.lsb + g.width ≤ f.lsb ∨ f.lsb + f.width ≤ g.lsb) : (s.setBit f i b).fld g = s.fld g := by
  cases b <;> exact State.fld_setFld_disjoint _ f g _ hf h

theorem bitOf_putBits_one (x i k : Nat) : bitOf (putBits x i 1 1) k = (decide (k = i) || bitOf x k) := by
  rw [bitOf_eq_testBit, bitOf_eq_testBit, testBit_putBits]
  by_cases h : k = i
  · simp [h]
  · rw [if_neg (by omega), decide_eq_false h, Bool.false_or]

theorem State.bitOf_setBit_true (s : State) (f : Fld) (i : Nat) {k : Nat} (hf : f.lsb + f.width ≤ 32) (hk : k < f.width) :
    bitOf ((s.setBit f i true).fld f) k = (decide (k = i) || bitOf (s.fld f) k) := by
  rw [State.setBit_true, State.fld_setFld_same _ _ _ hf, bitOf_eq_testBit, Nat.testBit_mod_two_pow, ← bitOf_eq_testBit, bitOf_putBits_one]
  simp [hk]

theorem State.fld_incSat_same (s : State) (f : Fld) (h : f.lsb + f.width ≤ 32) :
    (s.incSat f).fld f = min (s.fld f + 1) (2 ^ f.width - 1) := by
  have hpos : 0 < 2 ^ f.width := Nat.two_pow_pos f.width
  rw [State.incSat_eq, State.addSat_eq, State.fld_setFld_same _ _ _ h]
  exact Nat.mod_eq_of_lt (by omega)

theorem State.fld_incSat_ne (s : State) (f g : Fld) (h : g.addr ≠ f.addr) : (s.incSat f).fld g = s.fld g :=
  State.fld_setFld_ne _ f g _ h

/-! ### The registers of the matrix -/

/-- The group of a source and its bit in the group. -/
def Raise.group (r : Raise) : Nat := r.src / 16 % 32
def Raise.bit (r : Raise) : Nat := r.src % 16

theorem Raise.group_lt (r : Raise) : r.group < 32 := Nat.mod_lt _ (by decide)
theorem Raise.bit_lt (r : Raise) : r.bit < 16 := Nat.mod_lt _ (by decide)

/-- The sequence number moves on and the pending bit of the source is set. -/
def State.pendSource (s : State) (r : Raise) : State :=
  (s.setFld F.EV_SEQ_SEQV (s.fld F.EV_SEQ_SEQV + 1)).setBit (F.EV_PEND_PEND r.group) r.bit true

/-- R830: whether a raise sets its fault-pending bit. -/
def State.raiseFaults (s : State) (r : Raise) : Bool := r.sev == 3 && bitOf (s.fld (F.EV_EN_FLTEN r.group)) r.bit

/-- All that a raise does to the registers before it meets the FIFO. -/
def State.pendRaise (s : State) (r : Raise) : State :=
  (s.pendSource r).when ((s.pendSource r).raiseFaults r) (·.setBit (F.EV_PEND_FPEND r.group) r.bit true)

theorem State.pendRaise_frame (s : State) (r : Raise) :
    s.pendRaise r = { s with regs := (s.pendRaise r).regs, hwSets := (s.pendRaise r).hwSets } :=
  State.when_keeps (fun t => t = { s with regs := t.regs, hwSets := t.hwSets }) _ _ _ rfl fun h => by
    rw [State.setBit_frame, h]

/-! The registers of the pending bits and of the enables are none of the others that a raise touches. -/

theorem evPend_ne_evSeq {h : Nat} (hh : h < 32) : Reg.EV_PEND h ≠ Reg.EV_SEQ := by simp only [Reg.EV_PEND, Reg.EV_SEQ]; omega
theorem evPend_ne_evCnt {h : Nat} (hh : h < 32) : Reg.EV_PEND h ≠ Reg.EV_CNT := by simp only [Reg.EV_PEND, Reg.EV_CNT]; omega
theorem evEn_ne_evSeq {h : Nat} (hh : h < 32) : Reg.EV_EN h ≠ Reg.EV_SEQ := by simp only [Reg.EV_EN, Reg.EV_SEQ]; omega
theorem evEn_ne_evPend (g : Nat) {h : Nat} (hh : h < 32) : Reg.EV_EN g ≠ Reg.EV_PEND h := by simp only [Reg.EV_EN, Reg.EV_PEND]; omega
theorem evPend_ne_evPend {h g : Nat} (hne : h ≠ g) : Reg.EV_PEND h ≠ Reg.EV_PEND g := by simp only [Reg.EV_PEND]; omega

theorem State.raiseFaults_pendSource (s : State) (r : Raise) : (s.pendSource r).raiseFaults r = s.raiseFaults r := by
  rw [State.raiseFaults, State.pendSource, State.fld_setBit_ne _ _ _ _ _ (evEn_ne_evPend _ r.group_lt),
    State.fld_setFld_ne _ _ _ _ (evEn_ne_evSeq r.group_lt), State.raiseFaults]

theorem State.bitOf_pend_pendSource (s : State) (r : Raise) {h k : Nat} (hh : h < 32) (hk : k < 16) :
    bitOf ((s.pendSource r).fld (F.EV_PEND_PEND h)) k = (decide (h = r.group ∧ k = r.bit) || bitOf (s.fld (F.EV_PEND_PEND h)) k) := by
  have hseq (v : Nat) : (s.setFld F.EV_SEQ_SEQV v).fld (F.EV_PEND_PEND h) = s.fld (F.EV_PEND_PEND h) :=
    State.fld_setFld_ne _ _ _ _ (evPend_ne_evSeq hh)
  by_cases hg : h = r.group
  · subst hg
    rw [State.pendSource, State.bitOf_setBit_true _ _ _ (by simp [F.EV_PEND_PEND]) (by simpa [F.EV_PEND_PEND] using hk), hseq]
    simp
  · rw [State.pendSource, State.fld_setBit_ne _ _ _ _ _ (evPend_ne_evPend hg), hseq]
    simp [hg]

theorem State.fpend_pendSource (s : State) (r : Raise) {h : Nat} (hh : h < 32) :
    (s.pendSource r).fld (F.EV_PEND_FPEND h) = s.fld (F.EV_PEND_FPEND h) := by
  rw [State.pendSource, State.fld_setBit_disjoint _ _ _ _ _ (by simp [F.EV_PEND_PEND]) (.inr (by simp [F.EV_PEND_PEND, F.EV_PEND_FPEND])),
    State.fld_setFld_ne _ _ _ _ (evPend_ne_evSeq hh)]

theorem State.pend_pendRaise (s : State) (r : Raise) (h : Nat) :
    (s.pendRaise r).fld (F.EV_PEND_PEND h) = (s.pendSource r).fld (F.EV_PEND_PEND h) :=
  State.when_keeps (fun t => t.fld _ = (s.pendSource r).fld _) _ _ _ rfl fun _ =>
    State.fld_setBit_disjoint _ _ _ _ _ (by simp [F.EV_PEND_FPEND]) (.inl (by simp [F.EV_PEND_PEND, F.EV_PEND_FPEND]))

theorem State.bitOf_pend_pendRaise (s : State) (r : Raise) {h k : Nat} (hh : h < 32) (hk : k < 16) :
    bitOf ((s.pendRaise r).fld (F.EV_PEND_PEND h)) k = (decide (h = r.group ∧ k = r.bit) || bitOf (s.fld (F.EV_PEND_PEND h)) k) := by
  rw [s.pend_pendRaise, s.bitOf_pend_pendSource r hh hk]

theorem State.bitOf_fpend_pendRaise (s : State) (r : Raise) {h k : Nat} (hh : h < 32) (hk : k < 16) :
    bitOf ((s.pendRaise r).fld (F.EV_PEND_FPEND h)) k =
      (decide (h = r.group ∧ k = r.bit) && s.raiseFaults r || bitOf (s.fld (F.EV_PEND_FPEND h)) k) := by
  rw [State.pendRaise, s.raiseFaults_pendSource]
  cases s.raiseFaults r
  · rw [State.when_false, s.fpend_pendSource r hh, Bool.and_false, Bool.false_or]
  · rw [State.when_true, Bool.and_true]
    by_cases hg : h = r.group
    · subst hg
      rw [State.bitOf_setBit_true _ _ _ (by simp [F.EV_PEND_FPEND]) (by simpa [F.EV_PEND_FPEND] using hk), s.fpend_pendSource r hh]
      simp
    · rw [State.fld_setBit_ne _ _ _ _ _ (evPend_ne_evPend hg), s.fpend_pendSource r hh]
      simp [hg]

theorem State.lostCnt_pendRaise (s : State) (r : Raise) : (s.pendRaise r).fld F.EV_CNT_LOST_CNT = s.fld F.EV_CNT_LOST_CNT := by
  have hpend : Reg.EV_CNT ≠ Reg.EV_PEND r.group := (evPend_ne_evCnt r.group_lt).symm
  refine State.when_keeps (fun t => t.fld _ = s.fld _) _ _ _ ?_ fun h => ?_
  · rw [State.pendSource, State.fld_setBit_ne _ _ _ _ _ hpend, State.fld_setFld_ne _ _ _ _ (by decide)]
  · rw [State.fld_setBit_ne _ _ _ _ _ hpend, h]

/-! ### The FIFO and the safety controller -/

/-- The entry that a raise with the sequence number `seq` makes in the FIFO. -/
def State.fifoEntry (s : State) (seq : Nat) (r : Raise) : FifoEntry :=
  ⟨s.now / cyclesPerUs, seq, r, s.sys, s.fld F.SUP_STAT_SAGLVL, false, false⟩

/-- The raise stands before the safety controller. -/
def State.pendDecide (s : State) (r : Raise) : State := { s.pendRaise r with undecided := s.undecided ++ [r] }

theorem State.takeRaise_eq (s : State) (r : Raise) :
    s.takeRaise r =
      if s.fifo.length < fifoSize then
        { s.pendDecide r with fifo := s.fifo ++ [(s.pendDecide r).fifoEntry (s.fld F.EV_SEQ_SEQV) r] }
      else { ((s.pendDecide r).incSat F.EV_CNT_LOST_CNT) with fifoLoss := true } := by
  have hfifo : (s.pendRaise r).fifo = s.fifo := by rw [s.pendRaise_frame]
  have hund : (s.pendRaise r).undecided = s.undecided := by rw [s.pendRaise_frame]
  rw [State.pendDecide, ← hfifo, ← hund]
  rfl

theorem State.takeRaise_of_room (s : State) (r : Raise) (h : s.fifo.length < fifoSize) :
    s.takeRaise r = { s.pendDecide r with fifo := s.fifo ++ [(s.pendDecide r).fifoEntry (s.fld F.EV_SEQ_SEQV) r] } := by
  rw [s.takeRaise_eq, if_pos h]

theorem State.takeRaise_of_full (s : State) (r : Raise) (h : fifoSize ≤ s.fifo.length) :
    s.takeRaise r = { ((s.pendDecide r).incSat F.EV_CNT_LOST_CNT) with fifoLoss := true } := by
  rw [s.takeRaise_eq, if_neg (Nat.not_lt.2 h)]

theorem State.takeRaise_fld (s : State) (r : Raise) (f : Fld) (hf : f.addr ≠ Reg.EV_CNT) : (s.takeRaise r).fld f = (s.pendRaise r).fld f := by
  rw [s.takeRaise_eq]
  split
  · rfl
  · exact State.fld_incSat_ne (s.pendDecide r) _ f hf

theorem State.takeRaise_undecided (s : State) (r : Raise) : (s.takeRaise r).undecided = s.undecided ++ [r] := by
  rw [s.takeRaise_eq]
  split <;> rfl

theorem State.takeRaise_fifo_of_room (s : State) (r : Raise) (h : s.fifo.length < fifoSize) : (s.takeRaise r).fifoLoss = s.fifoLoss ∧
    ∃ e : FifoEntry, (s.takeRaise r).fifo = s.fifo ++ [e] ∧ e.r = r ∧ e.seq = s.fld F.EV_SEQ_SEQV := by
  rw [s.takeRaise_of_room r h]
  exact ⟨by rw [State.pendDecide, s.pendRaise_frame], _, rfl, rfl, rfl⟩

theorem State.takeRaise_fifo_of_full (s : State) (r : Raise) (h : fifoSize ≤ s.fifo.length) : (s.takeRaise r).fifo = s.fifo ∧
    (s.takeRaise r).fifoLoss = true ∧ (s.takeRaise r).fld F.EV_CNT_LOST_CNT = min (s.fld F.EV_CNT_LOST_CNT + 1) 65535 := by
  have hlost : (s.pendDecide r).fld F.EV_CNT_LOST_CNT = s.fld F.EV_CNT_LOST_CNT := s.lostCnt_pendRaise r
  rw [s.takeRaise_of_full r h]
  refine ⟨?_, rfl, ?_⟩
  · change (s.pendRaise r).fifo = s.fifo
    rw [s.pendRaise_frame]
  · exact (State.fld_incSat_same _ F.EV_CNT_LOST_CNT (by decide)).trans (by rw [hlost]; rfl)

/-! ### The entry of the event log -/

theorem State.logTake_of_room (s : State) (e : FifoEntry) (hseal : s.flag (F.GQ_STAT_SEAL 0) = false) (hroom : s.logRoom = true) :
    s.logTake e = { ({ s with logNext := s.now + 2 } : State).gqPush 0 rankMatrix (.item (e.bytes s.fifoLoss).1) with
      logHalf := some ((e.bytes s.fifoLoss).2, e.r.src), fifoLoss := false } := by
  have hroom' : ({ s with logNext := s.now + 2 } : State).logRoom = true := hroom
  rw [State.logTake, hseal]
  dsimp only
  rw [hroom']
  rfl

/-- R832: bytes 4 and 5 of an entry are one number, with the source below the severity below the level below `LOSS` in bit 14. -/
theorem FifoEntry.bitOf_bytes_loss (e : FifoEntry) (loss : Bool) (hsrc : e.r.src < 512) (hsev : e.r.sev < 4) (hlvl : e.r.lvl < 8) :
    bitOf ((e.bytes loss).1.getD 5 0).toNat 6 = loss := by
  have hbyte : ((e.bytes loss).1.getD 5 0) = BitVec.ofNat 8 ((e.r.src + e.r.sev * 2 ^ 9 + e.r.lvl * 2 ^ 11 + b2n loss * 2 ^ 14) / 256) := rfl
  rw [hbyte, BitVec.toNat_ofNat, bitOf, beq_eq_decide]
  cases loss
  · exact decide_eq_false (by simp only [b2n, reduceIte, Bool.false_eq_true]; omega)
  · exact decide_eq_true (by simp only [b2n, reduceIte]; omega)

/-- Settles O44: the pending bits are those that `pendRaise` leaves; the FIFO takes or loses the raise by its length; the log entry. -/
theorem raiseSetsItsPendingBits : Obligations.RaiseSetsItsPendingBits := by
  intro s r t g p
  have hg : g < 32 := r.group_lt
  have hp : p < 16 := r.bit_lt
  have hpend {h k : Nat} (hh : h < 32) (hk : k < 16) : bitOf (t.fld (F.EV_PEND_PEND h)) k =
      (decide (h = g ∧ k = p) || bitOf (s.fld (F.EV_PEND_PEND h)) k) := by
    rw [s.takeRaise_fld r _ (evPend_ne_evCnt hh), s.bitOf_pend_pendRaise r hh hk]
    rfl
  have hfpend {h k : Nat} (hh : h < 32) (hk : k < 16) : bitOf (t.fld (F.EV_PEND_FPEND h)) k =
      (decide (h = g ∧ k = p) && s.raiseFaults r || bitOf (s.fld (F.EV_PEND_FPEND h)) k) := by
    rw [s.takeRaise_fld r _ (evPend_ne_evCnt hh), s.bitOf_fpend_pendRaise r hh hk]
    rfl
  refine ⟨?_, ?_, fun h k hh hk hne => ?_, s.takeRaise_undecided r, s.takeRaise_fifo_of_room r, s.takeRaise_fifo_of_full r,
    fun e hseal hroom => ?_⟩
  · simp [hpend hg hp]
  · rw [hfpend hg hp, decide_eq_true ⟨rfl, rfl⟩, Bool.true_and, Bool.or_comm]
    rfl
  · have hother : ¬ (h = g ∧ k = p) := not_and_or.2 hne
    exact ⟨by simp [hpend hh hk, hother], by simp [hfpend hh hk, hother]⟩
  · rw [s.logTake_of_room e hseal hroom]
    exact ⟨rfl, rfl, e.bitOf_bytes_loss s.fifoLoss⟩

end Sys2Proof.Machine
end

section
/-! How time moves the block (O24). `State.advance` is three loops: over the domains that add their rates, over the slaves, and over the tracks.
Each loop keeps `State.MovesTo`, so that all of it does; the accumulators are read off the first loop, which the others leave alone. -/

namespace Sys2Proof.Machine

/-! ### What may change when only time passes -/

/-- Time alone leads from `s` to `t`: but for the clock, the domains, the tracks, the marks and the notes of the cycle, only flags of tracks
have changed. -/
structure State.MovesTo (s t : State) : Prop where
  frame : t = { s with now := t.now, doms := t.doms, trks := t.trks, regs := t.regs, marks := t.marks, hwSets := t.hwSets, before := t.before }
  reg : ∀ a : Nat, (∀ k < 32, a ≠ Reg.DL_TRK_FLAG k) → t.reg a = s.reg a
  regsWf : regWf s.regs = true → regWf t.regs = true

theorem State.MovesTo.refl (s : State) : s.MovesTo s := ⟨rfl, fun _ _ => rfl, id⟩

theorem State.MovesTo.trans {s t u : State} (hst : s.MovesTo t) (htu : t.MovesTo u) : s.MovesTo u where
  frame := by rw [htu.frame, hst.frame]
  reg a ha := (htu.reg a ha).trans (hst.reg a ha)
  regsWf h := htu.regsWf (hst.regsWf h)

theorem State.MovesTo.each {α : Type} (f : State → α → State) (l : List α) (h : ∀ s : State, ∀ x ∈ l, s.MovesTo (f s x)) (s : State) :
    s.MovesTo (s.each l f) :=
  State.each_keeps s.MovesTo l f (fun u x hx hu => hu.trans (h u x hx)) s (.refl s)

/-- The same state with the clock at cycle `c`. -/
def State.atCycle (s : State) (c : Nat) : State := { s with now := c }

theorem State.movesTo_atCycle (s : State) (c : Nat) : s.MovesTo (s.atCycle c) := ⟨rfl, fun _ _ => rfl, id⟩

theorem State.movesTo_modTrk (s : State) (t : Nat) (f : Trk → Trk) : s.MovesTo (s.modTrk t f) := ⟨rfl, fun _ _ => rfl, id⟩

theorem State.movesTo_markIdle (s : State) (t : Nat) (h : t < 32) :
    s.MovesTo ((s.setFlag (F.DL_TRK_FLAG_IDLE t) true).mark .idle t) :=
  ⟨rfl, fun _ ha => State.reg_setFld_ne _ _ _ (ha t h), regSet_wf _ _ _⟩

/-! ### The loops -/

/-- One domain adds `n` times its rate. -/
def State.domStep (n : Nat) (u : State) (d : Nat) : State :=
  if u.domState d == dsOff || u.domState d == dsSlave then u
  else u.modDom d fun x =>
    { x with acc := x.acc + BitVec.ofNat 48 n * x.rate, prev := x.acc + BitVec.ofNat 48 (n - 1) * x.rate }

/-- One slave follows its master. -/
def State.slaveStep (u : State) (d : Nat) : State := if u.domState d == dsSlave then u.slaveUpdate d else u

/-- One track follows its domain over the cycles from `s` to `now`. -/
def State.trackMove (s : State) (n now : Nat) (u : State) (t : Nat) : State :=
  if !u.trkLive t then u
  else
    let d := u.trkDom t
    let u := ((u.atCycle s.now).trackFollow t (angDiff (s.angle d) (u.trk t).ang0)).trackBaseAt t (s.angle d)
    let u := ((u.atCycle (now - 1)).trackFollow t (s.pathOf d (n - 1))).trackBaseAt t (s.angle d + wordOf (s.pathOf d (n - 1)))
    (u.atCycle now).trackFollow t (s.pathOf d n - s.pathOf d (n - 1))

/-- The clock after `n` cycles, with the notes of the ended cycle gone. -/
def State.clock (s : State) (n : Nat) : State := { s with now := s.now + n, hwSets := [], before := [] }

/-- The domains after `n` cycles. -/
def State.domMove (s : State) (n : Nat) : State := ((s.clock n).each (List.range 16) (State.domStep n)).each (List.range 16) State.slaveStep

theorem State.advance_of_pos (s : State) {n : Nat} (h : 0 < n) :
    s.advance n = (s.domMove n).each (List.range 32) (s.trackMove n (s.domMove n).now) := if_neg (Nat.ne_of_gt h)

/-! ### The domains -/

theorem State.domStep_frame (n : Nat) (u : State) (d : Nat) : u.domStep n d = { u with doms := (u.domStep n d).doms } := by
  unfold State.domStep
  split <;> rfl

theorem State.slaveStep_frame (u : State) (d : Nat) : u.slaveStep d = { u with doms := (u.slaveStep d).doms } := by
  unfold State.slaveStep
  split <;> rfl

/-- What changes nothing but the domains, repeated, changes nothing but the domains. -/
theorem State.each_doms_frame (f : State → Nat → State) (h : ∀ (u : State) (d : Nat), f u d = { u with doms := (f u d).doms }) (s : State)
    (l : List Nat) : s.each l f = { s with doms := (s.each l f).doms } :=
  State.each_keeps (fun t => t = { s with doms := t.doms }) l f (fun u d _ hu => by rw [h, hu]) s rfl

theorem State.each_domStep_frame (s : State) (n : Nat) (l : List Nat) :
    s.each l (State.domStep n) = { s with doms := (s.each l (State.domStep n)).doms } :=
  State.each_doms_frame _ (State.domStep_frame n) s l

theorem State.domMove_frame (s : State) (n : Nat) : s.domMove n = { s.clock n with doms := (s.domMove n).doms } := by
  rw [State.domMove, State.each_doms_frame _ State.slaveStep_frame, State.each_domStep_frame]

theorem State.dom_modDom_same (s : State) {d : Nat} (h : d < 16) (f : Dom → Dom) : (s.modDom d f).dom d = f (s.dom d) :=
  vget_vmod_same _ h _ _

theorem State.dom_modDom_ne (s : State) {d k : Nat} (h : k ≠ d) (f : Dom → Dom) : (s.modDom d f).dom k = s.dom k :=
  vget_vmod_ne _ h _ _

/-- A domain adds its rate `n` times: it is neither off nor a slave. -/
def State.domRuns (s : State) (d : Nat) : Bool := !(s.domState d == dsOff || s.domState d == dsSlave)

/-- The accumulator of a running domain after `n` cycles, and after all but the last of them. -/
def Dom.moved (n : Nat) (x : Dom) : Dom :=
  { x with acc := x.acc + BitVec.ofNat 48 n * x.rate, prev := x.acc + BitVec.ofNat 48 (n - 1) * x.rate }

theorem State.domStep_of_stands (n : Nat) (u : State) (d : Nat) (h : u.domRuns d = false) : u.domStep n d = u :=
  if_pos (by simpa only [State.domRuns, Bool.not_eq_false'] using h)

theorem State.domStep_of_runs (n : Nat) (u : State) (d : Nat) (h : u.domRuns d = true) : u.domStep n d = u.modDom d (Dom.moved n) :=
  if_neg (by simpa only [State.domRuns, Bool.not_eq_true', Bool.not_eq_true] using h)

theorem State.dom_domStep_ne (n : Nat) (u : State) {d k : Nat} (h : d ≠ k) : (u.domStep n k).dom d = u.dom d := by
  unfold State.domStep
  split
  · rfl
  · exact State.dom_modDom_ne _ h _

theorem State.domRuns_domStep (n : Nat) (u : State) (d k : Nat) : (u.domStep n k).domRuns d = u.domRuns d := by
  rw [State.domStep_frame]
  rfl

theorem State.dom_each_domStep_of_not_mem (n : Nat) (u : State) {d : Nat} (l : List Nat) (h : d ∉ l) :
    (u.each l (State.domStep n)).dom d = u.dom d :=
  State.each_keeps (fun t => t.dom d = u.dom d) l _
    (fun t _ hk ht => (State.dom_domStep_ne n t (ne_of_mem_of_not_mem hk h).symm).trans ht) u rfl

theorem State.dom_each_domStep_of_stands (n : Nat) (u : State) (d : Nat) (l : List Nat) (h : u.domRuns d = false) :
    (u.each l (State.domStep n)).dom d = u.dom d := by
  refine (State.each_keeps (fun t => t.domRuns d = false ∧ t.dom d = u.dom d) l _ (fun t k _ ht => ?_) u ⟨h, rfl⟩).2
  refine ⟨(State.domRuns_domStep n t d k).trans ht.1, ?_⟩
  by_cases hk : d = k
  · rw [← hk, State.domStep_of_stands n t d ht.1, ht.2]
  · rw [State.dom_domStep_ne n t hk, ht.2]

/-- Each running domain is moved once, in its own turn. -/
theorem State.dom_each_domStep_of_runs (n : Nat) {d : Nat} (hd : d < 16) (l : List Nat) : ∀ u : State, l.Nodup → d ∈ l → u.domRuns d = true →
    (u.each l (State.domStep n)).dom d = (u.dom d).moved n := by
  induction l with
  | nil => exact fun u _ hmem => absurd hmem List.not_mem_nil
  | cons k l ih =>
    intro u hnd hmem hruns
    rw [State.each_cons]
    by_cases hk : d = k
    · subst hk
      rw [State.dom_each_domStep_of_not_mem n _ l (List.nodup_cons.1 hnd).1, State.domStep_of_runs n u d hruns, State.dom_modDom_same _ hd]
    · rw [ih _ (List.nodup_cons.1 hnd).2 (List.mem_of_ne_of_mem hk hmem) ((State.domRuns_domStep n u d k).trans hruns),
        State.dom_domStep_ne n u hk]

theorem State.dom_slaveStep_of_not_slave (u : State) (d k : Nat) (h : u.domState d ≠ dsSlave) : (u.slaveStep k).dom d = u.dom d := by
  unfold State.slaveStep
  split
  next hk => exact State.dom_modDom_ne _ (fun e : d = k => h (e ▸ eq_of_beq hk)) _
  next => rfl

theorem State.dom_each_slaveStep_of_not_slave (u : State) (d : Nat) (l : List Nat) (h : u.domState d ≠ dsSlave) :
    (u.each l State.slaveStep).dom d = u.dom d := by
  refine (State.each_keeps (fun t => t.domState d ≠ dsSlave ∧ t.dom d = u.dom d) l _ (fun t k _ ht => ⟨?_, ?_⟩) u ⟨h, rfl⟩).2
  · rw [State.slaveStep_frame]
    exact ht.1
  · rw [State.dom_slaveStep_of_not_slave t d k ht.1, ht.2]

theorem State.dom_domMove (s : State) (n d : Nat) (h : s.domState d ≠ dsSlave) :
    (s.domMove n).dom d = ((s.clock n).each (List.range 16) (State.domStep n)).dom d := by
  refine State.dom_each_slaveStep_of_not_slave _ d _ ?_
  rw [State.each_domStep_frame]
  exact h

theorem State.dom_domMove_of_off (s : State) (n d : Nat) (h : s.domState d = dsOff) : (s.domMove n).dom d = s.dom d := by
  rw [State.dom_domMove s n d (by rw [h]; decide)]
  exact State.dom_each_domStep_of_stands n (s.clock n) d _ (by simp [State.domRuns, show (s.clock n).domState d = dsOff from h])

theorem State.dom_domMove_of_runs (s : State) (n : Nat) {d : Nat} (hd : d < 16) (hoff : s.domState d ≠ dsOff) (hslave : s.domState d ≠ dsSlave) :
    (s.domMove n).dom d = (s.dom d).moved n := by
  have hruns : (s.clock n).domRuns d = true := by
    have hs : (s.clock n).domState d = s.domState d := rfl
    simp [State.domRuns, hs, hoff, hslave]
  rw [State.dom_domMove s n d hslave]
  exact State.dom_each_domStep_of_runs n hd _ (s.clock n) List.nodup_range (List.mem_range.2 hd) hruns

/-! ### The tracks -/

theorem State.trackFollow_movesTo (s : State) {t : Nat} (ht : t < 32) (d : Int) : s.MovesTo (s.trackFollow t d) := by
  unfold State.trackFollow
  split
  · exact .refl s
  · exact (s.movesTo_modTrk t _).trans (State.when_keeps (State.MovesTo _) _ _ _ (.refl _) fun _ => State.movesTo_markIdle _ t ht)

/-- What the moves of tracks keep: the domains and the record of what was written before. -/
structure State.KeepsDoms (s t : State) : Prop where
  doms : t.doms = s.doms
  before : t.before = s.before

theorem State.KeepsDoms.trans {s t u : State} (hst : s.KeepsDoms t) (htu : t.KeepsDoms u) : s.KeepsDoms u :=
  ⟨htu.doms.trans hst.doms, htu.before.trans hst.before⟩

theorem State.trackFollow_keepsDoms (s : State) (t : Nat) (d : Int) : s.KeepsDoms (s.trackFollow t d) := by
  unfold State.trackFollow
  split
  · exact ⟨rfl, rfl⟩
  · exact State.when_keeps (State.KeepsDoms s) _ _ _ ⟨rfl, rfl⟩ fun h => h.trans ⟨rfl, rfl⟩

theorem State.trackFollow_now (s : State) (t : Nat) (d : Int) : (s.trackFollow t d).now = s.now := by
  unfold State.trackFollow
  split
  · rfl
  · exact State.when_keeps (fun u => u.now = s.now) _ _ _ rfl fun h => h

theorem State.trackMove_movesTo (s : State) (n now : Nat) (u : State) {t : Nat} (ht : t < 32) : u.MovesTo (s.trackMove n now u t) := by
  have step (v : State) (c : Nat) (d : Int) : v.MovesTo ((v.atCycle c).trackFollow t d) :=
    (v.movesTo_atCycle c).trans (State.trackFollow_movesTo _ ht d)
  have base (v : State) (a : Word) : v.MovesTo (v.trackBaseAt t a) := v.movesTo_modTrk t _
  unfold State.trackMove
  split
  · exact .refl u
  · exact ((step _ _ _).trans (base _ _)).trans (((step _ _ _).trans (base _ _)).trans (step _ _ _))

theorem State.trackMove_keepsDoms (s : State) (n now : Nat) (u : State) (t : Nat) : u.KeepsDoms (s.trackMove n now u t) := by
  have step (v : State) (c : Nat) (d : Int) : v.KeepsDoms ((v.atCycle c).trackFollow t d) :=
    State.KeepsDoms.trans (t := v.atCycle c) ⟨rfl, rfl⟩ ((v.atCycle c).trackFollow_keepsDoms t d)
  have base (v : State) (a : Word) : v.KeepsDoms (v.trackBaseAt t a) := ⟨rfl, rfl⟩
  unfold State.trackMove
  split
  · exact ⟨rfl, rfl⟩
  · exact ((step _ _ _).trans (base _ _)).trans (((step _ _ _).trans (base _ _)).trans (step _ _ _))

theorem State.trackMove_now (s : State) (n : Nat) (u : State) (t : Nat) : (s.trackMove n u.now u t).now = u.now := by
  unfold State.trackMove
  split
  · rfl
  · exact State.trackFollow_now _ t _

theorem State.each_trackMove_keepsDoms (s : State) (n now : Nat) (u : State) (l : List Nat) : u.KeepsDoms (u.each l (s.trackMove n now)) :=
  State.each_keeps u.KeepsDoms l _ (fun v t _ hv => hv.trans (s.trackMove_keepsDoms n now v t)) u ⟨rfl, rfl⟩

theorem State.each_trackMove_now (s : State) (n : Nat) (u : State) (l : List Nat) : (u.each l (s.trackMove n u.now)).now = u.now :=
  State.each_keeps (fun v => v.now = u.now) l _ (fun v t _ hv => hv ▸ s.trackMove_now n v t) u rfl

theorem State.trackMove_of_idle (s : State) (n now : Nat) (u : State) (t : Nat) (h : u.trkLive t = false) : s.trackMove n now u t = u :=
  if_pos (by rw [h]; rfl)

/-! ### All of it -/

theorem State.advance_movesTo (s : State) (n : Nat) : s.MovesTo (s.advance n) := by
  rcases Nat.eq_zero_or_pos n with rfl | hn
  · exact .refl s
  · have hdom : s.MovesTo (s.domMove n) := by
      rw [State.domMove_frame]
      exact ⟨rfl, fun _ _ => rfl, id⟩
    rw [s.advance_of_pos hn]
    exact hdom.trans (.each _ _ (fun u t ht => s.trackMove_movesTo n _ u (List.mem_range.1 ht)) _)

theorem State.advance_now (s : State) (n : Nat) : (s.advance n).now = s.now + n := by
  rcases Nat.eq_zero_or_pos n with rfl | hn
  · rfl
  · rw [s.advance_of_pos hn, s.each_trackMove_now n (s.domMove n), State.domMove_frame]
    rfl

theorem State.advance_doms (s : State) {n : Nat} (h : 0 < n) : (s.advance n).doms = (s.domMove n).doms := by
  rw [s.advance_of_pos h, (s.each_trackMove_keepsDoms n _ (s.domMove n) _).doms]

theorem State.advance_dom (s : State) {n : Nat} (h : 0 < n) (d : Nat) : (s.advance n).dom d = (s.domMove n).dom d := by
  rw [State.dom, s.advance_doms h, State.dom]

theorem State.advance_dom_of_off (s : State) (n d : Nat) (h : s.domState d = dsOff) : (s.advance n).dom d = s.dom d := by
  rcases Nat.eq_zero_or_pos n with rfl | hn
  · rfl
  · rw [s.advance_dom hn, s.dom_domMove_of_off n d h]

theorem State.advance_before (s : State) (n : Nat) : (s.advance n).before = if n = 0 then s.before else [] := by
  rcases Nat.eq_zero_or_pos n with rfl | hn
  · rfl
  · rw [if_neg (Nat.ne_of_gt hn), s.advance_of_pos hn, (s.each_trackMove_keepsDoms n _ (s.domMove n) _).before, State.domMove_frame]
    rfl

theorem State.advance_of_idle (s : State) {n : Nat} (hn : 0 < n) (h : ∀ k < 32, s.trkLive k = false) : s.advance n = s.domMove n := by
  rw [s.advance_of_pos hn]
  refine State.each_keeps (· = s.domMove n) _ _ (fun u t ht hu => ?_) _ rfl
  rw [hu]
  refine s.trackMove_of_idle n _ _ t ?_
  rw [State.domMove_frame]
  exact h t (List.mem_range.1 ht)

/-- Settles O24: the domains by the first loop, everything else by the frame of the three loops. -/
theorem advanceMovesDomains : Obligations.AdvanceMovesDomains := by
  intro s n d hd t
  have hmoves : s.MovesTo t := s.advance_movesTo n
  refine ⟨s.advance_now n, s.advance_dom_of_off n d, fun hn hoff hslave => ?_, fun hn hidle => ?_, s.advance_before n, hmoves.frame, hmoves.reg⟩
  · exact (s.advance_dom hn d).trans (s.dom_domMove_of_runs n hd hoff hslave)
  · rw [show t = s.domMove n from s.advance_of_idle hn hidle, State.domMove_frame]
    rfl

end Sys2Proof.Machine
end

section
/-! Every command has one of four forms: it runs in every operating state or outside RESET only, and its operands are checked or always in
range. What holds of all commands follows from the forms. -/

namespace Sys2Proof

/-- The commands that act in RESET too (log entry 4). -/
def Instr.sequencer : Instr → Bool
  | .resetAssert .. | .resetRelease .. | .pllLock .. | .flashResetRelease .. | .railFault .. => true
  | _ => false

end Sys2Proof

namespace Sys2Proof.Machine

/-- The forms of a command with its meaning. -/
inductive CmdForm (c : Instr) : (State → Result) → Prop
  | run (dt : Nat) (f : State → State) (hwf : c.wf = true) (hseq : c.sequencer = true) : CmdForm c fun s => Machine.run dt s f
  | live (dt : Nat) (f : State → State) (hwf : c.wf = true) (hseq : c.sequencer = false) : CmdForm c fun s => Machine.live dt s f
  | guardedRun (dt : Nat) (f : State → State) (hseq : c.sequencer = true) : CmdForm c fun s => guarded c (Machine.run dt s f)
  | guardedLive (dt : Nat) (f : State → State) (hseq : c.sequencer = false) : CmdForm c fun s => guarded c (Machine.live dt s f)

theorem exec_form (c : Instr) : CmdForm c (exec c) := by
  cases c with
  | resetAssert dt por => exact .run dt (·.enterReset (if por then rstPower else rstPin)) rfl rfl
  | resetRelease dt tmode vioA vioC => exact .run dt (·.resetRelease tmode vioA vioC) rfl rfl
  | flashResetRelease dt => exact .run dt State.flashResetRelease rfl rfl
  | railFault dt rail v => exact .run dt (·.railChange rail v) rfl rfl
  | pllLock dt trim trimOk d => exact .guardedRun dt (·.pllLock trim trimOk d) rfl
  | faultLogScan | memorySelfTest | engineSelfTest | frameReceived | proximityEvaluation | windowSampleResult | onceEntryResult
  | estimatorUpdate | parityWriteBack | scrubStep | spRead | spReads | spWrite | registerWrite | spReservedOpcode =>
    exact .guardedLive _ _ rfl
  | _ => exact .live _ _ rfl rfl

/-! ### What follows from the forms -/

variable {c : Instr} {r : State → Result}

theorem CmdForm.next_of_wf (h : CmdForm c r) (s : State) (hwf : c.wf = true) : ∃ t, r s = .next t := by
  have hlive (dt : Nat) (f : State → State) : ∃ t, Machine.live dt s f = .next t := by
    unfold Machine.live
    split
    · exact ⟨_, rfl⟩
    · exact ⟨_, run_eq dt s f⟩
  cases h with
  | run dt f => exact ⟨_, run_eq dt s f⟩
  | live dt f => exact hlive dt f
  | guardedRun dt f => exact ⟨_, (guarded_wf c _ hwf).trans (run_eq dt s f)⟩
  | guardedLive dt f => exact (hlive dt f).imp fun t ht => (guarded_wf c _ hwf).trans ht

theorem CmdForm.refused_of_ill (h : CmdForm c r) (s : State) (hill : c.wf = false) : r s = .refused .illFormed := by
  cases h with
  | run dt f hwf => exact absurd (hwf.symm.trans hill) (by decide)
  | live dt f hwf => exact absurd (hwf.symm.trans hill) (by decide)
  | guardedRun dt f => exact guarded_ill c _ hill
  | guardedLive dt f => exact guarded_ill c _ hill

theorem CmdForm.advance_of_reset (h : CmdForm c r) (s : State) (hs : s.sys = sysReset) (hwf : c.wf = true) (hseq : c.sequencer = false) :
    ∃ dt, r s = .next (s.advance dt) := by
  cases h with
  | run dt f _ hs => exact absurd (hs.symm.trans hseq) (by decide)
  | live dt f => exact ⟨dt, live_reset dt s f hs⟩
  | guardedRun dt f hs => exact absurd (hs.symm.trans hseq) (by decide)
  | guardedLive dt f => exact ⟨dt, (guarded_wf c _ hwf).trans (live_reset dt s f hs)⟩

/-- What a command answers: a state in which the blocks that follow have acted, or, in RESET, the state some cycles later. -/
theorem CmdForm.next_cases (h : CmdForm c r) {s t : State} (hn : r s = .next t) : (∃ u : State, t = u.settle) ∨ ∃ dt, t = s.advance dt := by
  have hwf : c.wf = true := by
    cases hc : c.wf with
    | true => rfl
    | false => exact absurd ((h.refused_of_ill s hc).symm.trans hn) (by simp)
  have hrun (dt : Nat) (f : State → State) (he : Machine.run dt s f = .next t) : ∃ u : State, t = u.settle :=
    ⟨_, (Host.Outcome.next.inj ((run_eq dt s f).symm.trans he)).symm⟩
  have hlive (dt : Nat) (f : State → State) (he : Machine.live dt s f = .next t) : (∃ u : State, t = u.settle) ∨ ∃ dt, t = s.advance dt := by
    unfold Machine.live at he
    split at he
    · exact .inr ⟨dt, (Host.Outcome.next.inj he).symm⟩
    · exact .inl (hrun dt f he)
  cases h with
  | run dt f => exact .inl (hrun dt f hn)
  | live dt f => exact hlive dt f hn
  | guardedRun dt f => exact .inl (hrun dt f ((guarded_wf c _ hwf).symm.trans hn))
  | guardedLive dt f => exact hlive dt f ((guarded_wf c _ hwf).symm.trans hn)

end Sys2Proof.Machine

namespace Sys2Proof.Machine

/-- Settles O4: each form of a command answers or refuses by its operands alone. -/
theorem wellFormedCommandsComplete : Obligations.WellFormedCommandsComplete := fun c s =>
  ⟨(exec_form c).next_of_wf s, (exec_form c).refused_of_ill s⟩

/-- Settles O3: a command that no sequencer takes is one of the forms that only let time pass in RESET. -/
theorem resetSwallowsCommands : Obligations.ResetSwallowsCommands := by
  intro c s hs hwf hother
  refine (exec_form c).advance_of_reset s hs hwf ?_
  cases c with
  | resetAssert | resetRelease | pllLock | flashResetRelease | railFault => exact hother.elim
  | _ => rfl

end Sys2Proof.Machine
end

section
/-! O60: after every step nothing waits for the end of a step. A command ends with `State.settle`, and as time passes only the event matrix, the
load steps of the DC/DC block and the moves of the domains come after the last `State.settle`; none of them makes a jump, a re-seek or a turn. -/

namespace Sys2Proof.Machine

/-- Nothing new waits for the end of a step. -/
structure State.KeepsWaiting (s t : State) : Prop where
  jumped : t.jumped = s.jumped
  turned : t.turned = s.turned
  reseeks : t.reseeks = s.reseeks

theorem State.KeepsWaiting.refl (s : State) : s.KeepsWaiting s := ⟨rfl, rfl, rfl⟩

theorem State.KeepsWaiting.trans {s t u : State} (hst : s.KeepsWaiting t) (htu : t.KeepsWaiting u) : s.KeepsWaiting u :=
  ⟨htu.jumped.trans hst.jumped, htu.turned.trans hst.turned, htu.reseeks.trans hst.reseeks⟩

theorem State.KeepsWaiting.settled {s t : State} (h : s.KeepsWaiting t) (hs : s.Settled) : t.Settled := by
  obtain ⟨hj, ht, hr⟩ := hs
  exact ⟨h.jumped.trans hj, h.turned.trans ht, h.reseeks.trans hr⟩

theorem State.setFlag_keepsWaiting (s : State) (f : Fld) (b : Bool) : s.KeepsWaiting (s.setFlag f b) := by
  rw [State.setFlag_frame]
  exact ⟨rfl, rfl, rfl⟩

theorem State.trTrigger_keepsWaiting (s : State) : s.KeepsWaiting s.trTrigger := by
  unfold State.trTrigger
  exact State.when_keeps s.KeepsWaiting _ _ _ ⟨rfl, rfl, rfl⟩ fun h => h.trans ⟨rfl, rfl, rfl⟩

theorem State.trWatch_keepsWaiting (s : State) : s.KeepsWaiting s.trWatch :=
  State.when_keeps s.KeepsWaiting _ _ _ (.refl s) fun _ => s.trTrigger_keepsWaiting

theorem State.takeRaise_keepsWaiting (s : State) (r : Raise) : s.KeepsWaiting (s.takeRaise r) := by
  have hpend : s.KeepsWaiting (s.pendDecide r) := by
    rw [State.pendDecide, State.pendRaise_frame]
    exact ⟨rfl, rfl, rfl⟩
  rw [s.takeRaise_eq]
  split
  · exact hpend.trans ⟨rfl, rfl, rfl⟩
  · exact hpend.trans ⟨rfl, rfl, rfl⟩

theorem State.takeRaises_keepsWaiting (s : State) : s.KeepsWaiting s.takeRaises := by
  unfold State.takeRaises
  exact State.each_keeps s.KeepsWaiting _ _ (fun u r _ hu => hu.trans (u.takeRaise_keepsWaiting r)) _ ⟨rfl, rfl, rfl⟩

theorem State.flush_keepsWaiting (s : State) : s.KeepsWaiting s.flush := s.trWatch_keepsWaiting.trans s.trWatch.takeRaises_keepsWaiting

theorem State.addSat_keepsWaiting (s : State) (f : Fld) (n : Nat) : s.KeepsWaiting (s.addSat f n) := ⟨rfl, rfl, rfl⟩

theorem State.markAt_keepsWaiting (s : State) (k : MarkKind) (i c : Nat) : s.KeepsWaiting (s.markAt k i c) := ⟨rfl, rfl, rfl⟩

theorem State.dcLoadRun_keepsWaiting (s : State) (t n : Nat) : s.KeepsWaiting (s.dcLoadRun t n) := by
  unfold State.dcLoadRun
  split
  · exact .refl s
  · refine State.KeepsWaiting.trans ?_ (State.addSat_keepsWaiting _ _ n)
    refine State.KeepsWaiting.trans ?_ (State.setFlag_keepsWaiting _ _ _)
    exact (s.markAt_keepsWaiting _ _ _).trans (State.setFlag_keepsWaiting _ _ _)

theorem State.advance_keepsWaiting (s : State) (n : Nat) : s.KeepsWaiting (s.advance n) := by
  rw [(s.advance_movesTo n).frame]
  exact ⟨rfl, rfl, rfl⟩

theorem State.settle_settled (s : State) : s.settle.Settled := follow_settled s

theorem State.endCycle_settled (s : State) : s.endCycle.Settled := (State.flush_keepsWaiting _).settled (State.settle_settled _)

/-- However the cycles are cut where something happens by itself, the last thing that is done is a settled end of a cycle and an advance. -/
theorem State.elapseTo_settled (t n : Nat) : ∀ s : State, s.Settled → (s.elapseTo t n).Settled := by
  induction n with
  | zero => exact fun s hs => hs
  | succ n ih =>
    intro s hs
    rw [State.elapseTo]
    split
    · exact hs
    · dsimp only
      split
      · exact ((State.dcLoadRun_keepsWaiting _ _ _).trans (State.advance_keepsWaiting _ _)).settled s.endCycle_settled
      · exact ih _ (State.settle_settled _)

theorem State.elapse_settled (s : State) (n : Nat) (hs : s.Settled) : (s.elapse n).Settled := State.elapseTo_settled _ _ s hs

/-- Settles O60: by the cases of a step and the form of its command. -/
theorem stepsLeaveNothingWaiting : Obligations.StepsLeaveNothingWaiting := by
  intro s t hs hstep
  cases hq : s.pending with
  | nil => exact Host.Outcome.next.inj ((step_nil s hq).symm.trans hstep) ▸ s.elapse_settled 1 hs
  | cons c rest =>
    have hrest : ({ s with pending := rest } : State).Settled := hs
    obtain ⟨u, rfl⟩ | ⟨dt, rfl⟩ := (exec_form c).next_cases ((step_cons s c rest hq).symm.trans hstep)
    · exact u.settle_settled
    · exact (State.advance_keepsWaiting _ dt).settled hrest

end Sys2Proof.Machine
end

section
/-! O1 and O2: the two cases of a step. -/

namespace Sys2Proof.Machine

/-- Settles O1, by the model's own rule for a queue that is not empty. -/
theorem stepRunsFrontCommand : Obligations.StepRunsFrontCommand := step_cons

theorem State.elapse_zero (s : State) : s.elapse 0 = s := rfl

/-- Cycles in which nothing happens by itself pass in one advance. -/
theorem State.elapse_of_quiet (s : State) {n : Nat} (hn : 0 < n) (hquiet : s.endCycle.nextAuto (s.now + n) = none) :
    s.elapse n =
      (s.endCycle.dcLoadRun (s.now + n) (s.now + n - s.endCycle.now - 1)).advance (s.now + n - s.endCycle.now) := by
  obtain ⟨k, rfl⟩ := Nat.exists_eq_add_of_lt hn
  rw [State.elapse, State.elapseTo, if_neg (by omega)]
  dsimp only
  split
  · rfl
  next c hc => exact absurd (hquiet.symm.trans hc) (by simp)

/-- Settles O2: a step on an empty queue is one cycle, and a stretch in which nothing happens by itself is one advance. -/
theorem emptyQueueStepIsACycle : Obligations.EmptyQueueStepIsACycle := fun s hq =>
  ⟨step_nil s hq, s.elapse_zero, fun _ hn hquiet => s.elapse_of_quiet hn hquiet⟩

end Sys2Proof.Machine
end

section
/-! O5 to O19: the completion of the commands, each by the form of its meaning: `live_eq` outside RESET, `run_eq` in every state, `guarded_wf`
where the operands are checked, and `live_when` where the action has a condition. -/

namespace Sys2Proof.Machine

theorem guarded_live_eq (c : Instr) (dt : Nat) (s : State) (f : State → State) (h : s.sys ≠ sysReset) (hwf : c.wf = true) :
    guarded c (live dt s f) = .next (f (s.elapse dt)).settle := (guarded_wf c _ hwf).trans (live_eq dt s f h)

/-- Settles O5: outside RESET every start-up command runs its operation; the three with checked operands where those are in range. -/
theorem startupCommandsComplete : Obligations.StartupCommandsComplete := fun s dt hs =>
  ⟨live_eq dt s _ hs, fun _ _ => live_eq dt s _ hs, fun _ h => guarded_live_eq _ dt s _ hs h,
    fun _ h => guarded_live_eq _ dt s _ hs h, fun _ => live_eq dt s _ hs, fun _ _ h => guarded_live_eq _ dt s _ hs h,
    fun _ _ => live_eq dt s _ hs, live_eq dt s _ hs, fun _ => live_eq dt s _ hs, live_eq dt s _ hs, live_eq dt s _ hs,
    live_eq dt s _ hs, live_eq dt s _ hs⟩

/-- Settles O6: no command of domains, commits and tracks has a condition besides the operating state. -/
theorem domainsCommandsComplete : Obligations.DomainsCommandsComplete := fun s dt hs =>
  ⟨fun _ _ _ _ => live_eq dt s _ hs, fun _ => live_eq dt s _ hs, fun _ => live_eq dt s _ hs, fun _ => live_eq dt s _ hs,
    fun _ => live_eq dt s _ hs, live_eq dt s _ hs, live_eq dt s _ hs, fun _ => live_eq dt s _ hs, fun _ => live_eq dt s _ hs,
    fun _ => live_eq dt s _ hs⟩

/-- Settles O7: the entries run in any state outside RESET, the actions of Dripline while it runs (`live_when`). -/
theorem actionsCommandsComplete : Obligations.ActionsCommandsComplete := fun s dt hs =>
  ⟨fun _ _ => live_eq dt s _ hs, fun _ _ => live_eq dt s _ hs, fun _ _ => live_eq dt s _ hs, fun _ => live_eq dt s _ hs,
    fun _ _ _ _ h => live_when dt s _ _ hs h, fun _ _ _ _ h => live_when dt s _ _ hs h, fun _ h => live_when dt s _ _ hs h,
    fun _ _ h => live_when dt s _ _ hs h, fun _ _ h => live_when dt s _ _ hs h, fun _ _ h => live_when dt s _ _ hs h,
    fun _ _ _ h => live_when dt s _ _ hs h, fun _ h => live_when dt s _ _ hs h, fun _ _ h => live_when dt s _ _ hs h,
    fun _ h => live_when dt s _ _ hs h, fun _ h => live_when dt s _ _ hs h, fun _ h => live_when dt s _ _ hs h,
    fun _ h => live_when dt s _ _ hs h, fun _ h => live_when dt s _ _ hs h, fun h => live_when dt s _ _ hs h,
    fun _ h => live_when dt s _ _ hs h⟩

/-- Settles O8: the results of conversions and fits are checked first (`guarded_live_eq`); the others have no condition. -/
theorem measurementAndRunCommandsComplete : Obligations.MeasurementAndRunCommandsComplete := fun s dt hs =>
  ⟨fun _ _ _ h => guarded_live_eq _ dt s _ hs h, fun _ _ _ h => guarded_live_eq _ dt s _ hs h, fun _ => live_eq dt s _ hs,
    fun _ _ h => guarded_live_eq _ dt s _ hs h, fun _ => live_eq dt s _ hs, fun _ _ _ => live_eq dt s _ hs,
    fun _ _ => live_eq dt s _ hs, fun _ => live_eq dt s _ hs, fun _ _ _ => live_eq dt s _ hs, fun _ _ _ _ _ => live_eq dt s _ hs⟩

/-- Settles O9: neither the PG commands nor the requests of Gate Link have a condition besides the operating state. -/
theorem powerStageAndDriverCommandsComplete : Obligations.PowerStageAndDriverCommandsComplete := fun s dt hs =>
  ⟨fun _ => live_eq dt s _ hs, fun _ => live_eq dt s _ hs, fun _ => live_eq dt s _ hs, fun _ _ _ _ => live_eq dt s _ hs,
    fun _ _ => live_eq dt s _ hs, fun _ _ _ => live_eq dt s _ hs, fun _ _ => live_eq dt s _ hs, fun _ _ => live_eq dt s _ hs,
    live_eq dt s _ hs, fun _ _ => live_eq dt s _ hs, fun _ _ => live_eq dt s _ hs, fun _ _ => live_eq dt s _ hs,
    fun _ _ => live_eq dt s _ hs, fun _ _ => live_eq dt s _ hs, fun _ _ => live_eq dt s _ hs, fun _ _ => live_eq dt s _ hs,
    fun _ _ => live_eq dt s _ hs, fun _ _ => live_eq dt s _ hs, fun _ _ _ => live_eq dt s _ hs, fun _ => live_eq dt s _ hs,
    fun _ => live_eq dt s _ hs, fun _ _ => live_eq dt s _ hs, fun _ => live_eq dt s _ hs, fun _ => live_eq dt s _ hs⟩

/-- Settles O10: none of the commands of the modulators and field controllers has a condition besides the operating state. -/
theorem modulatorAndFieldControlCommandsComplete : Obligations.ModulatorAndFieldControlCommandsComplete := fun s dt hs =>
  ⟨fun _ _ _ _ => live_eq dt s _ hs, fun _ _ => live_eq dt s _ hs, fun _ _ => live_eq dt s _ hs, fun _ _ _ => live_eq dt s _ hs,
    fun _ _ => live_eq dt s _ hs, fun _ _ => live_eq dt s _ hs, fun _ _ => live_eq dt s _ hs, fun _ => live_eq dt s _ hs,
    fun _ => live_eq dt s _ hs, fun _ _ => live_eq dt s _ hs, fun _ => live_eq dt s _ hs, fun _ => live_eq dt s _ hs,
    fun _ => live_eq dt s _ hs, fun _ => live_eq dt s _ hs, fun _ => live_eq dt s _ hs⟩

/-- Settles O11: none of the commands of the position interfaces has a condition besides the operating state. -/
theorem sensorsCommandsComplete : Obligations.SensorsCommandsComplete := fun s dt hs =>
  ⟨fun _ => live_eq dt s _ hs, fun _ _ _ _ => live_eq dt s _ hs, fun _ => live_eq dt s _ hs, fun _ _ => live_eq dt s _ hs,
    fun _ => live_eq dt s _ hs, fun _ => live_eq dt s _ hs, fun _ _ => live_eq dt s _ hs, fun _ => live_eq dt s _ hs,
    fun _ => live_eq dt s _ hs, fun _ => live_eq dt s _ hs⟩

/-- Settles O12: only the proximity evaluation checks its operands. -/
theorem converterCommandsComplete : Obligations.ConverterCommandsComplete := fun s dt hs =>
  ⟨fun _ => live_eq dt s _ hs, live_eq dt s _ hs, live_eq dt s _ hs, live_eq dt s _ hs, fun _ _ => live_eq dt s _ hs,
    live_eq dt s _ hs, live_eq dt s _ hs, fun _ => live_eq dt s _ hs, live_eq dt s _ hs, fun _ => live_eq dt s _ hs,
    live_eq dt s _ hs, fun _ h => guarded_live_eq _ dt s _ hs h, fun _ _ => live_eq dt s _ hs, live_eq dt s _ hs, live_eq dt s _ hs,
    live_eq dt s _ hs, live_eq dt s _ hs, live_eq dt s _ hs⟩

/-- Settles O13: only the arc edge has a condition of its own, that the channel is enabled. -/
theorem gearboxCommandsComplete : Obligations.GearboxCommandsComplete := fun s dt hs =>
  ⟨fun _ => live_eq dt s _ hs, fun _ h => live_when dt s _ _ hs h, fun _ _ _ => live_eq dt s _ hs,
    fun _ _ _ _ => live_eq dt s _ hs, fun _ _ _ => live_eq dt s _ hs, fun _ _ _ => live_eq dt s _ hs,
    fun _ _ _ _ => live_eq dt s _ hs, fun _ _ _ => live_eq dt s _ hs, fun _ => live_eq dt s _ hs, fun _ => live_eq dt s _ hs,
    live_eq dt s _ hs, live_eq dt s _ hs⟩

/-- Settles O14: none of these commands has a condition besides the operating state. -/
theorem protectionCommandsComplete : Obligations.ProtectionCommandsComplete := fun s dt hs =>
  ⟨fun _ _ => live_eq dt s _ hs, fun _ => live_eq dt s _ hs, fun _ => live_eq dt s _ hs, live_eq dt s _ hs, live_eq dt s _ hs,
    live_eq dt s _ hs, live_eq dt s _ hs, fun _ => live_eq dt s _ hs⟩

/-- Settles O15: the change of a rail runs in every state (`run_eq`), the others outside RESET. -/
theorem safetyFunctionsCommandsComplete : Obligations.SafetyFunctionsCommandsComplete := fun s dt hs =>
  ⟨fun _ _ _ => live_eq dt s _ hs, fun _ => live_eq dt s _ hs, live_eq dt s _ hs, live_eq dt s _ hs, live_eq dt s _ hs,
    fun _ => live_eq dt s _ hs, live_eq dt s _ hs, fun _ _ => live_eq dt s _ hs, live_eq dt s _ hs, fun _ => live_eq dt s _ hs,
    fun _ => live_eq dt s _ hs, fun _ _ => live_eq dt s _ hs, fun _ => live_eq dt s _ hs, fun _ _ => live_eq dt s _ hs,
    fun _ => live_eq dt s _ hs, live_eq dt s _ hs, live_eq dt s _ hs, fun rail v => run_eq dt s (·.railChange rail v)⟩

/-- Settles O16: only a received frame checks its operands. -/
theorem vehicleCommandsComplete : Obligations.VehicleCommandsComplete := fun s dt hs =>
  ⟨fun _ => live_eq dt s _ hs, fun _ => live_eq dt s _ hs, fun _ _ _ _ _ _ _ _ _ _ h => guarded_live_eq _ dt s _ hs h,
    fun _ _ _ _ => live_eq dt s _ hs, fun _ _ _ _ => live_eq dt s _ hs, fun _ => live_eq dt s _ hs, fun _ _ _ => live_eq dt s _ hs,
    fun _ _ => live_eq dt s _ hs, live_eq dt s _ hs, live_eq dt s _ hs, live_eq dt s _ hs, live_eq dt s _ hs, live_eq dt s _ hs,
    live_eq dt s _ hs, live_eq dt s _ hs, live_eq dt s _ hs, live_eq dt s _ hs, live_eq dt s _ hs, live_eq dt s _ hs,
    fun _ => live_eq dt s _ hs, live_eq dt s _ hs, fun _ => live_eq dt s _ hs⟩

/-- Settles O17: the write-back and the scrub step check their operands; the others have no condition. -/
theorem queuesCommandsComplete : Obligations.QueuesCommandsComplete := fun s dt hs =>
  ⟨fun _ _ => live_eq dt s _ hs, fun _ _ => live_eq dt s _ hs, fun _ _ => live_eq dt s _ hs, fun _ => live_eq dt s _ hs,
    fun _ => live_eq dt s _ hs, fun _ => live_eq dt s _ hs, live_eq dt s _ hs, fun _ h => guarded_live_eq _ dt s _ hs h,
    fun _ h => guarded_live_eq _ dt s _ hs h, fun _ _ => live_eq dt s _ hs, live_eq dt s _ hs, fun _ => live_eq dt s _ hs,
    live_eq dt s _ hs⟩

/-- Settles O18: the frames with words of their own check them; the keys and the OTP rows have no condition. -/
theorem servicePortCommandsComplete : Obligations.ServicePortCommandsComplete := fun s dt hs =>
  ⟨fun _ _ _ h => guarded_live_eq _ dt s _ hs h, fun _ _ _ h => guarded_live_eq _ dt s _ hs h,
    fun _ _ _ _ h => guarded_live_eq _ dt s _ hs h, live_eq dt s _ hs, fun _ _ h => guarded_live_eq _ dt s _ hs h,
    fun _ _ => live_eq dt s _ hs, live_eq dt s _ hs, live_eq dt s _ hs, fun _ => live_eq dt s _ hs, live_eq dt s _ hs,
    live_eq dt s _ hs, live_eq dt s _ hs, fun _ => live_eq dt s _ hs, fun _ => live_eq dt s _ hs, fun _ => live_eq dt s _ hs,
    fun _ => live_eq dt s _ hs, fun _ => live_eq dt s _ hs, fun _ _ _ _ h => guarded_live_eq _ dt s _ hs h⟩

/-- Settles O19: the sequencer acts in RESET too, so the form is `run_eq`. -/
theorem sequencerCommandsComplete : Obligations.SequencerCommandsComplete := fun s dt =>
  ⟨fun por => run_eq dt s (·.enterReset (if por then rstPower else rstPin)),
    fun tmode vioA vioC => run_eq dt s (·.resetRelease tmode vioA vioC),
    fun trim trimOk d h => (guarded_wf _ _ h).trans (run_eq dt s (·.pllLock trim trimOk d)),
    run_eq dt s State.flashResetRelease, fun rail v => run_eq dt s (·.railChange rail v)⟩

end Sys2Proof.Machine
end

section
/-! O21: the sine by quarters of the turn (R230). Negation and a half turn map the quarters onto each other; only the starts of the quarters need
a value, that of the first one. -/

namespace Sys2Proof.Machine

/-- The odd function of the turn whose first quarter, of `n` steps, is `f`: at step `u` of quarter `q`. -/
def turnOf (f : Nat → Int) (n q u : Nat) : Int :=
  match q with
  | 0 => f u
  | 1 => f (n - u)
  | 2 => -f u
  | _ => -f (n - u)

/-- The quarter after a half turn. -/
theorem turnOf_half (f : Nat → Int) (n : Nat) {q : Nat} (hq : q < 4) (u : Nat) : turnOf f n ((q + 2) % 4) u = -turnOf f n q u := by
  match q, hq with
  | 0, _ => rfl
  | 1, _ => rfl
  | 2, _ => exact (Int.neg_neg _).symm
  | 3, _ => exact (Int.neg_neg _).symm

/-- Inside quarter `q` the negation lies in quarter `3 - q`, as far from its end. -/
theorem turnOf_neg_inside (f : Nat → Int) (n : Nat) {q u : Nat} (hq : q < 4) (hu : u < n) : turnOf f n (3 - q) (n - u) = -turnOf f n q u := by
  have hback : n - (n - u) = u := by omega
  match q, hq with
  | 0, _ => exact congrArg (-f ·) hback
  | 1, _ => rfl
  | 2, _ => exact (congrArg f hback).trans (Int.neg_neg _).symm
  | 3, _ => exact (Int.neg_neg _).symm

/-- The starts of the quarters 0 and 2 are their own negations, and those of the quarters 1 and 3 are each other's. -/
theorem turnOf_neg_start (f : Nat → Int) (n : Nat) {q : Nat} (hq : q < 4) (h0 : f 0 = 0) : turnOf f n ((4 - q) % 4) 0 = -turnOf f n q 0 := by
  match q, hq with
  | 0, _ => simp [turnOf, h0]
  | 1, _ => rfl
  | 2, _ => simp [turnOf, h0]
  | 3, _ => exact (Int.neg_neg _).symm

theorem sinA_eq_turnOf (w : Word) : sinA w = turnOf sineF (2 ^ 30) (w.toNat / 2 ^ 30) (w.toNat % 2 ^ 30) := rfl

theorem sinA_of_toNat {w : Word} {q u : Nat} (hu : u < 2 ^ 30) (h : w.toNat = q * 2 ^ 30 + u) : sinA w = turnOf sineF (2 ^ 30) q u := by
  have hq : w.toNat / 2 ^ 30 = q := by omega
  have hr : w.toNat % 2 ^ 30 = u := by omega
  rw [sinA_eq_turnOf, hq, hr]

theorem sineF_zero : sineF 0 = 0 := by decide

theorem exists_quarter (w : Word) : ∃ q < 4, ∃ u < 2 ^ 30, w.toNat = q * 2 ^ 30 + u :=
  ⟨w.toNat / 2 ^ 30, by have := w.isLt; omega, w.toNat % 2 ^ 30, Nat.mod_lt _ (by decide), by omega⟩

theorem sinA_add_half (w : Word) : sinA (w + 0x80000000#32) = -sinA w := by
  obtain ⟨q, hq, u, hu, hw⟩ := exists_quarter w
  have hsum : (w + 0x80000000#32).toNat = (q + 2) % 4 * 2 ^ 30 + u := by
    have hadd : (w + 0x80000000#32).toNat = (w.toNat + 2 ^ 31) % 2 ^ 32 := BitVec.toNat_add _ _
    omega
  rw [sinA_of_toNat hu hsum, sinA_of_toNat hu hw, turnOf_half _ _ hq]

theorem toNat_neg_word (w : Word) : (0#32 - w).toNat = (2 ^ 32 - w.toNat) % 2 ^ 32 := by
  rw [BitVec.toNat_sub, BitVec.toNat_ofNat]
  omega

theorem sinA_neg (w : Word) : sinA (0#32 - w) = -sinA w := by
  obtain ⟨q, hq, u, hu, hw⟩ := exists_quarter w
  have hneg := toNat_neg_word w
  rw [sinA_of_toNat hu hw]
  rcases Nat.eq_zero_or_pos u with rfl | hpos
  · rw [sinA_of_toNat (q := (4 - q) % 4) (u := 0) (by decide) (by omega), turnOf_neg_start _ _ hq sineF_zero]
  · rw [sinA_of_toNat (q := 3 - q) (u := 2 ^ 30 - u) (by omega) (by omega), turnOf_neg_inside _ _ hq hu]

/-- The cosine is the sine a quarter turn on; two such quarters are the half turn that turns the sign back. -/
theorem cosA_neg (w : Word) : cosA (0#32 - w) = cosA w := by
  have hl : 0#32 - w + 0x40000000#32 = 0#32 - (w - 0x40000000#32) := by bv_omega
  have hr : w + 0x40000000#32 = w - 0x40000000#32 + 0x80000000#32 := by bv_omega
  rw [cosA, cosA, hl, sinA_neg, hr, sinA_add_half]

/-- Settles O21: the two symmetries, and the last entry of the table. -/
theorem sineIsOdd : Obligations.SineIsOdd := ⟨sinA_neg, cosA_neg, by decide⟩

end Sys2Proof.Machine
end

section
/-! O22: the Echo form of every stage kind (R271, R272). Each operation of a stage commutes with negation (Laws/Arith.lean), and with it the bit
that says whether a limit acted; limits that are operands change places. -/

namespace Sys2Proof.Machine

/-! ### Limits with their bits -/

theorem qS_neg (a : Int) : qS (-a) = (-(qS a).1, (qS a).2) := by
  simp only [qS, q_neg, qRaw_neg, ne_eq, neg_inj]

theorem satS_neg (v : Int) : satS (-v) = (-(satS v).1, (satS v).2) := by
  simp only [satS, sat32_neg, ne_eq, neg_inj]

theorem lim64_neg (v : Int) : lim64 (-v) = (-(lim64 v).1, (lim64 v).2) := by
  simp only [lim64, sat64_neg, ne_eq, neg_inj]

/-- The limits of a negated value are the negated limits, in the other order. -/
theorem limS_neg {lo hi : Int} (h : lo ≤ hi) (v : Int) : limS (-hi) (-lo) (-v) = (-(limS lo hi v).1, (limS lo hi v).2) := by
  simp only [limS, clampI_neg lo hi v h, ne_eq, neg_inj]

/-! ### Angle words -/

theorem neg32_add (a b : Word) : neg32 a + neg32 b = neg32 (a + b) := by
  unfold neg32
  bv_omega

theorem sinA_neg32 (w : Word) : sinA (neg32 w) = -sinA w := sinA_neg w
theorem cosA_neg32 (w : Word) : cosA (neg32 w) = cosA w := cosA_neg w

theorem neg32_eq_neg (w : Word) : neg32 w = -w := BitVec.zero_sub w

theorem wordOf_toNat (w : Word) : wordOf w.toNat = w := by simp [wordOf]

theorem wordOf_mul (a b : Int) : wordOf (a * b) = wordOf a * wordOf b := BitVec.ofInt_mul ..

/-- A multiple of a negated angle word is the negated multiple, modulo a turn. -/
theorem wordOf_mul_neg32 (h : Int) (th : Word) : wordOf (h * (neg32 th).toNat) = neg32 (wordOf (h * th.toNat)) := by
  rw [wordOf_mul, wordOf_mul, wordOf_toNat, wordOf_toNat, neg32_eq_neg, neg32_eq_neg]
  exact BitVec.mul_neg ..

/-! ### Stages without limits of their own -/

theorem stageSub_mirrors (a b : Int) : (stageSub a b).Mirrors (stageSub (-a) (-b)) := by
  have hdiff : -a - -b = -(a - b) := by omega
  simp only [StageOut.Mirrors, stageSub, hdiff, satS_neg, List.map_cons, List.map_nil, and_self]

theorem stageGain_mirrors (co : List Coeff) (a : Int) : (stageGain co a).Mirrors (stageGain co (-a)) := by
  simp only [StageOut.Mirrors, stageGain, term_neg, qS_neg, List.map_cons, List.map_nil, and_self]

theorem stageSum_mirrors (co : List Coeff) (a b c : Int) : (stageSum co a b c).Mirrors (stageSum co (-a) (-b) (-c)) := by
  simp only [StageOut.Mirrors, stageSum, term_neg, addA_neg, qS_neg, List.map_cons, List.map_nil, and_self]

theorem stageBiq_mirrors (co : List Coeff) (x s1 s2 : Int) : (stageBiq co x s1 s2).Mirrors (stageBiq co (-x) (-s1) (-s2)) := by
  simp only [StageOut.Mirrors, stageBiq, term_neg, addA_neg, subA_neg, qS_neg, lim64_neg, List.map_cons, List.map_nil, and_self]

theorem stageLead_mirrors (co : List Coeff) (x z : Int) : (stageLead co x z).Mirrors (stageLead co (-x) (-z)) := by
  simp only [StageOut.Mirrors, stageLead, term_neg, addA_neg, subA_neg, qS_neg, lim64_neg, List.map_cons, List.map_nil, and_self]

theorem stageClarke_mirrors (opt : Nat) (a b c : Int) : (stageClarke opt a b c).Mirrors (stageClarke opt (-a) (-b) (-c)) := by
  have hthird : (if bitOf opt 0 then -(-a + -b) else -c) = -(if bitOf opt 0 then -(a + b) else c) := by split <;> omega
  have halpha (c : Int) : 2 * -a - -b - -c = -(2 * a - b - c) := by omega
  have hbeta (c : Int) : -b - -c = -(b - c) := by omega
  simp only [StageOut.Mirrors, stageClarke, hthird, halpha, hbeta, term_neg, qS_neg, List.map_cons, List.map_nil, and_self]

/-! ### Stages with angles or factors of the lead pass -/

theorem stagePark_mirrors (inv : Bool) (a b : Int) (th : Word) :
    (stagePark inv false a b th).Mirrors (stagePark inv true (-a) (-b) (neg32 th)) := by
  cases inv <;>
    simp [StageOut.Mirrors, stagePark, cosA_neg32, sinA_neg32, term_neg, addA_neg, subA_neg, qS_neg]

theorem stageDecpl_mirrors (co : List Coeff) (d iq w : Int) : (stageDecpl false co d iq w).Mirrors (stageDecpl true co (-d) (-iq) (-w)) := by
  simp [StageOut.Mirrors, stageDecpl, prod_neg_right, mulA_neg, term_neg, addA_neg, qS_neg]

theorem stageFf_mirrors (co : List Coeff) (ti tj f b : Int) (lim : Bool) :
    (stageFf false co ti tj f b lim).Mirrors (stageFf true co ti tj f (-b) lim) := by
  simp [StageOut.Mirrors, stageFf, term_neg, addA_neg, qS_neg]

theorem stageRes_mirrors (co : List Coeff) (h a : Int) (th phi : Word) (ic is : Int) :
    (stageRes false co h a th phi ic is).Mirrors (stageRes true co h (-a) (neg32 th) (neg32 phi) (-ic) (-is)) := by
  have hlim (v : Int) : limS (-(sMax * 2 ^ 24)) (sMax * 2 ^ 24) (-v) =
      (-(limS (-(sMax * 2 ^ 24)) (sMax * 2 ^ 24) v).1, (limS (-(sMax * 2 ^ 24)) (sMax * 2 ^ 24) v).2) := by
    simpa only [Int.neg_neg] using limS_neg (lo := -(sMax * 2 ^ 24)) (hi := sMax * 2 ^ 24) (by decide) v
  simp only [StageOut.Mirrors, stageRes, wordOf_mul_neg32, neg32_add, sinA_neg32, cosA_neg32, Int.neg_neg, reduceIte, Bool.false_eq_true,
    term_neg, mulA_neg, addA_neg, hlim, qS_neg, List.map_cons, List.map_nil, and_self]

/-! ### Stages with limits as operands -/

theorem stageSat_mirrors (a b c : Int) : (stageSat false a b c).Mirrors (stageSat true (-a) (-b) (-c)) := by
  by_cases h : b < c
  · have hneg : -c < -b := by omega
    simp [StageOut.Mirrors, stageSat, h]
  · have hneg : ¬ -c < -b := by omega
    simp [StageOut.Mirrors, stageSat, h, limS_neg (Int.not_lt.1 h)]

theorem stageRate_mirrors (a b c y : Int) : (stageRate false a b c y).Mirrors (stageRate true (-a) (-b) (-c) (-y)) := by
  have hlim (v : Int) : limS (-max b 0) (max c 0) (-v) = (-(limS (-max c 0) (max b 0) v).1, (limS (-max c 0) (max b 0) v).2) := by
    simpa only [Int.neg_neg] using limS_neg (lo := -max c 0) (hi := max b 0) (by omega) v
  have hdiff : -a - -y = -(a - y) := by omega
  have hsum (d : Int) : -y + -d = -(y + d) := by omega
  simp only [StageOut.Mirrors, stageRate, Int.neg_neg, reduceIte, Bool.false_eq_true, hdiff, hlim, hsum, satS_neg, List.map_cons,
    List.map_nil, and_self]

theorem stagePi_mirrors (pid : Bool) (co : List Coeff) (e b c i ep f : Int) :
    (stagePi pid false co e b c i ep f).Mirrors (stagePi pid true co (-e) (-b) (-c) (-i) (-ep) (-f)) := by
  have hdiff : -e - -ep = -(e - ep) := by omega
  by_cases h : b < c
  · cases pid <;> simp [StageOut.Mirrors, stagePi, h]
  · have hbc : c ≤ b := Int.not_lt.1 h
    have hwide (v : Int) : limS (-b * 2 ^ 24) (-c * 2 ^ 24) (-v) =
        (-(limS (c * 2 ^ 24) (b * 2 ^ 24) v).1, (limS (c * 2 ^ 24) (b * 2 ^ 24) v).2) := by
      simpa only [Int.neg_mul] using limS_neg (lo := c * 2 ^ 24) (hi := b * 2 ^ 24) (by omega) v
    have hneg : ¬ -c < -b := by omega
    have hzero (x : Int) : addA (-x) 0 = -addA x 0 := addA_neg x 0
    cases pid <;>
      simp only [StageOut.Mirrors, stagePi, if_neg h, if_neg hneg, reduceIte, Bool.false_eq_true, hdiff, term_neg, addA_neg, subA_neg,
        mulA_neg, hwide, hzero, lim64_neg, qS_neg, limS_neg hbc, List.map_cons, List.map_nil, and_self]

/-- Settles O22: one lemma per stage kind. -/
theorem echoStagesMirror : Obligations.EchoStagesMirror :=
  ⟨stageSub_mirrors, stageGain_mirrors, stageSum_mirrors, stageSat_mirrors, stageRate_mirrors, stagePi_mirrors, stageRes_mirrors,
    stageBiq_mirrors, stageLead_mirrors, stageClarke_mirrors, stagePark_mirrors, stageDecpl_mirrors, stageFf_mirrors⟩

end Sys2Proof.Machine
end

section
/-! O23: a stage of a run in which no fault has occurred (R264 to R272). What a run reads leaves the block as it is but for a few registers and
flags of the run (`EWork.ReadsTo`), so both passes read the same words; the operands, states and tables of the Echo pass are the negations
that `echoStagesMirror` asks for. -/

namespace Sys2Proof.Machine

/-! ### Memory without parity errors -/

theorem State.parOk_of_clean {s : State} (h : s.parBad = []) (a : Nat) : s.parOk a = true := by
  rw [State.parOk, h]
  rfl

theorem State.readByte_of_parOk {s : State} {a : Nat} (h : s.parOk a = true) (req : Nat) : s.readByte req a = (some (s.byte a), s) := if_pos h

theorem State.goodByte_of_clean {s : State} (h : s.parBad = []) (a : Nat) : s.goodByte a = s.byte a :=
  if_neg (by simp [State.parOk_of_clean h])

theorem State.read32_of_clean {s : State} (h : s.parBad = []) (req a : Nat) : s.read32 req a = (some (s.peek32 a), s) := by
  simp only [State.read32, State.readByte_of_parOk (State.parOk_of_clean h _), State.peek32, State.goodByte_of_clean h]

/-! ### What reading changes -/

/-- What a run changes when it reads: its own notes of the read, the captured rate of a domain, and the flags of a value that R5 keeps out of
signals. -/
structure EWork.ReadsTo (w w' : EWork) : Prop where
  run : w'.r = { w.r with reads := w'.r.reads, busErr := w'.r.busErr, stale := w'.r.stale, refinv := w'.r.refinv }
  state : w'.s = { w.s with doms := w'.s.doms, regs := w'.s.regs, raised := w'.s.raised, hwSets := w'.s.hwSets }
  reg : ∀ a, (∀ n < 4, a ≠ Reg.FE_FLAG n ∧ a ≠ Reg.FE_LASTCTX n) → w'.s.reg a = w.s.reg a

theorem EWork.ReadsTo.refl (w : EWork) : w.ReadsTo w := ⟨rfl, rfl, fun _ _ => rfl⟩

theorem EWork.ReadsTo.trans {u v w : EWork} (huv : u.ReadsTo v) (hvw : v.ReadsTo w) : u.ReadsTo w where
  run := by rw [hvw.run, huv.run]
  state := by rw [hvw.state, huv.state]
  reg a ha := (hvw.reg a ha).trans (huv.reg a ha)

/-- The notes of a run may change at will. -/
theorem EWork.readsTo_note (w : EWork) (reads : List (Nat × Word)) (busErr stale refinv : Bool) :
    w.ReadsTo { w with r := { w.r with reads := reads, busErr := busErr, stale := stale, refinv := refinv } } := ⟨rfl, rfl, fun _ _ => rfl⟩

theorem EWork.ReadsTo.clean {w w' : EWork} (h : w.ReadsTo w') (hc : w.s.parBad = []) : w'.s.parBad = [] := by
  rw [h.state]
  exact hc

theorem EWork.ReadsTo.peek32 {w w' : EWork} (h : w.ReadsTo w') (a : Nat) : w'.s.peek32 a = w.s.peek32 a := by
  rw [h.state]
  rfl

theorem EWork.ReadsTo.ctx {w w' : EWork} (h : w.ReadsTo w') : w'.ctx = w.ctx := by
  rw [EWork.ctx, h.run, EWork.ctx]

theorem EWork.ReadsTo.mem {w w' : EWork} (h : w.ReadsTo w') : w'.s.mem = w.s.mem := by rw [h.state]

theorem State.ctxEng_lt (s : State) (c : Nat) : s.ctxEng c < 4 := Nat.mod_lt _ (Nat.two_pow_pos 2)

theorem EWork.ReadsTo.split {w w' : EWork} (h : w.ReadsTo w') : w'.split = w.split := by
  have heng : w'.eng = w.eng := by
    rw [EWork.eng, h.ctx, State.ctxEng, State.cfld, h.peek32]
    rfl
  have hreg : w'.s.reg (Reg.FE_CFG w.eng) = w.s.reg (Reg.FE_CFG w.eng) :=
    h.reg _ fun n _ => ⟨by simp only [Reg.FE_CFG, Reg.FE_FLAG]; omega, by simp only [Reg.FE_CFG, Reg.FE_LASTCTX]; omega⟩
  rw [EWork.split, heng, State.engSplit, State.flag, State.fld]
  exact congrArg (fun x => Word.get x 30 1 != 0) hreg

/-- The configuration of a feed-forward block is read once for both passes. -/
theorem EWork.ReadsTo.ffCfg {w w' : EWork} (h : w.ReadsTo w') (n : Nat) : w'.s.reg (Reg.FF_CFG n) = w.s.reg (Reg.FF_CFG n) :=
  h.reg _ fun k hk => ⟨by simp only [Reg.FF_CFG, Reg.FE_FLAG]; omega, by simp only [Reg.FF_CFG, Reg.FE_LASTCTX]; omega⟩

/-! ### Reads -/

/-- The word that a run reads at an address: the old one where a commit has replaced it (R220). -/
def EWork.wordAt (w : EWork) (a : Nat) : Word :=
  match w.r.old.find? fun p => p.1 == a with
  | some (_, x) => x.getD 0
  | none => w.s.peek32 a

theorem EWork.ReadsTo.wordAt {w w' : EWork} (h : w.ReadsTo w') : w'.wordAt = w.wordAt := by
  funext a
  rw [EWork.wordAt, h.peek32, h.run, EWork.wordAt]

theorem EWork.read_spec (w : EWork) (h : w.s.parBad = []) (a : Nat) : (w.read a).1 = w.wordAt a ∧ w.ReadsTo (w.read a).2 := by
  unfold EWork.read EWork.wordAt
  rw [State.read32_of_clean h]
  split
  next _ x hold => exact ⟨by rw [hold]; rfl, .refl w⟩
  next hold => exact ⟨by rw [hold]; rfl, w.readsTo_note ..⟩
  next hold => exact ⟨by rw [hold], .refl w⟩

theorem EWork.read_fst (w : EWork) (h : w.s.parBad = []) (a : Nat) : (w.read a).1 = w.wordAt a := (w.read_spec h a).1
theorem EWork.read_readsTo (w : EWork) (h : w.s.parBad = []) (a : Nat) : w.ReadsTo (w.read a).2 := (w.read_spec h a).2

theorem EWork.readMany_spec (as : List Nat) : ∀ w : EWork, w.s.parBad = [] →
    (w.readMany as).1 = as.map w.wordAt ∧ w.ReadsTo (w.readMany as).2 := by
  induction as with
  | nil => exact fun w _ => ⟨rfl, .refl w⟩
  | cons a as ih =>
    intro w hc
    have hread := w.read_readsTo hc a
    obtain ⟨hval, hto⟩ := ih (w.read a).2 (hread.clean hc)
    refine ⟨?_, hread.trans hto⟩
    calc (w.readMany (a :: as)).1 = (w.read a).1 :: ((w.read a).2.readMany as).1 := rfl
      _ = _ := by rw [w.read_fst hc, hval, hread.wordAt, List.map_cons]

theorem EWork.readsTo_afterRead (w : EWork) (a : Nat) : w.ReadsTo { w with s := w.s.afterRead a false } := by
  have hwhen (d : Nat) (b : Bool) (f : Dom → Dom) : w.ReadsTo { w with s := w.s.when b (·.modDom d f) } := by
    cases b
    · exact .refl w
    · exact ⟨rfl, rfl, fun _ _ => rfl⟩
  unfold State.afterRead
  dsimp only
  split
  · exact hwhen _ _ _
  · exact hwhen _ _ _

/-- A run that has met an input of another period is stale (R227). -/
def EWork.noteStale (w : EWork) (ok : Bool) : EWork := { w with r := { w.r with stale := w.r.stale || !ok } }

theorem EWork.input_readsTo (w : EWork) (h : w.s.parBad = []) (d : Word) : w.ReadsTo (w.input d).2 := by
  unfold EWork.input
  dsimp only
  split
  · exact w.readsTo_note ..
  · have hhdr (a : Nat) (ok : Bool) : w.ReadsTo ((w.read a).2.noteStale ok) := (w.read_readsTo h a).trans (EWork.readsTo_note _ _ _ _ _)
    have hval (a b : Nat) (ok : Bool) : w.ReadsTo (((w.read a).2.noteStale ok).read b).2 :=
      (hhdr a ok).trans (EWork.read_readsTo _ ((hhdr a ok).clean h) b)
    split
    · exact ((hval _ _ _).trans (EWork.read_readsTo _ ((hval _ _ _).clean h) _)).trans (EWork.readsTo_note _ _ _ _ _)
    · exact hval _ _ _
  · exact .refl w
  · exact .refl w
  · exact .refl w
  · exact w.read_readsTo h _
  · exact w.readsTo_afterRead _
  · exact .refl w

theorem EWork.feFlag_readsTo (w : EWork) (c : Nat) : w.ReadsTo { w with s := w.s.feFlag c F.FE_FLAG_NEGMAX Ev.FE_NEGMAX } := by
  refine ⟨rfl, rfl, fun a ha => ?_⟩
  obtain ⟨hflag, hlast⟩ := ha _ (w.s.ctxEng_lt c)
  exact (State.reg_setFld_ne _ _ _ hlast).trans (State.reg_setFlag_ne _ _ _ hflag)

/-- The word that the lead pass finds at an operand code, before R216. -/
def EWork.rawOf (w : EWork) (code : Nat) : Word × EWork :=
  if code < 0x20 then (w.r.lead.getD code 0, w)
  else if code < 0x40 then
    let (d, w) := w.read (ctxAddr w.ctx + 0x10 + 4 * (code - 0x20))
    w.input d
  else if code < 0x60 then w.read (ctxAddr w.ctx + 0x150 + 4 * (code - 0x40))
  else (0, w)

/-- R216: a signal with the code that R5 keeps out of signals is replaced, with the flag. -/
def EWork.asSignal (w : EWork) (v : Word) (angle : Bool) : Word × EWork :=
  if !angle && v == 0x80000000#32 then
    (0x80000001#32, { w with s := w.s.feFlag w.ctx F.FE_FLAG_NEGMAX Ev.FE_NEGMAX }) else (v, w)

/-- The value of an operand enters the operand buffer. -/
def EWork.buffered (w : EWork) (code : Nat) (v : Word) : EWork := { w with r := { w.r with reads := (code, v) :: w.r.reads } }

theorem EWork.leadOf_eq (w : EWork) (code : Nat) (angle : Bool) :
    w.leadOf code angle =
      let x := (w.rawOf code).2.asSignal (w.rawOf code).1 angle
      (x.1, x.2.buffered code x.1) := rfl

theorem EWork.rawOf_readsTo (w : EWork) (h : w.s.parBad = []) (code : Nat) : w.ReadsTo (w.rawOf code).2 := by
  have hread (a : Nat) := w.read_readsTo h a
  unfold EWork.rawOf
  split
  · exact .refl w
  · split
    · exact (hread _).trans (EWork.input_readsTo _ ((hread _).clean h) _)
    · split
      · exact hread _
      · exact .refl w

theorem EWork.asSignal_readsTo (w : EWork) (v : Word) (angle : Bool) : w.ReadsTo (w.asSignal v angle).2 := by
  unfold EWork.asSignal
  split
  · exact w.feFlag_readsTo _
  · exact .refl w

theorem EWork.leadOf_readsTo (w : EWork) (h : w.s.parBad = []) (code : Nat) (angle : Bool) : w.ReadsTo (w.leadOf code angle).2 := by
  rw [EWork.leadOf_eq]
  exact ((w.rawOf_readsTo h code).trans (EWork.asSignal_readsTo ..)).trans (EWork.readsTo_note _ _ _ _ _)

/-! ### Operands -/

/-- The two values of an operand: the Echo one is the negation, and a signal is not the code that R5 keeps out of signals. -/
structure OperandMirrors (angle : Bool) (p : Word × Word) : Prop where
  echo : p.2 = neg32 p.1
  signal : angle = false → p.1 ≠ 0x80000000#32

theorem EWork.asSignal_signal (w : EWork) (v : Word) : (w.asSignal v false).1 ≠ 0x80000000#32 := by
  unfold EWork.asSignal
  split
  next => exact (by decide : 0x80000001#32 ≠ 0x80000000#32)
  next h => simpa using h

theorem EWork.asSignal_of_signal (w : EWork) {v : Word} (h : v ≠ 0x80000000#32) (angle : Bool) : w.asSignal v angle = (v, w) :=
  if_neg (by simp [h])

theorem getD_ne_of_forall {l : List Word} {x : Word} (h : ∀ y ∈ l, y ≠ x) (h0 : (0 : Word) ≠ x) (i : Nat) : l.getD i 0 ≠ x := by
  rw [List.getD_eq_getElem?_getD]
  cases hi : l[i]? with
  | none => exact h0
  | some y => exact h y (List.mem_of_getElem? hi)

theorem getD_map_neg32 (l : List Word) (i : Nat) : (l.map neg32).getD i 0 = neg32 (l.getD i 0) := by
  rw [List.getD_eq_getElem?_getD, List.getD_eq_getElem?_getD, List.getElem?_map]
  cases l[i]? <;> rfl

/-- The slots of a run in which no fault has occurred. -/
structure EWork.SlotsMirror (w : EWork) : Prop where
  clean : w.s.parBad = []
  echo : w.r.echo = w.r.lead.map neg32
  signal : ∀ x ∈ w.r.lead, x ≠ 0x80000000#32

theorem EWork.ReadsTo.slotsMirror {w w' : EWork} (h : w.ReadsTo w') (hw : w.SlotsMirror) : w'.SlotsMirror where
  clean := h.clean hw.clean
  echo := by
    rw [h.run]
    exact hw.echo
  signal := by
    rw [h.run]
    exact hw.signal

theorem EWork.operand_readsTo (w : EWork) (h : w.s.parBad = []) (code : Nat) (angle : Bool) : w.ReadsTo (w.operand code angle).2 :=
  w.leadOf_readsTo h code angle

theorem EWork.operand_mirrors (w : EWork) (h : w.SlotsMirror) (code : Nat) (angle : Bool) : OperandMirrors angle (w.operand code angle).1 := by
  by_cases hcode : code < 0x20
  · have hval : w.r.lead.getD code 0 ≠ 0x80000000#32 := getD_ne_of_forall h.signal (by decide) code
    have hraw : w.rawOf code = (w.r.lead.getD code 0, w) := if_pos hcode
    have hlead : (w.leadOf code angle).1 = w.r.lead.getD code 0 := by
      rw [EWork.leadOf_eq, hraw]
      dsimp only
      rw [EWork.asSignal_of_signal _ hval]
    have hrun : (w.leadOf code angle).2.r.echo = w.r.echo := by rw [(w.leadOf_readsTo h.clean code angle).run]
    refine ⟨?_, fun _ => hlead ▸ hval⟩
    calc (if code < 0x20 then (w.leadOf code angle).2.r.echo.getD code 0 else neg32 (w.leadOf code angle).1)
        = w.r.echo.getD code 0 := by rw [if_pos hcode, hrun]
      _ = neg32 (w.leadOf code angle).1 := by rw [h.echo, getD_map_neg32, hlead]
  · refine ⟨if_neg hcode, ?_⟩
    rintro rfl
    exact EWork.asSignal_signal _ _

theorem EWork.operands_spec (specs : List (Nat × Bool)) : ∀ w : EWork, w.SlotsMirror →
    List.Forall₂ (fun o p => OperandMirrors o.2 p) specs (w.operands specs).1 ∧ w.ReadsTo (w.operands specs).2 := by
  induction specs with
  | nil => exact fun w _ => ⟨.nil, .refl w⟩
  | cons o rest ih =>
    intro w hw
    have hone := w.operand_readsTo hw.clean o.1 o.2
    obtain ⟨hall, hto⟩ := ih (w.operand o.1 o.2).2 (hone.slotsMirror hw)
    exact ⟨.cons (w.operand_mirrors hw o.1 o.2) hall, hone.trans hto⟩

end Sys2Proof.Machine
end

section
/-! O23, continued: one pass of a stage as a function of the words that it reads, and the Echo pass of a stage as the mirror of its lead pass. -/

namespace Sys2Proof.Machine

/-! ### What a pass reads -/

/-- The coefficients that a stage reads. -/
def EWork.coeffList (w : EWork) (k n : Nat) : List Coeff :=
  (((List.range n).map fun j => w.wordAt (slotAddr w.ctx (k + j))).zip ((List.range n).map fun j => w.wordAt (slotAddr w.ctx (k + j) + 4))).map
    fun p => ⟨p.1.toInt, signed 6 (Word.get p.2 0 6)⟩

/-- State word `j` above `base`, as a stage reads it. -/
def EWork.stateAt (w : EWork) (base j : Nat) (wide : Bool) : Int :=
  if wide then signed 64 ((w.wordAt (base + 4 * j)).toNat + (w.wordAt (base + 4 * j + 4)).toNat * 2 ^ 32) else (w.wordAt (base + 4 * j)).toInt

/-- The states that a stage reads. -/
def EWork.stateList (w : EWork) (base t : Nat) (l : List (Nat × Bool)) : List Int := l.map fun p => w.stateAt base (t + p.1) p.2

theorem EWork.ReadsTo.coeffList {w w' : EWork} (h : w.ReadsTo w') (k n : Nat) : w'.coeffList k n = w.coeffList k n := by
  unfold EWork.coeffList
  rw [h.wordAt, h.ctx]

theorem EWork.ReadsTo.stateList {w w' : EWork} (h : w.ReadsTo w') (base t : Nat) (l : List (Nat × Bool)) :
    w'.stateList base t l = w.stateList base t l := by
  unfold EWork.stateList EWork.stateAt
  rw [h.wordAt]

theorem EWork.coeffs_spec (w : EWork) (h : w.s.parBad = []) (k n : Nat) :
    (w.coeffs k n).1 = w.coeffList k n ∧ w.ReadsTo (w.coeffs k n).2 := by
  obtain ⟨hms, hto⟩ := EWork.readMany_spec ((List.range n).map fun j => slotAddr w.ctx (k + j)) w h
  obtain ⟨hss, hto'⟩ := EWork.readMany_spec ((List.range n).map fun j => slotAddr w.ctx (k + j) + 4) _ (hto.clean h)
  refine ⟨?_, ?_⟩
  · unfold EWork.coeffs EWork.coeffList
    dsimp only
    rw [hms, hto.ctx, hss, hto.wordAt, List.map_map, List.map_map]
    rfl
  · unfold EWork.coeffs
    dsimp only
    rw [hto.ctx]
    exact hto.trans hto'

/-- One state of a stage, as the run reads it. -/
def EWork.readState (w : EWork) (a : Nat) (wide : Bool) : Int × EWork :=
  let lo := w.read a
  if wide then
    let hi := lo.2.read (a + 4)
    (signed 64 (lo.1.toNat + hi.1.toNat * 2 ^ 32), hi.2)
  else (lo.1.toInt, lo.2)

theorem EWork.states_cons (w : EWork) (base t j : Nat) (wide : Bool) (l : List (Nat × Bool)) :
    w.states base t ((j, wide) :: l) =
      let x := w.readState (base + 4 * (t + j)) wide
      (x.1 :: (x.2.states base t l).1, (x.2.states base t l).2) := by
  rw [EWork.states, EWork.readState]

theorem EWork.readState_spec (w : EWork) (h : w.s.parBad = []) (base j : Nat) (wide : Bool) :
    (w.readState (base + 4 * j) wide).1 = w.stateAt base j wide ∧ w.ReadsTo (w.readState (base + 4 * j) wide).2 := by
  have hlo := w.read_readsTo h (base + 4 * j)
  have hhi := hlo.trans (EWork.read_readsTo _ (hlo.clean h) (base + 4 * j + 4))
  unfold EWork.readState EWork.stateAt
  cases wide with
  | false => exact ⟨by simp only [Bool.false_eq_true, reduceIte, w.read_fst h], hlo⟩
  | true => exact ⟨by simp only [reduceIte, w.read_fst h, EWork.read_fst _ (hlo.clean h), hlo.wordAt], hhi⟩

theorem EWork.states_spec (base t : Nat) (l : List (Nat × Bool)) : ∀ w : EWork, w.s.parBad = [] →
    (w.states base t l).1 = w.stateList base t l ∧ w.ReadsTo (w.states base t l).2 := by
  induction l with
  | nil => exact fun w _ => ⟨rfl, .refl w⟩
  | cons p l ih =>
    obtain ⟨j, wide⟩ := p
    intro w h
    obtain ⟨hval, hto⟩ := w.readState_spec h base (t + j) wide
    obtain ⟨hrest, hto'⟩ := ih _ (hto.clean h)
    rw [EWork.states_cons]
    dsimp only
    rw [hval, hrest, hto.stateList]
    exact ⟨rfl, hto.trans hto'⟩

/-! ### A pass as a function -/

/-- What a pass of a stage computes from its operands, coefficients, states and the words of its feed-forward table. -/
def stagePass (g : Stage) (echo : Bool) (ops : List Word) (co : List Coeff) (st : List Int) (mode sh : Nat) (table : Nat → Word) : StageOut :=
  let x (i : Nat) : Word := ops.getD i 0
  let v (i : Nat) : Int := (x i).toInt
  let z (i : Nat) : Int := st.getD i 0
  match g.kind with
  | 0 => stageSub (v 0) (v 1)
  | 1 => stageGain co (v 0)
  | 2 => stageSum co (v 0) (v 1) (v 2)
  | 3 => stagePi false echo co (v 0) (v 1) (v 2) (z 0) 0 0
  | 4 => stagePi true echo co (v 0) (v 1) (v 2) (z 0) (z 1) (z 2)
  | 5 => stageRes echo co (signed 8 g.opt) (v 0) (x 1) (x 2) (z 0) (z 1)
  | 6 => stageBiq co (v 0) (z 0) (z 1)
  | 7 => stageLead co (v 0) (z 0)
  | 8 => stageSat echo (v 0) (v 1) (v 2)
  | 9 => stageRate echo (v 0) (v 1) (v 2) (z 0)
  | 10 =>
    let k := ffIndex mode sh (if echo then neg32 (x 0) else x 0) (if echo then -(v 0) else v 0)
    stageFf echo co (table k.1).toInt (table k.2.1).toInt k.2.2.1 (v 1) k.2.2.2
  | 11 => stageClarke g.opt (v 0) (v 1) (v 2)
  | 12 => stagePark false echo (v 0) (v 1) (x 2)
  | 13 => stagePark true echo (v 0) (v 1) (x 2)
  | 14 => stageDecpl echo co (v 0) (v 1) (v 2)
  | _ => ⟨[v 0], [], false⟩

/-- The base of the states of a pass. -/
def stateBase (echo : Bool) (c : Nat) : Nat := if echo then echoState c else leadState c

/-- The words of the feed-forward table of a pass. -/
def EWork.ffTable (w : EWork) (echo : Bool) (n i : Nat) : Word :=
  w.wordAt (tabA + w.s.fld (F.FF_CFG_BLK n) * 0x1000 + (if echo then bankSize else 0) + 4 * i)

theorem EWork.ReadsTo.fld_ffCfg {w w' : EWork} (h : w.ReadsTo w') (n l b : Nat) :
    w'.s.fld ⟨Reg.FF_CFG n, l, b⟩ = w.s.fld ⟨Reg.FF_CFG n, l, b⟩ := congrArg (fun x => Word.get x l b) (h.ffCfg n)

theorem EWork.pass_spec (w : EWork) (h : w.s.parBad = []) (g : Stage) (echo : Bool) (ops : List Word) :
    (w.pass g echo ops).1 = stagePass g echo ops (w.coeffList g.k (kindCoeffs g.kind)) (w.stateList (stateBase echo w.ctx) g.t (kindStates g.kind))
      (w.s.fld (F.FF_CFG_MODE (g.opt % 64))) (w.s.fld (F.FF_CFG_SH (g.opt % 64))) (w.ffTable echo (g.opt % 64)) ∧
    w.ReadsTo (w.pass g echo ops).2 := by
  obtain ⟨hco, hcoTo⟩ := w.coeffs_spec h g.k (kindCoeffs g.kind)
  obtain ⟨hst, hstTo⟩ := EWork.states_spec (stateBase echo w.ctx) g.t (kindStates g.kind) _ (hcoTo.clean h)
  have hto := hcoTo.trans hstTo
  rw [hcoTo.stateList] at hst
  have hbase : (if echo = true then echoState (w.coeffs g.k (kindCoeffs g.kind)).2.ctx else leadState (w.coeffs g.k (kindCoeffs g.kind)).2.ctx) =
      stateBase echo w.ctx := by rw [hcoTo.ctx]; rfl
  unfold EWork.pass stagePass
  dsimp only
  rw [hbase, hst, hco]
  generalize ((w.coeffs g.k (kindCoeffs g.kind)).2.states (stateBase echo w.ctx) g.t (kindStates g.kind)).2 = w2 at hto
  rw [show w2.s.fld (F.FF_CFG_MODE (g.opt % 64)) = w.s.fld (F.FF_CFG_MODE (g.opt % 64)) from hto.fld_ffCfg _ 30 1,
    show w2.s.fld (F.FF_CFG_SH (g.opt % 64)) = w.s.fld (F.FF_CFG_SH (g.opt % 64)) from hto.fld_ffCfg _ 20 4,
    show w2.s.fld (F.FF_CFG_BLK (g.opt % 64)) = w.s.fld (F.FF_CFG_BLK (g.opt % 64)) from hto.fld_ffCfg _ 0 9]
  generalize w.coeffList g.k (kindCoeffs g.kind) = co
  generalize w.stateList (stateBase echo w.ctx) g.t (kindStates g.kind) = st
  generalize g.kind = kind
  rcases Nat.lt_or_ge kind 15 with hk | hk
  · interval_cases kind
    -- Kind 10, FF, alone reads its table after the states.
    on_goal 11 =>
      have hread (v : EWork) (hv : w.ReadsTo v) (i : Nat) :
          (v.read (tabA + w.s.fld (F.FF_CFG_BLK (g.opt % 64)) * 0x1000 + (if echo = true then bankSize else 0) + 4 * i)).1 =
            w.ffTable echo (g.opt % 64) i := by
        rw [v.read_fst (hv.clean h), hv.wordAt]
        rfl
      have hto' := fun a => hto.trans (w2.read_readsTo (hto.clean h) a)
      exact ⟨by rw [hread _ hto, hread _ (hto' _)]; rfl, (hto' _).trans (EWork.read_readsTo _ ((hto' _).clean h) _)⟩
    all_goals exact ⟨rfl, hto⟩
  · obtain ⟨n, rfl⟩ := Nat.exists_eq_add_of_le' hk
    exact ⟨rfl, hto⟩

end Sys2Proof.Machine
end

section
/-! O23, continued: the Echo pass of a stage mirrors its lead pass, kind by kind (R271, R272), and what the stage puts into its slots is a signal
again (R4, R5). -/

namespace Sys2Proof.Machine

/-! ### Operands as numbers -/

theorem toInt_neg32 {w : Word} (h : w ≠ 0x80000000#32) : (neg32 w).toInt = -w.toInt := by
  rw [neg32_eq_neg, BitVec.toInt_neg_of_ne_intMin h]

theorem getD_map_neg (l : List Int) (i : Nat) : (l.map fun x => -x).getD i 0 = -l.getD i 0 := by
  rw [List.getD_eq_getElem?_getD, List.getD_eq_getElem?_getD, List.getElem?_map]
  cases l[i]? <;> rfl

theorem neg32_neg32 (w : Word) : neg32 (neg32 w) = w := by rw [neg32_eq_neg, neg32_eq_neg, BitVec.neg_neg]

/-- A signal lies within the range of R4. -/
theorem toInt_bounds {w : Word} (h : w ≠ 0x80000000#32) : -sMax ≤ w.toInt ∧ w.toInt ≤ sMax := by
  have hlo : -2 ^ 31 ≤ w.toInt := BitVec.le_toInt w
  have hhi : w.toInt < 2 ^ 31 := BitVec.toInt_lt
  have hne : w.toInt ≠ -2 ^ 31 := fun e => h (BitVec.eq_of_toInt_eq (e.trans (by decide)))
  unfold sMax
  omega

/-! ### The Echo pass mirrors the lead pass -/

/-- The index of a feed-forward table that the Echo pass forms is that of the lead pass, for an angle and for a signal (R252, R271). -/
theorem ffIndex_echo (sh : Nat) {mode : Nat} {w e : Word} (he : e = neg32 w) (hsig : mode ≠ 0 → w ≠ 0x80000000#32) :
    ffIndex mode sh (neg32 e) (-e.toInt) = ffIndex mode sh w w.toInt := by
  have hback : neg32 e = w := by rw [he, neg32_neg32]
  by_cases hm : mode = 0
  · subst hm
    simp only [ffIndex, hback, if_true, bne_self_eq_false, Bool.false_and]
  · rw [hback, he, toInt_neg32 (hsig hm), Int.neg_neg]

theorem ffIndex_lt (mode sh : Nat) (w : Word) (a : Int) : (ffIndex mode sh w a).1 < 1024 ∧ (ffIndex mode sh w a).2.1 < 1024 := by
  have hw : w.toNat < 2 ^ 32 := w.isLt
  have hp : ((satS (a * 2 ^ sh)).1 + 2 ^ 31) % 2 ^ 32 < 2 ^ 32 := Int.emod_lt_of_pos _ (by decide)
  unfold ffIndex
  dsimp only
  split <;> omega

/-- The Echo operand words of a stage are the negations of its lead operand words. -/
theorem operand_echo {specs : List (Nat × Bool)} {ops : List (Word × Word)}
    (hops : List.Forall₂ (fun (o : Nat × Bool) (p : Word × Word) => OperandMirrors o.2 p) specs ops) (i : Nat) :
    (ops.map fun p : Word × Word => p.2).getD i 0 = neg32 ((ops.map fun p : Word × Word => p.1).getD i 0) := by
  induction hops generalizing i with
  | nil => exact (by decide : (0 : Word) = neg32 0)
  | cons h _ ih =>
    cases i with
    | zero => exact h.echo
    | succ i => exact ih i

/-- An operand that is not read as an angle is a signal; so is one that the stage does not have. -/
theorem operand_signal {specs : List (Nat × Bool)} {ops : List (Word × Word)}
    (hops : List.Forall₂ (fun (o : Nat × Bool) (p : Word × Word) => OperandMirrors o.2 p) specs ops) {i : Nat}
    (hi : (specs.getD i (0, false)).2 = false) : (ops.map fun p => p.1).getD i 0 ≠ 0x80000000#32 := by
  induction hops generalizing i with
  | nil => exact (by decide : (0 : Word) ≠ 0x80000000#32)
  | cons h _ ih =>
    cases i with
    | zero => exact h.signal hi
    | succ i => exact ih hi

theorem operand_neg {specs : List (Nat × Bool)} {ops : List (Word × Word)}
    (hops : List.Forall₂ (fun (o : Nat × Bool) (p : Word × Word) => OperandMirrors o.2 p) specs ops) {i : Nat}
    (hi : (specs.getD i (0, false)).2 = false) :
    BitVec.toInt ((ops.map fun p : Word × Word => p.2).getD i 0) = -BitVec.toInt ((ops.map fun p : Word × Word => p.1).getD i 0) := by
  rw [operand_echo hops, toInt_neg32 (operand_signal hops hi)]

/-- The operands of `CLARKE` are signals, with the third and without it (R235). -/
theorem clarke_operand_is_signal (opt a b c i : Nat) :
    ((if bitOf opt 0 then [(a, false), (b, false)] else [(a, false), (b, false), (c, false)]).getD i (0, false)).2 = false := by
  split <;> match i with
  | 0 | 1 | 2 | _ + 3 => rfl

/-- The Echo pass of a stage mirrors its lead pass, one case per kind (R231 to R235, R252, R271). -/
theorem stagePass_mirrors {g : Stage} (hkind : g.kind < 15) {ffMode : Nat → Nat} {ops : List (Word × Word)}
    (hops : List.Forall₂ (fun (o : Nat × Bool) (p : Word × Word) => OperandMirrors o.2 p) (g.operands ffMode) ops)
    (co : List Coeff) (st : List Int) (sh : Nat) {table etable : Nat → Word} (htable : ∀ i < 1024, etable i = table i) :
    (stagePass g false (ops.map fun p => p.1) co st (ffMode (g.opt % 64)) sh table).Mirrors
      (stagePass g true (ops.map fun p => p.2) co (st.map fun x => -x) (ffMode (g.opt % 64)) sh etable) := by
  obtain ⟨kind, a, b, c, d, k, t, opt, target⟩ := g
  have hx := operand_echo hops
  have hv (i : Nat) := operand_neg hops (i := i)
  unfold stagePass
  have hs (i : Nat) := operand_signal hops (i := i)
  have hclarke (i : Nat) := clarke_operand_is_signal opt a b c i
  simp only [getD_map_neg]
  generalize (ops.map fun p => p.2) = E at *
  generalize (ops.map fun p => p.1) = L at *
  generalize st.getD 0 0 = z0, st.getD 1 0 = z1, st.getD 2 0 = z2
  interval_cases kind
  · rw [hv 0 rfl, hv 1 rfl]
    exact stageSub_mirrors ..
  · rw [hv 0 rfl]
    exact stageGain_mirrors ..
  · rw [hv 0 rfl, hv 1 rfl, hv 2 rfl]
    exact stageSum_mirrors ..
  · rw [hv 0 rfl, hv 1 rfl, hv 2 rfl]
    exact stagePi_mirrors false co _ _ _ z0 0 0
  · rw [hv 0 rfl, hv 1 rfl, hv 2 rfl]
    exact stagePi_mirrors ..
  · rw [hv 0 rfl, hx 1, hx 2]
    exact stageRes_mirrors ..
  · rw [hv 0 rfl]
    exact stageBiq_mirrors ..
  · rw [hv 0 rfl]
    exact stageLead_mirrors ..
  · rw [hv 0 rfl, hv 1 rfl, hv 2 rfl]
    exact stageSat_mirrors ..
  · rw [hv 0 rfl, hv 1 rfl, hv 2 rfl]
    exact stageRate_mirrors ..
  · have hsig : ffMode (opt % 64) ≠ 0 → L.getD 0 0 ≠ 0x80000000#32 :=
      fun hm => hs 0 (beq_false_of_ne hm)
    obtain ⟨hi, hj⟩ := ffIndex_lt (ffMode (opt % 64)) sh (L.getD 0 0) (BitVec.toInt (L.getD 0 0))
    simp only [reduceIte, Bool.false_eq_true, ffIndex_echo sh (hx 0) hsig, htable _ hi, htable _ hj, hv 1 rfl]
    exact stageFf_mirrors ..
  · rw [hv 0 (hclarke 0), hv 1 (hclarke 1), hv 2 (hclarke 2)]
    exact stageClarke_mirrors ..
  · rw [hv 0 rfl, hv 1 rfl, hx 2]
    exact stagePark_mirrors ..
  · rw [hv 0 rfl, hv 1 rfl, hx 2]
    exact stagePark_mirrors ..
  · rw [hv 0 rfl, hv 1 rfl, hv 2 rfl]
    exact stageDecpl_mirrors ..

end Sys2Proof.Machine
end

section
/-! O23, concluded: what a stage puts into its slots is a signal again (R4, R5), the words that the Echo pass reads mirror those of the lead
pass, and every compare of a stage passes (R272). -/

namespace Sys2Proof.Machine

/-! ### The values of a stage are signals -/

/-- The value lies in the range of a signal (R4). -/
def IsSignal (v : Int) : Prop := -sMax ≤ v ∧ v ≤ sMax

theorem isSignal_zero : IsSignal 0 := ⟨by decide, by decide⟩
theorem isSignal_qS (a : Int) : IsSignal (qS a).1 := sat32_bounds _
theorem isSignal_satS (v : Int) : IsSignal (satS v).1 := sat32_bounds v

theorem isSignal_limS {lo hi : Int} (hlo : IsSignal lo) (hhi : IsSignal hi) (h : lo ≤ hi) (v : Int) : IsSignal (limS lo hi v).1 := by
  obtain ⟨h1, h2⟩ := clampI_bounds lo hi v h
  exact ⟨hlo.1.trans h1, h2.trans hhi.2⟩

theorem wordOf_ne_min {v : Int} (h : IsSignal v) : wordOf v ≠ 0x80000000#32 := by
  intro e
  have hv : (wordOf v).toInt = v := by
    obtain ⟨hlo, hhi⟩ := h
    unfold sMax at hlo hhi
    exact BitVec.toInt_ofInt_eq_self (by decide) (by omega) (by omega)
  rw [← hv, e] at h
  exact absurd h.1 (by decide)

theorem wordOf_neg (v : Int) : wordOf (-v) = neg32 (wordOf v) := by
  rw [neg32_eq_neg]
  exact BitVec.ofInt_neg

theorem stageSat_signal {a b c : Int} (hb : IsSignal b) (hc : IsSignal c) : ∀ v ∈ (stageSat false a b c).outs, IsSignal v := by
  unfold stageSat
  simp only [Bool.false_eq_true, reduceIte]
  split
  next => simp only [List.mem_singleton, forall_eq, isSignal_zero]
  next h => simp only [List.mem_singleton, forall_eq, isSignal_limS hc hb (by omega)]

theorem stagePi_signal (pid : Bool) (co : List Coeff) {b c : Int} (e i ep f : Int) (hb : IsSignal b) (hc : IsSignal c) :
    ∀ v ∈ (stagePi pid false co e b c i ep f).outs, IsSignal v := by
  unfold stagePi
  simp only [Bool.false_eq_true, reduceIte]
  split
  next => simp only [List.mem_singleton, forall_eq, isSignal_zero]
  next h => simp only [List.mem_singleton, forall_eq, isSignal_limS hc hb (by omega)]

/-- Every value that the lead pass of a stage gives is a signal: it is saturated, or limited by signals (R215, R231 to R235). -/
theorem stagePass_signal {g : Stage} (hkind : g.kind < 15) {ffMode : Nat → Nat} {ops : List (Word × Word)}
    (hops : List.Forall₂ (fun (o : Nat × Bool) (p : Word × Word) => OperandMirrors o.2 p) (g.operands ffMode) ops)
    (co : List Coeff) (st : List Int) (mode sh : Nat) (table : Nat → Word) :
    ∀ v ∈ (stagePass g false (ops.map fun p => p.1) co st mode sh table).outs, IsSignal v := by
  obtain ⟨kind, a, b, c, d, k, t, opt, target⟩ := g
  have hs (i : Nat) (hi) := toInt_bounds (operand_signal hops (i := i) hi)
  unfold stagePass
  generalize (ops.map fun p => p.1) = L at *
  interval_cases kind
  -- Kinds 8, 4 and 3: SAT and the two forms of PI limit by their operands, the others saturate.
  on_goal 9 => exact stageSat_signal (hs 1 rfl) (hs 2 rfl)
  on_goal 5 => exact stagePi_signal _ _ _ _ _ _ (hs 1 rfl) (hs 2 rfl)
  on_goal 4 => exact stagePi_signal _ _ _ _ _ _ (hs 1 rfl) (hs 2 rfl)
  all_goals
    simp only [stageSub, stageGain, stageSum, stageRes, stageBiq, stageLead, stageRate, stageFf, stageClarke, stagePark, stageDecpl,
      List.mem_cons, List.not_mem_nil, or_false, forall_eq_or_imp, forall_eq, isSignal_qS, isSignal_satS, and_self]

/-! ### The slots after a stage -/

theorem setSlots_mirror (d : Nat) (outs : List Int) (l : List Word) :
    setSlots (l.map neg32) d (outs.map fun v => -v) = (setSlots l d outs).map neg32 := by
  induction outs generalizing l d with
  | nil => rfl
  | cons v vs ih =>
    rw [List.map_cons, setSlots, setSlots, wordOf_neg, ← List.map_set, ih]

theorem setSlots_signal {l : List Word} (hl : ∀ x ∈ l, x ≠ 0x80000000#32) (d : Nat) {outs : List Int} (houts : ∀ v ∈ outs, IsSignal v) :
    ∀ x ∈ setSlots l d outs, x ≠ 0x80000000#32 := by
  induction outs generalizing l d with
  | nil => exact hl
  | cons v vs ih =>
    refine ih (fun x hx => ?_) (d + 1) fun u hu => houts u (List.mem_cons_of_mem v hu)
    rcases List.mem_or_eq_of_mem_set hx with hx | rfl
    · exact hl x hx
    · exact wordOf_ne_min (houts v List.mem_cons_self)

/-! ### What the Echo pass reads -/

/-- Outside the parameters of the context a run reads what memory holds now. -/
theorem EWork.Mirrors.wordAt {w : EWork} (h : w.Mirrors) {a : Nat} (ha : a < ctxAddr w.ctx ∨ leadState w.ctx ≤ a) :
    w.wordAt a = w.s.peek32 a := by
  obtain ⟨-, -, -, -, -, hold, -, -, -⟩ := h
  have hnone : (w.r.old.find? fun p => p.1 == a) = none := by
    rw [List.find?_eq_none]
    intro p hp hpa
    have hpa' : p.1 = a := by simpa using hpa
    have := hold p hp
    omega
  rw [EWork.wordAt, hnone]

theorem EWork.Mirrors.stateAt {w : EWork} (h : w.Mirrors) {base : Nat} (hb : leadState w.ctx ≤ base) (j : Nat) (wide : Bool) :
    w.stateAt base j wide = w.s.stateWord base j wide := by
  rw [EWork.stateAt, State.stateWord, h.wordAt (Or.inr (by omega)), h.wordAt (Or.inr (by omega))]

theorem EWork.Mirrors.stateList {w : EWork} (h : w.Mirrors) {g : Stage} (hg : w.s.StatesMirror w.ctx g) :
    w.stateList (stateBase true w.ctx) g.t (kindStates g.kind) =
      (w.stateList (stateBase false w.ctx) g.t (kindStates g.kind)).map fun x => -x := by
  have hle : leadState w.ctx ≤ echoState w.ctx := by
    unfold leadState echoState
    omega
  unfold EWork.stateList
  rw [List.map_map]
  refine List.map_congr_left fun p hp => ?_
  show w.stateAt (echoState w.ctx) (g.t + p.1) p.2 = -w.stateAt (leadState w.ctx) (g.t + p.1) p.2
  rw [h.stateAt hle, h.stateAt le_rfl, hg p hp]

theorem EWork.ReadsTo.ffTable {w w' : EWork} (h : w.ReadsTo w') (echo : Bool) (n : Nat) : w'.ffTable echo n = w.ffTable echo n := by
  funext i
  unfold EWork.ffTable
  rw [h.wordAt, show w'.s.fld (F.FF_CFG_BLK n) = w.s.fld (F.FF_CFG_BLK n) from h.fld_ffCfg n 0 9]

/-- With equal banks the Echo pass reads the words of a feed-forward table that the lead pass reads. -/
theorem EWork.Mirrors.ffTable {w : EWork} (h : w.Mirrors) (hb : w.s.BanksEqual) (n i : Nat) (hi : i < 1024) :
    w.ffTable true n i = w.ffTable false n i := by
  obtain ⟨-, hclean, -⟩ := id h
  have hblk : w.s.fld (F.FF_CFG_BLK n) < 2 ^ 9 := Nat.mod_lt _ (Nat.two_pow_pos 9)
  have hctx : tabEnd ≤ ctxAddr w.ctx := by
    unfold tabEnd ctxAddr ctxBase
    omega
  unfold EWork.ffTable
  generalize w.s.fld (F.FF_CFG_BLK n) = blk at hblk
  have hwithin : tabA + blk * 0x1000 + 4 * i + 3 < tabB := by
    unfold tabA tabB
    omega
  have hbank : tabB + bankSize = tabEnd := rfl
  have hbyte (j : Nat) (hj : j ≤ 3) : w.s.byte (tabA + blk * 0x1000 + bankSize + 4 * i + j) = w.s.byte (tabA + blk * 0x1000 + 4 * i + j) := by
    rw [← hb (tabA + blk * 0x1000 + 4 * i + j) (by omega) (by omega)]
    congr 1
    omega
  simp only [reduceIte, Bool.false_eq_true, Nat.add_zero]
  rw [h.wordAt (Or.inl (by omega)), h.wordAt (Or.inl (by omega))]
  unfold State.peek32
  simp only [State.goodByte_of_clean hclean]
  rw [hbyte 1 (by omega), hbyte 2 (by omega), hbyte 3 (by omega)]
  exact congrArg (fun b => le32 b _ _ _) (hbyte 0 (by omega))

/-! ### The compares of a stage -/

theorem passes_neg32 (kind idx j : Nat) {x y : Word} (h : y = neg32 x) : (cmpW kind idx j 32 true x.toNat y.toNat).passes = true := by
  have hback : x.toNat = (2 ^ 32 - y.toNat) % 2 ^ 32 := by
    rw [h, neg32]
    bv_omega
  exact beq_iff_eq.mpr hback

theorem code_eq_neg_code (n : Nat) (v : Int) : code n v = (2 ^ n - code n (-v)) % 2 ^ n := by
  have hpos : (0 : Int) < (2 ^ n : Nat) := by exact_mod_cast Nat.two_pow_pos n
  have hv := Int.toNat_of_nonneg (Int.emod_nonneg v hpos.ne')
  have hneg := Int.toNat_of_nonneg (Int.emod_nonneg (-v) hpos.ne')
  have hlt : code n (-v) ≤ 2 ^ n := by
    have := Int.emod_lt_of_pos (-v) hpos
    unfold code
    omega
  have hmod : (((2 ^ n : Nat) : Int) - -v % (2 ^ n : Nat)) % (2 ^ n : Nat) = v % (2 ^ n : Nat) := by
    rw [Int.sub_emod, Int.emod_self, Int.emod_emod_of_dvd _ (dvd_refl _), ← Int.zero_emod ((2 ^ n : Nat) : Int), ← Int.sub_emod]
    simp
  refine Int.ofNat.inj ?_
  show ((code n v : Nat) : Int) = (((2 ^ n - code n (-v)) % 2 ^ n : Nat) : Int)
  rw [Int.natCast_emod, Int.ofNat_sub hlt]
  unfold code
  rw [hv, hneg, hmod]

theorem passes_code (kind idx j n : Nat) (v : Int) : (cmpW kind idx j n true (code n v) (code n (-v))).passes = true :=
  beq_iff_eq.mpr (code_eq_neg_code n v)

theorem passes_same (kind idx j n v : Nat) : (cmpW kind idx j n false v v).passes = true := beq_self_eq_true v

/-- The compares that enter the buffer change nothing else of the run. -/
theorem EWork.compare_run (w : EWork) (at_ : Nat) (l : List CmpW) :
    (w.compare at_ l).r = { w.r with
      cmps := (w.compare at_ l).r.cmps, ncmp := (w.compare at_ l).r.ncmp, flipped := (w.compare at_ l).r.flipped } := by
  unfold EWork.compare
  split <;> rfl

theorem EWork.compare_state (w : EWork) (at_ : Nat) (l : List CmpW) : (w.compare at_ l).s = w.s := by
  unfold EWork.compare
  split <;> rfl

/-- Without an injection and a fault of the hardware, compares that pass enter the buffer as they are. -/
theorem EWork.Mirrors.compare_passes {w : EWork} (h : w.Mirrors) (at_ : Nat) {l : List CmpW} (hl : ∀ m ∈ l, m.passes = true) :
    ∀ m ∈ (w.compare at_ l).r.cmps, m.passes = true := by
  obtain ⟨-, -, harmed, hfaults, -, -, -, -, hcmps⟩ := h
  have hinj : l.findIdx? (fun m => w.r.armed && !w.r.flipped && w.s.reg (Reg.EC_INJM w.eng) != 0 && m.wkind != 3 &&
      m.stg == w.s.fld (F.EC_INJ_STG w.eng)) = none := by
    simp [List.findIdx?_eq_none_iff, harmed]
  unfold EWork.compare
  dsimp only
  rw [hinj, hfaults]
  split
  · exact hcmps
  · intro m hm
    rcases List.mem_append.mp hm with hm | hm
    · exact hcmps m hm
    · obtain ⟨⟨x, i⟩, hx, rfl⟩ := List.mem_map.mp hm
      exact hl x (List.fst_mem_of_mem_zipIdx hx)

/-! ### A stage -/

/-- Of a run, only its request, the faults, the old words, the slots and the waiting compares count. -/
theorem EWork.Mirrors.withRun {w : EWork} (h : w.Mirrors) {r : RunRec} (hreq : r.req = w.r.req) (harmed : r.armed = w.r.armed)
    (hfaults : r.faults = w.r.faults) (hold : r.old = w.r.old) (hecho : r.echo = r.lead.map neg32) (hlead : ∀ x ∈ r.lead, x ≠ 0x80000000#32)
    (hcmps : ∀ m ∈ r.cmps, m.passes = true) : EWork.Mirrors ⟨w.s, r⟩ := by
  obtain ⟨hsplit, hclean, harm, hflt, hctx, holds, -, -, -⟩ := h
  have hc : EWork.ctx ⟨w.s, r⟩ = w.ctx := congrArg RunReq.ctx hreq
  refine ⟨?_, hclean, harmed.trans harm, hfaults.trans hflt, hc ▸ hctx, ?_, hecho, hlead, hcmps⟩
  · rw [← hsplit]
    unfold EWork.split EWork.eng
    rw [hc]
  · rw [hc]
    exact fun p hp => holds p (hold ▸ hp)

theorem EWork.Mirrors.compare {w : EWork} (h : w.Mirrors) (at_ : Nat) {l : List CmpW} (hl : ∀ m ∈ l, m.passes = true) :
    (w.compare at_ l).Mirrors := by
  obtain ⟨-, -, -, -, -, -, hecho, hsig, -⟩ := id h
  have hparts : w.compare at_ l = ⟨w.s, (w.compare at_ l).r⟩ := by rw [← w.compare_state at_ l]
  have hrun := w.compare_run at_ l
  rw [hparts]
  exact h.withRun (by rw [hrun]) (by rw [hrun]) (by rw [hrun]) (by rw [hrun]) (by rw [hrun, hecho]) (by rw [hrun]; exact hsig)
    (h.compare_passes at_ hl)

theorem EWork.ReadsTo.mirrors {w w' : EWork} (hr : w.ReadsTo w') (h : w.Mirrors) : w'.Mirrors := by
  obtain ⟨hsplit, hclean, harmed, hfaults, hctx, hold, hecho, hsig, hcmps⟩ := h
  unfold EWork.Mirrors
  rw [hr.split, hr.ctx, hr.run]
  exact ⟨hsplit, hr.clean hclean, harmed, hfaults, hctx, hold, hecho, hsig, hcmps⟩

theorem EWork.Mirrors.slotsMirror {w : EWork} (h : w.Mirrors) : w.SlotsMirror := by
  obtain ⟨-, hclean, -, -, -, -, hecho, hsig, -⟩ := h
  exact ⟨hclean, hecho, hsig⟩

theorem EWork.Mirrors.stop {w : EWork} (h : w.Mirrors) : w.stop.Mirrors := by
  obtain ⟨-, -, -, -, -, -, hecho, hsig, hcmps⟩ := id h
  unfold EWork.stop
  split
  · exact h.withRun rfl rfl rfl rfl hecho hsig fun _ hm => absurd hm List.not_mem_nil
  · split
    · exact h.withRun rfl rfl rfl rfl hecho hsig hcmps
    · exact h

theorem EWork.stop_state (w : EWork) : w.stop.s = w.s := by
  unfold EWork.stop
  split
  · rfl
  · split <;> rfl

/-- What a stage leaves of the run after its two passes: the bit of `SATF`. -/
def EWork.noteSat (w : EWork) (idx : Nat) (sat : Bool) : EWork :=
  { w with r := { w.r with satf := if sat then w.r.satf + 2 ^ idx else w.r.satf } }

/-- The compares of the states of a stage. -/
def stateCompares (idx t : Nat) (l e : StageOut) : List CmpW :=
  (l.sts.zip e.sts).map fun p =>
    cmpW 1 idx (t + p.1.1) (if p.1.2.1 then 64 else 32) true (code (if p.1.2.1 then 64 else 32) p.1.2.2)
      (code (if p.1.2.1 then 64 else 32) p.2.2.2)

/-- What a stage of a kind below 15 puts into the run: its compares, its slots and the writes of its states. -/
def EWork.putStage (w : EWork) (idx k : Nat) (g : Stage) (l e : StageOut) : EWork :=
  let sw := l.sts.flatMap (fun a => stateWords (leadState w.ctx) g.t a.1 a.2.1 a.2.2)
    ++ (if w.split then [] else e.sts.flatMap (fun a => stateWords (echoState w.ctx) g.t a.1 a.2.1 a.2.2))
  let v := w.compare (w.s.now + k + 7) (stateCompares idx g.t l e ++ [cmpW 2 idx 0 32 false (b2n l.sat) (b2n e.sat)])
  ({ v with r := { v.r with
      lead := setSlots v.r.lead g.d l.outs
      echo := setSlots v.r.echo g.d e.outs
      stateW := v.r.stateW ++ sw } } : EWork).stop

/-- What an `OUT` stage puts into the run: its compares and its output. -/
def EWork.putOut (w : EWork) (idx k : Nat) (g : Stage) (va vb : Word × Word) (l e : StageOut) : EWork :=
  let j := w.r.nout
  let age := if isPort g.target then [cmpW 0 idx j 32 true vb.1.toNat vb.2.toNat] else []
  let out : OutRel := ⟨w.s.now + k + (if w.split then 0 else 8), j, g.target, bitOf g.opt 0, va.1, Word.get vb.1 0 12⟩
  let v := w.compare (w.s.now + k + 7)
    ([cmpW 0 idx j 32 true va.1.toNat va.2.toNat] ++ age ++ [cmpW 2 idx 0 32 false (b2n l.sat) (b2n e.sat)])
  ({ v with r := { v.r with nout := j + 1, rel := if v.r.mis then v.r.rel else v.r.rel ++ [out] } } : EWork).stop

/-- The operands of a stage, read. -/
def EWork.operandsOf (w : EWork) (g : Stage) : List (Word × Word) × EWork := w.operands (g.operands fun n => w.s.fld (F.FF_CFG_MODE n))

theorem EWork.stage_eq (w : EWork) (idx k : Nat) (g : Stage) :
    w.stage idx k g =
      let ops := (w.operandsOf g).1
      let lead := (w.operandsOf g).2.pass g false (ops.map fun p => p.1)
      let echo := if lead.2.split then lead else lead.2.pass g true (ops.map fun p => p.2)
      let v := echo.2.noteSat idx lead.1.sat
      if g.kind = 15 then v.putOut idx k g (ops.getD 0 (0, 0)) (ops.getD 1 (0, 0)) lead.1 echo.1 else v.putStage idx k g lead.1 echo.1 := by
  unfold EWork.stage EWork.operandsOf EWork.noteSat EWork.putOut EWork.putStage stateCompares
  rfl

theorem EWork.Mirrors.noteSat {w : EWork} (h : w.Mirrors) (idx : Nat) (sat : Bool) : (w.noteSat idx sat).Mirrors := by
  obtain ⟨-, -, -, -, -, -, hecho, hsig, hcmps⟩ := id h
  exact h.withRun rfl rfl rfl rfl hecho hsig hcmps

theorem stateCompares_pass {l e : StageOut} (h : l.Mirrors e) (idx t : Nat) : ∀ m ∈ stateCompares idx t l e, m.passes = true := by
  obtain ⟨-, hsts, -⟩ := h
  intro m hm
  rw [stateCompares, hsts, ← List.map_prod_left_eq_zip, List.map_map] at hm
  obtain ⟨x, -, rfl⟩ := List.mem_map.mp hm
  exact passes_code ..

theorem EWork.Mirrors.putStage {w : EWork} (h : w.Mirrors) (idx k : Nat) (g : Stage) {l e : StageOut} (hle : l.Mirrors e)
    (hout : ∀ v ∈ l.outs, IsSignal v) : (w.putStage idx k g l e).Mirrors ∧ (w.putStage idx k g l e).s = w.s := by
  have hcmps : ∀ m ∈ stateCompares idx g.t l e ++ [cmpW 2 idx 0 32 false (b2n l.sat) (b2n e.sat)], m.passes = true := by
    refine List.forall_mem_append.mpr ⟨stateCompares_pass hle idx g.t, List.forall_mem_singleton.mpr ?_⟩
    rw [hle.2.2]
    exact passes_same ..
  have hv := h.compare (w.s.now + k + 7) hcmps
  obtain ⟨-, -, -, -, -, -, hecho, hsig, hpass⟩ := id hv
  refine ⟨?_, (EWork.stop_state _).trans (w.compare_state _ _)⟩
  apply EWork.Mirrors.stop
  refine hv.withRun rfl rfl rfl rfl ?_ (setSlots_signal hsig g.d hout) hpass
  show setSlots _ g.d e.outs = _
  rw [hecho, hle.1, setSlots_mirror]

theorem EWork.Mirrors.putOut {w : EWork} (h : w.Mirrors) (idx k : Nat) (g : Stage) {va vb : Word × Word} {l e : StageOut}
    (ha : va.2 = neg32 va.1) (hb : vb.2 = neg32 vb.1) (hsat : e.sat = l.sat) :
    (w.putOut idx k g va vb l e).Mirrors ∧ (w.putOut idx k g va vb l e).s = w.s := by
  have hcmps : ∀ m ∈ [cmpW 0 idx w.r.nout 32 true va.1.toNat va.2.toNat] ++
      (if isPort g.target then [cmpW 0 idx w.r.nout 32 true vb.1.toNat vb.2.toNat] else []) ++
      [cmpW 2 idx 0 32 false (b2n l.sat) (b2n e.sat)], m.passes = true := by
    refine List.forall_mem_append.mpr ⟨List.forall_mem_append.mpr ⟨List.forall_mem_singleton.mpr (passes_neg32 _ _ _ ha), ?_⟩,
      List.forall_mem_singleton.mpr ?_⟩
    · split
      · exact List.forall_mem_singleton.mpr (passes_neg32 _ _ _ hb)
      · exact List.forall_mem_nil _
    · rw [hsat]
      exact passes_same ..
  have hv := h.compare (w.s.now + k + 7) hcmps
  obtain ⟨-, -, -, -, -, -, hecho, hsig, hpass⟩ := id hv
  refine ⟨?_, (EWork.stop_state _).trans (w.compare_state _ _)⟩
  apply EWork.Mirrors.stop
  exact hv.withRun rfl rfl rfl rfl hecho hsig hpass

theorem stagePass_out {g : Stage} (hkind : g.kind = 15) (echo : Bool) (ops : List Word) (co : List Coeff) (st : List Int) (mode sh : Nat)
    (table : Nat → Word) : (stagePass g echo ops co st mode sh table).sat = false := by
  unfold stagePass
  simp only [hkind]

/-- What a pass of a stage gives for its operands, from the words that the run reads. -/
def EWork.passOf (w : EWork) (g : Stage) (echo : Bool) (ops : List Word) : StageOut :=
  stagePass g echo ops (w.coeffList g.k (kindCoeffs g.kind)) (w.stateList (stateBase echo w.ctx) g.t (kindStates g.kind))
    (w.s.fld (F.FF_CFG_MODE (g.opt % 64))) (w.s.fld (F.FF_CFG_SH (g.opt % 64))) (w.ffTable echo (g.opt % 64))

/-- A pass after some reads gives what it gives before them. -/
theorem EWork.ReadsTo.pass {w w' : EWork} (h : w.ReadsTo w') (hc : w.s.parBad = []) (g : Stage) (echo : Bool) (ops : List Word) :
    (w'.pass g echo ops).1 = w.passOf g echo ops ∧ w.ReadsTo (w'.pass g echo ops).2 := by
  obtain ⟨hval, hto⟩ := w'.pass_spec (h.clean hc) g echo ops
  refine ⟨hval.trans ?_, h.trans hto⟩
  rw [h.coeffList, h.stateList, h.ctx, h.ffTable, show w'.s.fld (F.FF_CFG_MODE (g.opt % 64)) = _ from h.fld_ffCfg _ 30 1,
    show w'.s.fld (F.FF_CFG_SH (g.opt % 64)) = _ from h.fld_ffCfg _ 20 4]
  rfl

/-- The two passes of a stage mirror each other (R272). -/
theorem EWork.Mirrors.passOf {w : EWork} (h : w.Mirrors) (hb : w.s.BanksEqual) {g : Stage} (hst : w.s.StatesMirror w.ctx g) (hkind : g.kind < 15)
    {ops : List (Word × Word)} (hops : List.Forall₂ (fun (o : Nat × Bool) (p : Word × Word) => OperandMirrors o.2 p)
      (g.operands fun n => w.s.fld (F.FF_CFG_MODE n)) ops) :
    (w.passOf g false (ops.map fun p => p.1)).Mirrors (w.passOf g true (ops.map fun p => p.2)) := by
  unfold EWork.passOf
  rw [h.stateList hst]
  exact stagePass_mirrors hkind hops _ _ _ (h.ffTable hb _)

/-- An operand and its Echo value, also one that the stage does not have. -/
theorem operand_pair {specs : List (Nat × Bool)} {ops : List (Word × Word)}
    (hops : List.Forall₂ (fun (o : Nat × Bool) (p : Word × Word) => OperandMirrors o.2 p) specs ops) (i : Nat) :
    (ops.getD i (0, 0)).2 = neg32 (ops.getD i (0, 0)).1 := by
  induction hops generalizing i with
  | nil => exact (by decide : (0 : Word) = neg32 0)
  | cons h _ ih =>
    cases i with
    | zero => exact h.echo
    | succ i => exact ih i

/-- Settles O23: with the words that both passes read compared (`EWork.pass_spec`), the Echo pass of a stage mirrors its lead pass
(`stagePass_mirrors`), so every compare that enters the buffer passes. -/
theorem echoRunComparesPass : Obligations.EchoRunComparesPass := by
  unfold Obligations.EchoRunComparesPass
  intro w idx k w0 w1 h hb hst
  have hkind : (Stage.ofWords w0 w1).kind < 16 := Nat.mod_lt _ (Nat.two_pow_pos 4)
  generalize Stage.ofWords w0 w1 = g at hst hkind
  obtain ⟨-, hclean, -⟩ := id h
  obtain ⟨hops, hto⟩ := EWork.operands_spec _ w h.slotsMirror
  obtain ⟨hlead, hto1⟩ := EWork.ReadsTo.pass (w' := (w.operandsOf g).2) hto hclean g false ((w.operandsOf g).1.map fun p => p.1)
  obtain ⟨hecho, hto2⟩ := EWork.ReadsTo.pass hto1 hclean g true ((w.operandsOf g).1.map fun p => p.2)
  rw [w.stage_eq]
  simp only [hto1.split.trans h.1, Bool.false_eq_true, reduceIte, hlead, hecho]
  have hm := (hto2.mirrors h).noteSat idx (w.passOf g false ((w.operandsOf g).1.map fun p => p.1)).sat
  split
  next hk =>
    have hsat (b : Bool) (ops : List Word) : (w.passOf g b ops).sat = false := stagePass_out hk ..
    obtain ⟨hkeep, hs⟩ := hm.putOut idx k g (operand_pair hops 0) (operand_pair hops 1) ((hsat true _).trans (hsat false _).symm)
    exact ⟨hkeep, (congrArg State.mem hs).trans hto2.mem⟩
  next hk =>
    have hlt : g.kind < 15 := by omega
    obtain ⟨hkeep, hs⟩ := hm.putStage idx k g (h.passOf hb hst hlt hops) (stagePass_signal hlt hops _ _ _ _ _)
    exact ⟨hkeep, (congrArg State.mem hs).trans hto2.mem⟩

end Sys2Proof.Machine
end

section
/-! O57: the governing reaction of a decision round (R617, R621, R623). -/

namespace Sys2Proof.Machine

/-! ### The best element of a list -/

/-- The first element of a list that no later one betters. -/
def pickBest {α : Type} (better : α → α → Bool) (l : List α) : Option α :=
  l.foldl (fun b v =>
    match b with
    | none => some v
    | some x => if better x v then some v else some x) none

theorem pickBest_from {α : Type} (better : α → α → Bool) (l : List α) (x : α) : ∃ v ∈ x :: l,
    l.foldl (fun b v =>
      match b with
      | none => some v
      | some x => if better x v then some v else some x) (some x) = some v := by
  induction l generalizing x with
  | nil => exact ⟨x, List.mem_singleton_self x, rfl⟩
  | cons y l ih =>
    rw [List.foldl_cons]
    dsimp only
    split
    · obtain ⟨v, hv, he⟩ := ih y
      exact ⟨v, List.mem_cons_of_mem x hv, he⟩
    · obtain ⟨v, hv, he⟩ := ih x
      exact ⟨v, (List.mem_cons.mp hv).elim (fun e => e ▸ List.mem_cons_self) fun hm => List.mem_cons_of_mem x (List.mem_cons_of_mem y hm), he⟩

/-- A list that is not empty has a best element, and it is one of the list. -/
theorem pickBest_spec {α : Type} (better : α → α → Bool) (l : List α) :
    (∀ v, pickBest better l = some v → v ∈ l) ∧ (l ≠ [] → ∃ v, pickBest better l = some v) := by
  cases l with
  | nil => exact ⟨fun v h => absurd h (by simp [pickBest]), fun h => absurd rfl h⟩
  | cons x l =>
    obtain ⟨v, hv, he⟩ := pickBest_from better l x
    exact ⟨fun u hu => Option.some.inj (he.symm.trans hu) ▸ hv, fun _ => ⟨v, he⟩⟩

/-- The order of R621. -/
def firstBetter (x v : Verdict) : Bool := x.r.lvl < v.r.lvl || (x.r.lvl == v.r.lvl && v.r.src < x.r.src)
/-- The order among SAFE reactions (R623). -/
def safeBetter (x v : Verdict) : Bool := x.r.lvl < v.r.lvl || (x.r.lvl == v.r.lvl && v.arg < x.arg)

theorem firstBy_eq (l : List Verdict) : firstBy l = pickBest firstBetter l := by
  unfold firstBy pickBest
  refine congrArg (fun f => l.foldl f none) (funext fun b => funext fun v => ?_)
  cases b <;> rfl

theorem firstBy_spec (l : List Verdict) : (∀ v, firstBy l = some v → v ∈ l) ∧ (l ≠ [] → ∃ v, firstBy l = some v) :=
  firstBy_eq l ▸ pickBest_spec firstBetter l

/-! ### The highest rank -/

/-- The highest rank among some reactions. -/
def topRank (l : List Verdict) : Nat := (l.map fun v => frRank v.react).foldl max 0

theorem foldl_max_spec (l : List Nat) (m : Nat) : m ≤ l.foldl max m ∧ (∀ x ∈ l, x ≤ l.foldl max m) ∧ l.foldl max m ∈ m :: l := by
  induction l generalizing m with
  | nil => exact ⟨le_rfl, fun _ h => absurd h List.not_mem_nil, List.mem_singleton_self m⟩
  | cons y l ih =>
    obtain ⟨h1, h2, h3⟩ := ih (max m y)
    refine ⟨(Nat.le_max_left m y).trans h1, List.forall_mem_cons.mpr ⟨(Nat.le_max_right m y).trans h1, h2⟩, ?_⟩
    rw [List.foldl_cons]
    rcases List.mem_cons.mp h3 with h3 | h3
    · rw [h3]
      rcases Nat.le_total m y with h | h
      · simp [Nat.max_eq_right h]
      · simp [Nat.max_eq_left h]
    · exact List.mem_cons_of_mem m (List.mem_cons_of_mem y h3)

theorem le_topRank {l : List Verdict} {v : Verdict} (h : v ∈ l) : frRank v.react ≤ topRank l :=
  (foldl_max_spec _ 0).2.1 _ (List.mem_map_of_mem h)

theorem exists_topRank {l : List Verdict} (h : topRank l ≠ 0) : ∃ v ∈ l, frRank v.react = topRank l := by
  rcases List.mem_cons.mp (foldl_max_spec (l.map fun v => frRank v.react) 0).2.2 with h0 | hm
  · exact absurd h0 h
  · exact List.mem_map.mp hm

/-! ### The governing reaction -/

/-- The reactions of the highest rank, but for NONE. -/
def topReactions (l : List Verdict) : List Verdict := l.filter fun v => frRank v.react == topRank l && v.react != frNone

theorem mem_topReactions {l : List Verdict} {v : Verdict} : v ∈ topReactions l ↔ v ∈ l ∧ frRank v.react = topRank l ∧ v.react ≠ frNone := by
  simp [topReactions, List.mem_filter]

theorem topReactions_ne_nil {l : List Verdict} (h : topRank l ≠ 0) : topReactions l ≠ [] := by
  obtain ⟨v, hv, he⟩ := exists_topRank h
  have hne : v.react ≠ frNone := fun hr => h (he ▸ hr ▸ rfl)
  exact List.ne_nil_of_mem (mem_topReactions.mpr ⟨hv, he, hne⟩)

/-- The reactions of rank 3 are HOLD and SAFE (R617). -/
theorem frRank_eq_three {r : Nat} (h : frRank r = 3) : r = frSafe ∨ r = frHold := by
  rcases Nat.lt_or_ge r 9 with hr | hr
  · revert h
    interval_cases r <;> decide
  · rw [frRank, List.getD_eq_default _ _ hr] at h
    exact absurd h (by decide)

/-- The choice among the reactions of the highest rank. -/
def governingOf (held : Bool) (top : Nat) (l : List Verdict) : Option Verdict :=
  if top == 3 then
    let holds := l.filter fun v => v.react == frHold
    let safes := l.filter fun v => v.react == frSafe
    if held || safes == [] then if holds == [] then firstBy safes else firstBy holds else pickBest safeBetter safes
  else firstBy l

theorem governing_eq (held : Bool) (l : List Verdict) : governing held l = governingOf held (topRank l) (topReactions l) := by
  unfold governing governingOf
  refine if_congr Iff.rfl (if_congr Iff.rfl rfl ?_) rfl
  refine congrArg (fun f => List.foldl f none ((topReactions l).filter fun v => v.react == frSafe)) (funext fun b => funext fun v => ?_)
  cases b <;> rfl

theorem mem_of_governingOf {held : Bool} {top : Nat} {l : List Verdict} {v : Verdict} (h : governingOf held top l = some v) : v ∈ l := by
  unfold governingOf at h
  split at h
  · dsimp only at h
    split at h
    · split at h
      · exact List.mem_of_mem_filter ((firstBy_spec _).1 v h)
      · exact List.mem_of_mem_filter ((firstBy_spec _).1 v h)
    · exact List.mem_of_mem_filter ((pickBest_spec _ _).1 v h)
  · exact (firstBy_spec _).1 v h

theorem exists_governingOf (held : Bool) {top : Nat} {l : List Verdict} (hne : l ≠ []) (hrank : top = 3 → ∀ v ∈ l, v.react = frSafe ∨ v.react = frHold) :
    ∃ v, governingOf held top l = some v := by
  unfold governingOf
  split
  next h3 =>
    have hsplit := hrank (by simpa using h3)
    dsimp only
    split
    next hs =>
      split
      next hh =>
        obtain ⟨x, hx⟩ := List.exists_mem_of_ne_nil l hne
        have hno : x ∉ l.filter fun v => v.react == frHold := by simp [beq_iff_eq.mp hh]
        have hsafe : x ∈ l.filter fun v => v.react == frSafe := by
          rcases hsplit x hx with he | he
          · exact List.mem_filter.mpr ⟨hx, by simp [he]⟩
          · exact absurd (List.mem_filter.mpr ⟨hx, by simp [he]⟩) hno
        exact (firstBy_spec _).2 (List.ne_nil_of_mem hsafe)
      next hh => exact (firstBy_spec _).2 fun he => hh (beq_iff_eq.mpr he)
    next hs => exact (pickBest_spec _ _).2 fun he => hs (by rw [he, Bool.or_eq_true]; exact Or.inr rfl)
  next => exact (firstBy_spec _).2 hne

/-- Settles O57: the choice is among the reactions of the highest rank, of which there are some when a rank is not 0. -/
theorem governingReactionHasHighestRank : Obligations.GoverningReactionHasHighestRank := by
  unfold Obligations.GoverningReactionHasHighestRank
  intro held l
  refine ⟨fun v hv => ?_, fun ⟨x, hx, hr⟩ => ?_⟩
  · obtain ⟨hmem, htop, hne⟩ := mem_topReactions.mp (mem_of_governingOf (governing_eq held l ▸ hv))
    exact ⟨hmem, hne, fun x hx => htop ▸ le_topRank hx⟩
  · have htop : topRank l ≠ 0 := fun h0 => hr (Nat.le_zero.mp (h0 ▸ le_topRank hx))
    rw [governing_eq]
    refine exists_governingOf held (topReactions_ne_nil htop) fun h3 v hv => ?_
    exact frRank_eq_three ((mem_topReactions.mp hv).2.1.trans h3)

end Sys2Proof.Machine
end

section
/-! The outputs of a PG channel that must be off (R330, R335, R338): what deasserting them changes, O33 and O34. -/

namespace Sys2Proof.Machine

/-! ### What the pins of a channel change -/

/-- From `s` to `t` only the pins and the turn-ons of channel `c` change, with what follows the edges: the notes of the outputs, the edges
of the fitters, the blanking of the comparators. -/
structure State.PinsTo (c : Nat) (s t : State) : Prop where
  frame : t = { s with regs := t.regs, pgs := t.pgs, fits := t.fits, cmps := t.cmps, hwSets := t.hwSets }
  reg : ∀ a, a ≠ Reg.PG_STAT c → t.reg a = s.reg a
  /-- The fields of `PG_STAT` besides `PINx` and `PENDx`. -/
  fld : ∀ l w, (2 ≤ l ∧ l + w ≤ 4) ∨ 6 ≤ l → t.fld ⟨Reg.PG_STAT c, l, w⟩ = s.fld ⟨Reg.PG_STAT c, l, w⟩

theorem State.PinsTo.refl (c : Nat) (s : State) : s.PinsTo c s := ⟨rfl, fun _ _ => rfl, fun _ _ _ => rfl⟩

theorem State.PinsTo.trans {c : Nat} {s t u : State} (h : s.PinsTo c t) (h' : t.PinsTo c u) : s.PinsTo c u where
  frame := by rw [h'.frame, h.frame]
  reg a ha := (h'.reg a ha).trans (h.reg a ha)
  fld l w hl := (h'.fld l w hl).trans (h.fld l w hl)

theorem State.pinEdge_frame (s : State) (c : Nat) : s.pinEdge c = { s with fits := (s.pinEdge c).fits, cmps := (s.pinEdge c).cmps } := by
  unfold State.pinEdge
  refine State.each_keeps (fun t => t = { s with fits := t.fits, cmps := t.cmps }) _ _ (fun t k _ ht => ?_) _
    (State.each_keeps (fun t => t = { s with fits := t.fits, cmps := t.cmps }) _ _ (fun t f _ ht => ?_) s rfl)
  · exact State.when_keeps (fun t => t = { s with fits := t.fits, cmps := t.cmps }) t _ _ ht fun h => by rw [h]
  · exact State.when_keeps (fun t => t = { s with fits := t.fits, cmps := t.cmps }) t _ _ ht fun h => by rw [h]

theorem State.pinEdge_reg (s : State) (c a : Nat) : (s.pinEdge c).reg a = s.reg a := by rw [s.pinEdge_frame c]; rfl

theorem State.pinEdge_pinsTo (s : State) (c k : Nat) : s.PinsTo k (s.pinEdge c) where
  frame := by rw [s.pinEdge_frame c]
  reg a _ := s.pinEdge_reg c a
  fld l w _ := congrArg (fun x => Word.get x l w) (s.pinEdge_reg c _)

theorem State.modOut_pinsTo (s : State) (c : Nat) (low : Bool) (f : PgOut → PgOut) (k : Nat) : s.PinsTo k (s.modOut c low f) :=
  ⟨rfl, fun _ _ => rfl, fun _ _ _ => rfl⟩

/-- The bits of the pin and of the turn-on of an output in `PG_STAT`. -/
def pinBit (low : Bool) : Nat := if low then 5 else 4
def pendBit (low : Bool) : Nat := if low then 1 else 0

theorem pinF_eq (c : Nat) (low : Bool) : pinF c low = ⟨Reg.PG_STAT c, pinBit low, 1⟩ := by cases low <;> rfl
theorem pendF_eq (c : Nat) (low : Bool) : pendF c low = ⟨Reg.PG_STAT c, pendBit low, 1⟩ := by cases low <;> rfl

theorem State.fld_setFlag_disjoint (s : State) (f g : Fld) (b : Bool) (hf : f.lsb + f.width ≤ 32)
    (h : g.lsb + g.width ≤ f.lsb ∨ f.lsb + f.width ≤ g.lsb) : (s.setFlag f b).fld g = s.fld g := by
  cases b
  · exact State.fld_setFld_disjoint s f g 0 hf h
  · exact State.fld_setFld_disjoint (s.noteHw f fun _ => 1) f g 1 hf h

theorem State.setFlag_pinsTo (s : State) (c : Nat) {i : Nat} (hi : i < 2 ∨ i = 4 ∨ i = 5) (b : Bool) :
    s.PinsTo c (s.setFlag ⟨Reg.PG_STAT c, i, 1⟩ b) where
  frame := by rw [State.setFlag_frame]
  reg a ha := State.reg_setFlag_ne s _ b ha
  fld l w hl := State.fld_setFlag_disjoint s _ _ b (by simp only; omega) (by simp only; omega)

/-! ### One output is deasserted -/

/-- Both outputs of a channel are deasserted and none of their turn-ons waits. -/
def State.Off (s : State) (c : Nat) (low : Bool) : Prop := s.flag (pinF c low) = false ∧ s.flag (pendF c low) = false

theorem State.flag_of_reg {s t : State} {f : Fld} (h : t.reg f.addr = s.reg f.addr) : t.flag f = s.flag f := by
  rw [State.flag, State.flag, State.fld, State.fld, h]

/-- The output is deasserted: without an edge where its pin was deasserted already. -/
def State.pinClear (s : State) (c : Nat) (low : Bool) : State :=
  (s.setFlag (pendF c low) false).modOut c low fun o => { o with offDue := none }

theorem State.pinOff_eq (s : State) (c : Nat) (low : Bool) (t : Nat) :
    s.pinOff c low t = (s.pinClear c low).when ((s.pinClear c low).flag (pinF c low)) fun s =>
      ((s.setFlag (pinF c low) false).modOut c low fun o => { o with offAt := t }).pinEdge c := rfl

theorem pinBit_lt (low : Bool) : pinBit low < 2 ∨ pinBit low = 4 ∨ pinBit low = 5 := by cases low <;> decide
theorem pendBit_lt (low : Bool) : pendBit low < 2 ∨ pendBit low = 4 ∨ pendBit low = 5 := by cases low <;> decide

theorem State.pinClear_pinsTo (s : State) (c : Nat) (low : Bool) : s.PinsTo c (s.pinClear c low) := by
  have h := s.setFlag_pinsTo c (pendBit_lt low) false
  rw [← pendF_eq] at h
  exact h.trans (State.modOut_pinsTo _ c low _ c)

theorem State.pinOff_pinsTo (s : State) (c : Nat) (low : Bool) (t : Nat) : s.PinsTo c (s.pinOff c low t) := by
  rw [State.pinOff_eq]
  refine State.when_keeps (fun u => s.PinsTo c u) _ _ _ (s.pinClear_pinsTo c low) fun h => h.trans ?_
  have h := (s.pinClear c low).setFlag_pinsTo c (pinBit_lt low) false
  rw [← pinF_eq] at h
  exact h.trans ((State.modOut_pinsTo _ c low _ c).trans (State.pinEdge_pinsTo _ c c))

theorem State.modOut_flag (s : State) (c : Nat) (low : Bool) (f : PgOut → PgOut) (g : Fld) : (s.modOut c low f).flag g = s.flag g := rfl

theorem State.pinEdge_flag (s : State) (c : Nat) (g : Fld) : (s.pinEdge c).flag g = s.flag g := State.flag_of_reg (s.pinEdge_reg c _)

theorem State.pinClear_flag (s : State) (c : Nat) (low : Bool) (i : Nat) :
    (s.pinClear c low).flag ⟨Reg.PG_STAT c, i, 1⟩ = if i = pendBit low then false else s.flag ⟨Reg.PG_STAT c, i, 1⟩ := by
  have hlt := pendBit_lt low
  rw [State.pinClear, State.modOut_flag, pendF_eq]
  split
  next h => exact h ▸ State.flag_setFlag_same s _ false (by simp only; omega) Nat.one_pos
  next h => exact State.flag_setFlag_disjoint s _ _ false (by simp only; omega) (by simp only; omega)

/-- Of the pins and the turn-ons of a channel those of the output become 0, and no other changes. -/
theorem State.pinOff_flag (s : State) (c : Nat) (low : Bool) (t i : Nat) :
    (s.pinOff c low t).flag ⟨Reg.PG_STAT c, i, 1⟩ =
      if i = pendBit low ∨ i = pinBit low then false else s.flag ⟨Reg.PG_STAT c, i, 1⟩ := by
  have hlt := pinBit_lt low
  rw [State.pinOff_eq, pinF_eq]
  cases hpin : (s.pinClear c low).flag ⟨Reg.PG_STAT c, pinBit low, 1⟩ with
  | false =>
    rw [State.when_false]
    by_cases h : i = pinBit low
    · rw [if_pos (Or.inr h), h, hpin]
    · simp only [s.pinClear_flag c low i, h, or_false]
  | true =>
    rw [State.when_true, State.pinEdge_flag, State.modOut_flag]
    by_cases h : i = pinBit low
    · rw [if_pos (Or.inr h), h]
      exact State.flag_setFlag_same _ _ false (by simp only; omega) Nat.one_pos
    · rw [State.flag_setFlag_disjoint _ _ _ false (by simp only; omega) (by simp only; omega)]
      simp only [s.pinClear_flag c low i, h, or_false]

theorem State.off_iff (s : State) (c : Nat) (low : Bool) :
    s.Off c low ↔ s.flag ⟨Reg.PG_STAT c, pinBit low, 1⟩ = false ∧ s.flag ⟨Reg.PG_STAT c, pendBit low, 1⟩ = false := by
  rw [State.Off, pinF_eq, pendF_eq]

theorem State.pinOff_off (s : State) (c : Nat) (low : Bool) (t : Nat) : (s.pinOff c low t).Off c low := by
  simp only [State.off_iff, State.pinOff_flag, or_true, true_or, reduceIte, and_self]

theorem State.pinOff_off_other (s : State) (c : Nat) (low : Bool) (t : Nat) (h : s.Off c (!low)) : (s.pinOff c low t).Off c (!low) := by
  obtain ⟨hpin, hpend⟩ := (s.off_iff c _).mp h
  rw [State.off_iff, State.pinOff_flag, State.pinOff_flag, hpin, hpend, ite_self, ite_self]
  exact ⟨rfl, rfl⟩

/-! ### A channel whose outputs are wanted off -/

/-- The channel is behind the closed STO gate, or it is isolated and no safe command is in force on it. -/
def State.Held (s : State) (c : Nat) : Prop :=
  s.flag (F.PG_STAT_STOG c) = true ∨ s.flag (F.PG_STAT_ISO c) = true ∧ s.pgSafe c = 0

/-- A held channel wants no output asserted (R330, R338). -/
theorem State.Held.pgWant {s : State} {c : Nat} (h : s.Held c) (low : Bool) : s.pgWant c low = false := by
  unfold State.pgWant
  dsimp only
  split
  · rfl
  · rcases h with hg | ⟨hi, hs⟩
    · rw [if_pos hg]
    · split
      · rfl
      · simp only [hs, bne_self_eq_false, Bool.false_eq_true, reduceIte]

theorem State.PinsTo.flagStat {c : Nat} {s t : State} (h : s.PinsTo c t) {l w : Nat} (hl : 6 ≤ l) :
    t.flag ⟨Reg.PG_STAT c, l, w⟩ = s.flag ⟨Reg.PG_STAT c, l, w⟩ := congrArg (fun x => x != 0) (h.fld l w (Or.inr hl))

theorem State.PinsTo.pgSafe {c : Nat} {s t : State} (h : s.PinsTo c t) : t.pgSafe c = s.pgSafe c := by
  have hcfg : t.flag (F.PG_CFG_SUMP c) = s.flag (F.PG_CFG_SUMP c) :=
    State.flag_of_reg (h.reg _ (by simp only [F.PG_CFG_SUMP, Reg.PG_CFG, Reg.PG_STAT]; omega))
  rw [State.pgSafe, State.pgSafe, hcfg, show t.fld (F.PG_STAT_SAFEC c) = s.fld (F.PG_STAT_SAFEC c) from h.fld 18 2 (by omega)]

theorem State.PinsTo.held {c : Nat} {s t : State} (h : s.PinsTo c t) (hs : s.Held c) : t.Held c := by
  unfold State.Held
  rw [h.pgSafe, show t.flag (F.PG_STAT_STOG c) = _ from h.flagStat (by omega), show t.flag (F.PG_STAT_ISO c) = _ from h.flagStat (by omega)]
  exact hs

/-- An output that is not wanted asserted is deasserted in the cycle of the cause. -/
theorem State.pgDrive_of_unwanted {s : State} {c : Nat} {low : Bool} {t : Nat} (h : s.pgWant c low = false) (ht : t / stepsPerCycle ≤ s.now) :
    s.pgDrive c low t = s.pinOff c low t := by
  unfold State.pgDrive
  simp [h, ht]

theorem State.PinsTo.now {c : Nat} {s t : State} (h : s.PinsTo c t) : t.now = s.now := by rw [h.frame]

/-- Both outputs of a held channel are deasserted. -/
theorem State.Held.pgApply {s : State} {c : Nat} (h : s.Held c) : s.PinsTo c (s.pgApply c) ∧ ∀ low, (s.pgApply c).Off c low := by
  have ht (u : State) (hu : u.now = s.now) : s.now * stepsPerCycle / stepsPerCycle ≤ u.now := by
    rw [hu, Nat.mul_div_cancel _ (by decide)]
  have h1 := s.pinOff_pinsTo c false (s.now * stepsPerCycle)
  have heq : s.pgApply c = (s.pinOff c false (s.now * stepsPerCycle)).pinOff c true (s.now * stepsPerCycle) := by
    rw [State.pgApply, State.pgApplyAt, h.pgWant false, if_neg Bool.false_ne_true, State.pgDrive_of_unwanted (h.pgWant false) (ht s rfl),
      State.pgDrive_of_unwanted ((h1.held h).pgWant true) (ht _ h1.now)]
  rw [heq]
  refine ⟨h1.trans (State.pinOff_pinsTo _ c true _), fun low => ?_⟩
  cases low with
  | false => exact State.pinOff_off_other _ c true _ (s.pinOff_off c false _)
  | true => exact State.pinOff_off _ c true _

/-- What one application establishes and the others keep holds after the whole repetition. -/
theorem State.each_establishes {α : Type} (P : State → Prop) {l : List α} {x : α} (hx : x ∈ l) (f : State → α → State) (hset : ∀ s, P (f s x))
    (hkeep : ∀ s y, P s → P (f s y)) (s : State) : P (s.each l f) := by
  obtain ⟨pre, post, rfl⟩ := List.append_of_mem hx
  rw [State.each, List.foldl_append, List.foldl_cons]
  exact State.each_keeps P post f (fun t y _ ht => hkeep t y ht) _ (hset _)

/-! ### The STO gate -/

/-- The STO gate of one channel closes. -/
def State.closeGate (s : State) (c : Nat) : State := (s.setFlag (F.PG_STAT_STOG c) true).pgApply c

theorem State.closeGate_held (s : State) (c : Nat) : (s.setFlag (F.PG_STAT_STOG c) true).Held c :=
  Or.inl (State.flag_setFlag_same s (F.PG_STAT_STOG c) true (Nat.le_of_ble_eq_true rfl) Nat.one_pos)

theorem State.closeGate_off (s : State) (c : Nat) (low : Bool) : (s.closeGate c).Off c low := (s.closeGate_held c).pgApply.2 low

/-- The gate of a channel leaves the status of the others as it is. -/
theorem State.closeGate_reg (s : State) {c a : Nat} (ha : a ≠ Reg.PG_STAT c) : (s.closeGate c).reg a = s.reg a :=
  ((s.closeGate_held c).pgApply.1.reg a ha).trans (State.reg_setFlag_ne s _ true ha)

theorem pgStat_inj {c k : Nat} (h : c ≠ k) : Reg.PG_STAT c ≠ Reg.PG_STAT k := by
  unfold Reg.PG_STAT
  omega

theorem State.Off.of_reg {s t : State} {c : Nat} {low : Bool} (h : t.reg (Reg.PG_STAT c) = s.reg (Reg.PG_STAT c)) (hs : s.Off c low) : t.Off c low := by
  rw [State.off_iff] at hs ⊢
  rw [State.flag_of_reg (t := t) h, State.flag_of_reg (t := t) h]
  exact hs

theorem State.stoMasked_setFlag (s : State) (b : Bool) (c : Nat) : (s.setFlag F.PG_STOSTAT_STOREQ b).stoMasked c = s.stoMasked c := by
  have h0 : (s.setFlag F.PG_STOSTAT_STOREQ b).fld F.PG_STOMASK0_MASK0 = s.fld F.PG_STOMASK0_MASK0 :=
    congrArg (fun x => Word.get x 0 32) (State.reg_setFlag_ne s _ b (by decide))
  have h1 : (s.setFlag F.PG_STOSTAT_STOREQ b).fld F.PG_STOMASK1_MASK1 = s.fld F.PG_STOMASK1_MASK1 :=
    congrArg (fun x => Word.get x 0 8) (State.reg_setFlag_ne s _ b (by decide))
  unfold State.stoMasked
  rw [h0, h1]

/-- Settles O33: each masked channel is deasserted when its gate closes, and the gates of the others do not touch it. -/
theorem stoGateDeassertsPins : Obligations.StoGateDeassertsPins := by
  unfold Obligations.StoGateDeassertsPins
  intro s c low hc
  refine ⟨fun h => State.Held.pgWant (Or.inl h) low, fun hmask => ?_⟩
  have hmem : c ∈ (List.range 40).filter (s.setFlag F.PG_STOSTAT_STOREQ true).stoMasked :=
    List.mem_filter.mpr ⟨List.mem_range.mpr hc, (s.stoMasked_setFlag true c).trans hmask⟩
  refine State.each_establishes (fun t => t.Off c low) hmem State.closeGate (fun t => t.closeGate_off c low) (fun t y ht => ?_) _
  by_cases hy : y = c
  · exact hy ▸ t.closeGate_off y low
  · exact ht.of_reg (t.closeGate_reg (pgStat_inj (Ne.symm hy)))

/-! ### Isolation -/

/-- The record of an isolation in `PG_STAT` and `PG_ISOx`, before its event is raised and the outputs follow. -/
def State.noteIso (s : State) (c cause : Nat) : State :=
  ((s.setFlag (F.PG_STAT_ISO c) true).setFld (F.PG_STAT_ISOC c) cause).setIsoBit c true

theorem State.setIsoBit_frame (s : State) (c : Nat) (b : Bool) :
    s.setIsoBit c b = { s with regs := (s.setIsoBit c b).regs, hwSets := (s.setIsoBit c b).hwSets } := by
  unfold State.setIsoBit
  split
  · exact s.setBit_frame _ _ b
  · exact s.setBit_frame _ _ b

theorem State.setIsoBit_reg (s : State) {c a : Nat} (b : Bool) (h0 : a ≠ Reg.PG_ISO0) (h1 : a ≠ Reg.PG_ISO1) : (s.setIsoBit c b).reg a = s.reg a := by
  unfold State.setIsoBit
  split
  · cases b <;> exact State.reg_setFld_ne _ _ _ h0
  · cases b <;> exact State.reg_setFld_ne _ _ _ h1

theorem State.noteIso_frame (s : State) (c cause : Nat) :
    s.noteIso c cause = { s with regs := (s.noteIso c cause).regs, hwSets := (s.noteIso c cause).hwSets } := by
  unfold State.noteIso
  rw [State.setIsoBit_frame]
  rfl

theorem pgStat_ne_iso (k : Nat) : Reg.PG_STAT k ≠ Reg.PG_ISO0 ∧ Reg.PG_STAT k ≠ Reg.PG_ISO1 := by
  unfold Reg.PG_STAT Reg.PG_ISO0 Reg.PG_ISO1
  omega

/-- In the status of its channel the record sets `ISO` and its cause, and it leaves the status of the other channels. -/
theorem State.noteIso_stat (s : State) (c cause : Nat) : (s.noteIso c cause).reg (Reg.PG_STAT c) =
    ((s.setFlag (F.PG_STAT_ISO c) true).setFld (F.PG_STAT_ISOC c) cause).reg (Reg.PG_STAT c) :=
  State.setIsoBit_reg _ true (pgStat_ne_iso c).1 (pgStat_ne_iso c).2

theorem State.noteIso_reg (s : State) {c cause a : Nat} (h : a ≠ Reg.PG_STAT c) (h0 : a ≠ Reg.PG_ISO0) (h1 : a ≠ Reg.PG_ISO1) :
    (s.noteIso c cause).reg a = s.reg a :=
  (State.setIsoBit_reg _ true h0 h1).trans ((State.reg_setFld_ne _ _ _ h).trans (State.reg_setFlag_ne s _ true h))

theorem State.noteIso_iso (s : State) (c cause : Nat) : (s.noteIso c cause).flag (F.PG_STAT_ISO c) = true := by
  rw [State.flag_of_reg (f := F.PG_STAT_ISO c) (s.noteIso_stat c cause), State.flag, State.fld_setFld_disjoint _ _ _ _ (Nat.le_of_ble_eq_true rfl)
    (Or.inr (Nat.le_of_ble_eq_true rfl))]
  exact State.flag_setFlag_same s (F.PG_STAT_ISO c) true (Nat.le_of_ble_eq_true rfl) Nat.one_pos

theorem State.noteIso_cause (s : State) (c : Nat) {cause : Nat} (hcause : cause < 8) :
    (s.noteIso c cause).fld (F.PG_STAT_ISOC c) = cause := by
  rw [State.fld, show (F.PG_STAT_ISOC c).addr = Reg.PG_STAT c from rfl, s.noteIso_stat c cause]
  exact (State.fld_setFld_same _ (F.PG_STAT_ISOC c) cause (Nat.le_of_ble_eq_true rfl)).trans (Nat.mod_eq_of_lt hcause)

theorem State.noteIso_pgSafe (s : State) (c cause : Nat) : (s.noteIso c cause).pgSafe c = s.pgSafe c := by
  have hcfg : (s.noteIso c cause).flag (F.PG_CFG_SUMP c) = s.flag (F.PG_CFG_SUMP c) := by
    refine State.flag_of_reg (s.noteIso_reg ?_ ?_ ?_) <;>
      simp only [F.PG_CFG_SUMP, Reg.PG_CFG, Reg.PG_STAT, Reg.PG_ISO0, Reg.PG_ISO1] <;> omega
  have hsafe : (s.noteIso c cause).fld (F.PG_STAT_SAFEC c) = s.fld (F.PG_STAT_SAFEC c) := by
    rw [State.fld, show (F.PG_STAT_SAFEC c).addr = Reg.PG_STAT c from rfl, s.noteIso_stat c cause]
    refine (State.fld_setFld_disjoint _ _ (F.PG_STAT_SAFEC c) _ (Nat.le_of_ble_eq_true rfl) (Or.inl (Nat.le_of_ble_eq_true rfl))).trans ?_
    exact State.fld_setFlag_disjoint s _ (F.PG_STAT_SAFEC c) true (Nat.le_of_ble_eq_true rfl) (Or.inl (Nat.le_of_ble_eq_true rfl))
  rw [State.pgSafe, State.pgSafe, hcfg, hsafe]

theorem State.noteIso_pgConv (s : State) (c cause : Nat) : (s.noteIso c cause).pgConv c = s.pgConv c := by
  refine congrArg (fun x => Word.get x _ _) (s.noteIso_reg ?_ ?_ ?_) <;>
    simp only [F.PG_CFG_CONV, Reg.PG_CFG, Reg.PG_STAT, Reg.PG_ISO0, Reg.PG_ISO1] <;> omega

theorem State.pgIsolate_eq (s : State) {c cause : Nat} (h : s.flag (F.PG_STAT_ISO c) = false) :
    s.pgIsolate c cause = ((s.noteIso c cause).raise Ev.PG_ISO ((s.noteIso c cause).pgConv c) c).pgApply c :=
  if_neg (by rw [h]; exact Bool.false_ne_true)

/-- Settles O34: once the isolation is recorded the channel is held, so both outputs are deasserted at once (log entry 20). -/
theorem isolationHoldsOutputsOff : Obligations.IsolationHoldsOutputsOff := by
  unfold Obligations.IsolationHoldsOutputsOff
  intro s c cause _ hcause hiso hsafe
  have hheld : ((s.noteIso c cause).raise Ev.PG_ISO ((s.noteIso c cause).pgConv c) c).Held c :=
    Or.inr ⟨s.noteIso_iso c cause, (s.noteIso_pgSafe c cause).trans hsafe⟩
  obtain ⟨hto, hoff⟩ := hheld.pgApply
  rw [s.pgIsolate_eq hiso]
  refine ⟨hoff, ?_, ?_, ?_, ?_, ?_⟩
  · exact (hto.flagStat (l := 31) (w := 1) (by omega)).trans (s.noteIso_iso c cause)
  · exact (hto.fld 28 3 (by omega)).trans (s.noteIso_cause c hcause)
  · rw [hto.frame, s.noteIso_pgConv c cause, s.noteIso_frame]
    rfl
  · intro k _ hne
    have hstat := pgStat_inj hne
    exact (hto.reg _ hstat).trans (s.noteIso_reg hstat (pgStat_ne_iso k).1 (pgStat_ne_iso k).2)
  · rw [hto.frame, s.noteIso_frame]
    rfl

end Sys2Proof.Machine
end

section
/-! O30 and O32: what a safe command asks of the outputs of a channel, and the time of a turn-on (R321, R335, R336). -/

namespace Sys2Proof.Machine

/-- Outside the STO gate a safe command alone decides the outputs of an enabled channel. -/
theorem State.pgWant_of_safe {s : State} {c : Nat} (hsump : s.flag (F.PG_CFG_SUMP c) = false) (hsto : s.flag (F.PG_STAT_STOG c) = false)
    (hen : s.flag (F.PG_CFG_EN c) = true) (hforce : s.inForce = true) (hsafe : s.fld (F.PG_STAT_SAFEC c) ≠ 0) (low : Bool) :
    s.pgWant c low = (s.pgMode c == pgCompl && s.fld (F.PG_STAT_SAFEC c) == if low then 2 else 3) := by
  have hcmd : s.pgSafe c = s.fld (F.PG_STAT_SAFEC c) := if_neg (by rw [hsump]; exact Bool.false_ne_true)
  unfold State.pgWant
  dsimp only
  rw [hen, hforce, hsto, hcmd]
  by_cases hm : s.pgMode c = pgCompl
  · simp [hm, hsafe]
  · by_cases hi : s.pgMode c = pgIndep
    · simp [hi, hsafe]
    · simp [hm, hi]

/-- Settles O32: each safe command against both outputs. -/
theorem safeCommandPins : Obligations.SafeCommandPins := by
  unfold Obligations.SafeCommandPins
  intro s c hsump hsto hen hforce
  have hwant := State.pgWant_of_safe hsump hsto hen hforce
  refine ⟨fun h => ?_, fun hm h => ?_, fun hm h => ?_, fun hm h => ?_⟩
  · simp [hwant (by omega), h]
  · simp [hwant h, hm, pgIndep, pgCompl]
  · simp [hwant (by omega), hm, h]
  · simp [hwant (by omega), hm, h]

/-- Without a safe command all three times of R321 count. -/
theorem State.turnOnTime_eq {s : State} {c : Nat} (h : s.pgSafe c = 0) (low : Bool) :
    s.turnOnTime c low = max (s.pgOut c low).req
      (max ((s.pgOut c (!low)).offAt + s.deadTime c low) (((s.pgOut c (!low)).ocAt + 2) * stepsPerCycle)) := by
  unfold State.turnOnTime
  rw [h]
  rfl

/-- What a waiting turn-on in complementary mode does (R321, R322). -/
theorem State.turnOn_of_waiting {s : State} {c : Nat} {low : Bool} (hm : s.pgMode c = pgCompl) (hpend : s.flag (pendF c low) = true)
    (hpin : s.flag (pinF c low) = false) (hwant : s.pgWant c low = true) (hheld : s.withheld c = false) :
    s.turnOn c low = if s.complOff c low = true ∧ s.turnOnTime c low / stepsPerCycle ≤ s.now then
      s.pinOn c low (max (s.turnOnTime c low) (s.now * stepsPerCycle)) else s := by
  unfold State.turnOn
  simp [hm, hpend, hpin, hwant, hheld, pgCompl, pgIndep]

/-- Settles O30: the latest of the three times, and the two conditions on the complement. -/
theorem turnOnTime : Obligations.TurnOnTime := by
  unfold Obligations.TurnOnTime
  intro s c hsafe hm low
  refine ⟨State.turnOnTime_eq hsafe low, fun hpend hpin hwant hheld => ?_⟩
  have heq := State.turnOn_of_waiting hm hpend hpin hwant hheld
  refine ⟨fun hc ht => heq.trans (if_pos ⟨hc, ht⟩), fun h => heq.trans (if_neg fun ⟨hc, ht⟩ => ?_)⟩
  rcases h with h | h
  · exact absurd (h.symm.trans hc) Bool.false_ne_true
  · exact absurd ht (Nat.not_le.mpr h)

end Sys2Proof.Machine
end

section
/-! O36: the filter of an input pin (R323, R853). -/

namespace Sys2Proof.Machine

/-- The level that waits is that of pin `i` of a kind. -/
def PinIn.isOf (k : PinKind) (i : Nat) (x : PinIn) : Bool := x.kind == k && x.inst == i

/-- What a level at an input pin leaves of the levels that wait. -/
theorem State.pinFeed_eq (s : State) (k : PinKind) (i r f l : Nat) :
    s.pinFeed k i r f l =
      if s.inputs.any (fun x => x.isOf k i && x.level == l) then s
      else { s with inputs := (s.inputs.filter fun x => !x.isOf k i) ++ if l = r then [] else [⟨k, i, l, s.now + 1 + f⟩] } := by
  unfold State.pinFeed PinIn.isOf
  dsimp only
  split
  · rfl
  · split
    · rw [List.append_nil]
    · rfl

theorem isOf_filter_not (k : PinKind) (i : Nat) (l : List PinIn) : (l.filter fun x => !x.isOf k i).filter (PinIn.isOf k i) = [] := by
  rw [List.filter_eq_nil_iff]
  intro x hx
  simpa using (List.mem_filter.mp hx).2

/-- Settles O36: the level that waits for its recognition replaces the earlier one of its pin. -/
theorem inputPinsAreFiltered : Obligations.InputPinsAreFiltered := by
  unfold Obligations.InputPinsAreFiltered
  intro s k i r f l
  have hnew : PinIn.isOf k i ⟨k, i, l, s.now + 1 + f⟩ = true := by simp [PinIn.isOf]
  have heq := s.pinFeed_eq k i r f l
  cases hany : s.inputs.any (fun x => x.isOf k i && x.level == l) with
  | true =>
    rw [hany, if_pos rfl] at heq
    dsimp only
    rw [heq]
    exact ⟨rfl, rfl, fun _ => rfl, fun h => absurd (hany.symm.trans h) (by decide)⟩
  | false =>
    rw [hany, if_neg Bool.false_ne_true] at heq
    dsimp only
    rw [heq]
    refine ⟨rfl, ?_, fun h => absurd (hany.symm.trans h) (by decide), fun _ => ⟨fun hl => ?_, fun hl => ?_⟩⟩
    · show List.filter (fun x : PinIn => !x.isOf k i) _ = _
      rw [List.filter_append, List.filter_filter]
      split <;> simp [PinIn.isOf]
    · show List.filter (PinIn.isOf k i) _ = _
      rw [if_pos hl, List.append_nil, isOf_filter_not]
    · show List.filter (PinIn.isOf k i) _ = _
      rw [if_neg hl, List.filter_append, isOf_filter_not, List.filter_cons_of_pos hnew]
      rfl

end Sys2Proof.Machine
end

section
/-! Writes to memory: what they change of the state, the bytes and their parity (R3, R35, R725, R728, R738), and O35 and O40. -/

namespace Sys2Proof.Machine

/-! ### What a write changes -/

/-- From `s` to `t` only memory changes, with the parity, the waiting write-backs and the flip that it spends. -/
structure State.WritesTo (s t : State) : Prop where
  frame : t = { s with mem := t.mem, parBad := t.parBad, wbacks := t.wbacks, wbBy := t.wbBy, regs := t.regs, hwSets := t.hwSets }
  reg : ∀ a, a ≠ Reg.MP_FLIP → t.reg a = s.reg a

theorem State.WritesTo.refl (s : State) : s.WritesTo s := ⟨rfl, fun _ _ => rfl⟩

theorem State.WritesTo.trans {s t u : State} (h : s.WritesTo t) (h' : t.WritesTo u) : s.WritesTo u where
  frame := by rw [h'.frame, h.frame]
  reg a ha := (h'.reg a ha).trans (h.reg a ha)

theorem State.putByte_writesTo (s : State) (a : Nat) (b : Byte) (bad : Bool) : s.WritesTo (s.putByte a b bad) := ⟨rfl, fun _ _ => rfl⟩

theorem State.writeByte_writesTo (s : State) (a : Nat) (b : Byte) : s.WritesTo (s.writeByte a b) := by
  unfold State.writeByte
  dsimp only
  split
  · exact (s.putByte_writesTo a b _).trans (State.putByte_writesTo _ _ b _)
  · exact s.putByte_writesTo a b _

/-- A write of a byte leaves the registers as they are. -/
theorem State.writeByte_regs (s : State) (a : Nat) (b : Byte) : (s.writeByte a b).regs = s.regs := by
  unfold State.writeByte
  dsimp only
  split <;> rfl

theorem State.putBytes_writesTo (bs : List Byte) : ∀ (s : State) (a : Nat), s.WritesTo (s.putBytes a bs) := by
  induction bs with
  | nil => exact fun s a => .refl s
  | cons b bs ih => exact fun s a => (s.writeByte_writesTo a b).trans (ih _ (a + 1))

theorem State.putBytes_regs (bs : List Byte) : ∀ (s : State) (a : Nat), (s.putBytes a bs).regs = s.regs := by
  induction bs with
  | nil => exact fun s a => rfl
  | cons b bs ih => exact fun s a => (ih _ (a + 1)).trans (s.writeByte_regs a b)

/-- An armed flip is spent: `ARM` is cleared and `DONE` set. -/
def State.takeFlip (s : State) : State := (s.setFlag F.MP_FLIP_ARM false).setFlag F.MP_FLIP_DONE true

theorem State.takeFlip_writesTo (s : State) : s.WritesTo s.takeFlip :=
  ⟨rfl, fun _ ha => (State.reg_setFlag_ne _ F.MP_FLIP_DONE true ha).trans (State.reg_setFlag_ne s F.MP_FLIP_ARM false ha)⟩

theorem State.spendFlip_writesTo (s : State) (a : Nat) : s.WritesTo (s.spendFlip a) := by
  unfold State.spendFlip
  exact State.when_keeps s.WritesTo s _ State.takeFlip (.refl s) fun _ => s.takeFlip_writesTo

theorem State.spendFlip_parBad (s : State) (a : Nat) : (s.spendFlip a).parBad = s.parBad := by
  unfold State.spendFlip
  exact State.when_keeps (fun t => t.parBad = s.parBad) s _ State.takeFlip rfl fun _ => rfl

/-- A word is written as its four bytes, the lowest first (R3). -/
theorem State.write32_eq (s : State) (a : Nat) (w : Word) :
    s.write32 a w = (s.putBytes a [byteOf w 0, byteOf w 1, byteOf w 2, byteOf w 3]).spendFlip a := rfl

theorem State.write32_writesTo (s : State) (a : Nat) (w : Word) : s.WritesTo (s.write32 a w) := by
  rw [State.write32_eq]
  exact (State.putBytes_writesTo _ s a).trans (State.spendFlip_writesTo _ a)

theorem State.writeBytes_writesTo (s : State) (a : Nat) (bs : List Byte) : s.WritesTo (s.writeBytes a bs) := by
  unfold State.writeBytes
  exact State.each_keeps s.WritesTo _ _ (fun t i _ ht => ht.trans (t.spendFlip_writesTo (a + i))) _ (State.putBytes_writesTo bs s a)

/-! ### The bytes after a write -/

/-- The byte that a write at `a` leaves at `k`: the banks of table memory are written together (R35). -/
theorem State.writeByte_byte (s : State) (a : Nat) (b : Byte) (k : Nat) :
    (s.writeByte a b).byte k = if k = a ∨ isTable a = true ∧ k = otherBank a then b else s.byte k := by
  unfold State.writeByte
  dsimp only
  split
  next h =>
    by_cases hk : k = otherBank a
    · rw [if_pos (Or.inr ⟨h, hk⟩), hk, State.byte_putByte_same]
    · rw [State.byte_putByte_ne _ _ _ hk]
      by_cases ha : k = a
      · rw [if_pos (Or.inl ha), ha, State.byte_putByte_same]
      · rw [if_neg (by tauto), State.byte_putByte_ne _ _ _ ha]
  next h =>
    by_cases ha : k = a
    · rw [if_pos (Or.inl ha), ha, State.byte_putByte_same]
    · rw [if_neg (by tauto), State.byte_putByte_ne _ _ _ ha]

theorem State.putBytes_byte_ne (bs : List Byte) {k : Nat} : ∀ (s : State) (a : Nat),
    (∀ j < bs.length, k ≠ a + j ∧ (isTable (a + j) = true → k ≠ otherBank (a + j))) → (s.putBytes a bs).byte k = s.byte k := by
  induction bs with
  | nil => exact fun s a _ => rfl
  | cons b bs ih =>
    intro s a h
    rw [State.putBytes, ih _ (a + 1) fun j hj => by simpa only [Nat.add_assoc, Nat.add_comm 1] using h (j + 1) (Nat.succ_lt_succ hj)]
    obtain ⟨ha, ho⟩ := h 0 (Nat.succ_pos _)
    rw [State.writeByte_byte, if_neg (by rintro (hk | ⟨ht, hk⟩); exacts [ha hk, ho ht hk])]

theorem otherBank_far (a : Nat) (h : isTable a = true) : a + bankSize ≤ otherBank a ∨ otherBank a + bankSize ≤ a := by
  simp only [isTable, Bool.and_eq_true, decide_eq_true_eq] at h
  unfold otherBank
  unfold tabA tabB tabEnd bankSize at *
  split <;> omega

/-- A run of bytes no longer than a bank reads back. -/
theorem State.putBytes_byte (bs : List Byte) : ∀ (s : State) (a i : Nat), bs.length ≤ bankSize → i < bs.length →
    (s.putBytes a bs).byte (a + i) = bs.getD i 0 := by
  induction bs with
  | nil => exact fun s a i _ hi => absurd hi (Nat.not_lt_zero i)
  | cons b bs ih =>
    intro s a i hlen hi
    rw [List.length_cons] at hlen hi
    cases i with
    | zero =>
      rw [Nat.add_zero, State.putBytes, State.putBytes_byte_ne, State.writeByte_byte, if_pos (Or.inl rfl)]
      · rfl
      · refine fun j hj => ⟨by omega, fun ht => ?_⟩
        have := otherBank_far _ ht
        omega
    | succ i =>
      rw [State.putBytes, show a + (i + 1) = a + 1 + i by omega, ih _ (a + 1) i (by omega) (by omega)]
      rfl

/-- What a write keeps of a byte, its copy of the flip keeps. -/
theorem State.spendFlip_byte (s : State) (a k : Nat) : (s.spendFlip a).byte k = s.byte k := congrArg (cellGet · k) (s.spendFlip_mem a)

theorem State.writeBytes_byte_eq (s : State) (a : Nat) (bs : List Byte) (k : Nat) : (s.writeBytes a bs).byte k = (s.putBytes a bs).byte k := by
  unfold State.writeBytes
  exact State.each_keeps (fun t => t.byte k = (s.putBytes a bs).byte k) _ _ (fun t i _ ht => (t.spendFlip_byte _ k).trans ht) _ rfl

theorem State.write32_byte_eq (s : State) (a : Nat) (w : Word) (k : Nat) :
    (s.write32 a w).byte k = (s.putBytes a [byteOf w 0, byteOf w 1, byteOf w 2, byteOf w 3]).byte k := by
  rw [State.write32_eq, State.spendFlip_byte]

/-- The bytes of a word, by number. -/
theorem bytes_getD (w : Word) {k : Nat} (hk : k < 4) : [byteOf w 0, byteOf w 1, byteOf w 2, byteOf w 3].getD k 0 = byteOf w k := by
  match k, hk with
  | 0, _ | 1, _ | 2, _ | 3, _ => rfl

theorem State.write32_byte (s : State) (a : Nat) (w : Word) {k : Nat} (hk : k < 4) : (s.write32 a w).byte (a + k) = byteOf w k := by
  rw [State.write32_byte_eq, State.putBytes_byte [byteOf w 0, byteOf w 1, byteOf w 2, byteOf w 3] s a k (Nat.le_of_ble_eq_true rfl) hk, bytes_getD w hk]

theorem isTable_add {a k : Nat} (ha : a % 4 = 0) (hk : k < 4) : isTable (a + k) = isTable a := by
  unfold isTable tabA tabEnd
  rw [Bool.eq_iff_iff]
  simp only [Bool.and_eq_true, decide_eq_true_eq]
  omega

theorem otherBank_add {a k : Nat} (ha : a % 4 = 0) (hk : k < 4) (ht : isTable a = true) : otherBank (a + k) = otherBank a + k := by
  simp only [isTable, Bool.and_eq_true, decide_eq_true_eq] at ht
  unfold otherBank
  unfold tabA tabB tabEnd bankSize at *
  split <;> split <;> omega

theorem State.write32_byte_ne (s : State) {a k : Nat} (w : Word) (ha : a % 4 = 0) (hk : k < a ∨ a + 4 ≤ k)
    (ho : isTable a = true → k < otherBank a ∨ otherBank a + 4 ≤ k) : (s.write32 a w).byte k = s.byte k := by
  rw [State.write32_byte_eq]
  refine State.putBytes_byte_ne _ s a fun j (hj : j < 4) => ⟨by omega, fun ht => ?_⟩
  rw [isTable_add ha hj] at ht
  rw [otherBank_add ha hj ht]
  have := ho ht
  omega

/-! ### The parity after a write -/

theorem mem_insertNat (a n : Nat) (l : List Nat) : n ∈ insertNat a l ↔ n = a ∨ n ∈ l := by
  induction l with
  | nil => simp [insertNat]
  | cons x xs ih =>
    rw [insertNat]
    split
    · simp
    · split
      next h => simp [h]
      next => simp only [List.mem_cons, ih]; tauto

/-- A byte has the parity that its last write gave it (R725, R738). -/
theorem State.putByte_parOk (s : State) (a : Nat) (b : Byte) (bad : Bool) (k : Nat) :
    (s.putByte a b bad).parOk k = if k = a then !bad else s.parOk k := by
  have hmem : k ∈ (s.putByte a b bad).parBad ↔ if k = a then bad = true else k ∈ s.parBad := by
    cases bad
    · show k ∈ s.parBad.filter (· != a) ↔ _
      split <;> simp_all
    · show k ∈ insertNat a s.parBad ↔ _
      split <;> simp_all [mem_insertNat]
  unfold State.parOk
  by_cases hk : k = a
  · rw [if_pos hk] at hmem ⊢
    cases bad <;> simp_all
  · rw [if_neg hk] at hmem ⊢
    rw [Bool.eq_iff_iff]
    simp [hmem]

/-- With no flip armed a byte is written with right parity, and no other byte loses it. -/
theorem State.writeByte_parOk {s : State} (harm : s.flag F.MP_FLIP_ARM = false) (a : Nat) (b : Byte) {k : Nat} (hk : k = a ∨ s.parOk k = true) :
    (s.writeByte a b).parOk k = true := by
  unfold State.writeByte
  dsimp only
  split
  · simp only [State.putByte_parOk, harm, Bool.false_and, Bool.not_false]
    split
    · rfl
    · split
      · rfl
      · tauto
  · simp only [State.putByte_parOk, harm, Bool.false_and, Bool.not_false]
    split
    · rfl
    · tauto

theorem State.writeByte_flag (s : State) (a : Nat) (b : Byte) (f : Fld) : (s.writeByte a b).flag f = s.flag f :=
  State.flag_of_reg (congrArg (regGet · f.addr) (s.writeByte_regs a b))

theorem State.putBytes_parOk (bs : List Byte) {k : Nat} : ∀ (s : State) (a : Nat), s.flag F.MP_FLIP_ARM = false →
    (s.parOk k = true ∨ ∃ j < bs.length, k = a + j) → (s.putBytes a bs).parOk k = true := by
  induction bs with
  | nil => exact fun s a _ h => h.elim id fun ⟨j, hj, _⟩ => absurd hj (Nat.not_lt_zero j)
  | cons b bs ih =>
    intro s a harm h
    refine ih _ (a + 1) ((s.writeByte_flag a b _).trans harm) ?_
    rcases h with h | ⟨j, hj, hk⟩
    · exact Or.inl (State.writeByte_parOk harm a b (Or.inr h))
    · cases j with
      | zero => exact Or.inl (State.writeByte_parOk harm a b (Or.inl hk))
      | succ j => exact Or.inr ⟨j, Nat.lt_of_succ_lt_succ hj, by omega⟩

/-- A word whose bytes have right parity is read without an effect. -/
theorem State.read32_of_parOk {s : State} {a : Nat} (h : ∀ k < 4, s.parOk (a + k) = true) (req : Nat) :
    s.read32 req a = (some (le32 (s.byte a) (s.byte (a + 1)) (s.byte (a + 2)) (s.byte (a + 3))), s) := by
  unfold State.read32
  simp only [State.readByte_of_parOk (a := a) (h 0 (by decide)), State.readByte_of_parOk (h 1 (by decide)),
    State.readByte_of_parOk (h 2 (by decide)), State.readByte_of_parOk (h 3 (by decide))]

theorem byteOf_getLsbD (w : Word) (k i : Nat) : (byteOf w k).getLsbD i = (decide (i < 8) && w.getLsbD (i + 8 * k)) := by
  rw [byteOf, BitVec.getLsbD_ofNat, Nat.testBit_div_two_pow, BitVec.getLsbD, Nat.add_comm]

theorem le32_bytes (w : Word) : le32 (byteOf w 0) (byteOf w 1) (byteOf w 2) (byteOf w 3) = w := by
  refine BitVec.eq_of_getLsbD_eq fun i hi => ?_
  simp only [le32, BitVec.getLsbD_append, byteOf_getLsbD]
  split
  next h => simp [h]
  next h =>
    split
    next h' => simp [h', show i - 8 + 8 = i by omega]
    next h' =>
      split
      next h'' => simp [h'', show i - 8 - 8 + 16 = i by omega]
      next h'' => simp [show i - 8 - 8 - 8 < 8 by omega, show i - 8 - 8 - 8 + 24 = i by omega]

/-- Settles O35: the bytes of both banks, and the word that reads back. -/
theorem memoryWritesReadBack : Obligations.MemoryWritesReadBack := by
  unfold Obligations.MemoryWritesReadBack
  refine ⟨fun s a b ht => ⟨?_, ?_, fun k hk ho => ?_⟩, fun s a req w ha _ harm => ⟨?_, fun k hk ho => s.write32_byte_ne w ha hk ho⟩⟩
  · rw [State.writeByte_byte, if_pos (Or.inl rfl)]
  · rw [State.writeByte_byte, if_pos (Or.inr ⟨ht, rfl⟩)]
  · rw [State.writeByte_byte, if_neg (by tauto)]
  · have hpar : ∀ k < 4, (s.write32 a w).parOk (a + k) = true := by
      intro k hk
      rw [State.write32_eq, State.parOk, State.spendFlip_parBad]
      exact State.putBytes_parOk _ s a harm (Or.inr ⟨k, hk, rfl⟩)
    rw [State.read32_of_parOk hpar, s.write32_byte a w (k := 1) (by decide), s.write32_byte a w (k := 2) (by decide),
      s.write32_byte a w (k := 3) (by decide), show (s.write32 a w).byte a = byteOf w 0 from s.write32_byte a w (k := 0) (by decide), le32_bytes]

/-! ### An armed flip -/

/-- Whether the flip inverts the parity of lane `k` of the word at `a`. -/
def State.flipHits (s : State) (a k : Nat) : Bool := s.flag F.MP_FLIP_ARM && a / 4 == s.fld F.MP_FLIPA_FADDR && bitOf (s.fld F.MP_FLIP_MASK) k

/-- Outside table memory a byte goes to one place, with the flip of its lane. -/
theorem State.writeByte_of_single {s : State} {a k : Nat} (ha : a % 4 = 0) (hk : k < 4) (ht : isTable a = false) (b : Byte) :
    s.writeByte (a + k) b = s.putByte (a + k) b (s.flipHits a k) := by
  unfold State.writeByte State.flipHits
  rw [isTable_add ha hk, ht, show (a + k) / 4 = a / 4 by omega, show (a + k) % 4 = k by omega]
  rfl

theorem State.flipHits_putByte (s : State) (x : Nat) (b : Byte) (bad : Bool) (a k : Nat) : (s.putByte x b bad).flipHits a k = s.flipHits a k := rfl

/-- The parity of the four bytes of a word outside table memory after a write to it. -/
theorem State.write32_parOk (s : State) {a k : Nat} (w : Word) (ha : a % 4 = 0) (hk : k < 4) (ht : isTable a = false) :
    (s.write32 a w).parOk (a + k) = !s.flipHits a k := by
  have hput (t : State) (j : Nat) (hj : j < 4) := State.writeByte_of_single (s := t) ha hj ht
  rw [State.write32_eq, State.parOk, State.spendFlip_parBad]
  show (((((s.writeByte (a + 0) _).writeByte (a + 1) _).writeByte (a + 2) _).writeByte (a + 3) _).parOk (a + k)) = _
  rw [hput _ 0 (by decide), hput _ 1 (by decide), hput _ 2 (by decide), hput _ 3 (by decide)]
  simp only [State.putByte_parOk, State.flipHits_putByte, Nat.add_right_inj]
  interval_cases k <;> rfl

theorem State.takeFlip_flags (s : State) : s.takeFlip.flag F.MP_FLIP_ARM = false ∧ s.takeFlip.flag F.MP_FLIP_DONE = true := by
  constructor
  · exact (State.flag_setFlag_disjoint _ F.MP_FLIP_DONE F.MP_FLIP_ARM true (by decide) (by decide)).trans
      (State.flag_setFlag_same s F.MP_FLIP_ARM false (by decide) (by decide))
  · exact State.flag_setFlag_same _ F.MP_FLIP_DONE true (by decide) (by decide)

/-- Outside table memory the flip is spent exactly by a write to its word. -/
theorem State.spendFlip_of_single {s : State} {a : Nat} (ht : isTable a = false) (harm : s.flag F.MP_FLIP_ARM = true) :
    s.spendFlip a = s.when (a / 4 == s.fld F.MP_FLIPA_FADDR) State.takeFlip := by
  unfold State.spendFlip
  rw [harm, ht, Bool.true_and, Bool.false_and, Bool.or_false]
  rfl

/-- Settles O40: the parity of each lane, and what becomes of the flip. -/
theorem flipMaskSpendsItself : Obligations.FlipMaskSpendsItself := by
  unfold Obligations.FlipMaskSpendsItself
  intro s a w ha _ ht harm
  have hregs := State.putBytes_regs [byteOf w 0, byteOf w 1, byteOf w 2, byteOf w 3] s a
  have hspend := State.spendFlip_of_single (s := s.putBytes a [byteOf w 0, byteOf w 1, byteOf w 2, byteOf w 3]) ht
    ((State.flag_of_reg (congrArg (regGet · _) hregs)).trans harm)
  have hfaddr : (s.putBytes a [byteOf w 0, byteOf w 1, byteOf w 2, byteOf w 3]).fld F.MP_FLIPA_FADDR = s.fld F.MP_FLIPA_FADDR :=
    congrArg (fun l => Word.get (regGet l Reg.MP_FLIPA) 2 22) hregs
  rw [hfaddr] at hspend
  refine ⟨fun k hk => s.write32_byte a w hk, fun h => ?_, fun h => ?_⟩
  · have hfa : a / 4 == s.fld F.MP_FLIPA_FADDR := beq_iff_eq.mpr h.symm
    refine ⟨fun k hk => ?_, ?_⟩
    · rw [s.write32_parOk w ha hk ht, State.flipHits, harm, hfa, Bool.true_and, Bool.true_and]
    · rw [State.write32_eq, hspend, hfa, State.when_true]
      exact State.takeFlip_flags _
  · have hfa : (a / 4 == s.fld F.MP_FLIPA_FADDR) = false := beq_false_of_ne (Ne.symm h)
    refine ⟨fun k hk => ?_, ?_⟩
    · rw [s.write32_parOk w ha hk ht, State.flipHits, harm, hfa]
      rfl
    · rw [State.write32_eq, hspend, hfa, State.when_false, hregs]

end Sys2Proof.Machine
end

section
/-! Operations that only record: registers, raised events and the notes of what hardware sets (R15, R16); and O38 and O39, the reads of bytes
that fail parity (R727 to R731). -/

namespace Sys2Proof.Machine

/-! ### Records -/

/-- From `s` to `t` only the registers of a list change, with the raised events and the notes of what hardware set. -/
structure State.MarksTo (l : List Nat) (s t : State) : Prop where
  frame : t = { s with regs := t.regs, raised := t.raised, hwSets := t.hwSets }
  reg : ∀ a, a ∉ l → t.reg a = s.reg a

section
variable {l : List Nat} {s t u : State}

theorem State.MarksTo.refl (l : List Nat) (s : State) : s.MarksTo l s := ⟨rfl, fun _ _ => rfl⟩

theorem State.MarksTo.trans (h : s.MarksTo l t) (h' : t.MarksTo l u) : s.MarksTo l u where
  frame := by rw [h'.frame, h.frame]
  reg a ha := (h'.reg a ha).trans (h.reg a ha)

theorem State.MarksTo.mono {l' : List Nat} (h : s.MarksTo l t) (hl : l ⊆ l') : s.MarksTo l' t :=
  ⟨h.frame, fun a ha => h.reg a fun hm => ha (hl hm)⟩

theorem State.MarksTo.fld (h : s.MarksTo l t) {f : Fld} (hf : f.addr ∉ l) : t.fld f = s.fld f :=
  congrArg (fun x => Word.get x f.lsb f.width) (h.reg _ hf)

theorem State.MarksTo.flag (h : s.MarksTo l t) {f : Fld} (hf : f.addr ∉ l) : t.flag f = s.flag f := State.flag_of_reg (h.reg _ hf)

theorem State.MarksTo.mem (h : s.MarksTo l t) : t.mem = s.mem := by rw [h.frame]
theorem State.MarksTo.now (h : s.MarksTo l t) : t.now = s.now := by rw [h.frame]

theorem State.MarksTo.setFld (h : s.MarksTo l t) {f : Fld} (hf : f.addr ∈ l) (v : Nat) : s.MarksTo l (t.setFld f v) where
  frame := by
    show State.setFld t f v = _
    rw [State.setFld, h.frame]
    rfl
  reg a ha := (State.reg_setFld_ne t f v fun e => ha (by rw [e]; exact hf)).trans (h.reg a ha)

theorem State.MarksTo.noteHw (h : s.MarksTo l t) (f : Fld) (upd : Nat → Nat) : s.MarksTo l (t.noteHw f upd) where
  frame := by
    rw [State.noteHw, h.frame]
  reg := h.reg

theorem State.MarksTo.setFlag (h : s.MarksTo l t) {f : Fld} (hf : f.addr ∈ l) (b : Bool) : s.MarksTo l (t.setFlag f b) := by
  cases b
  · exact h.setFld hf 0
  · exact (h.noteHw f _).setFld hf 1

theorem State.MarksTo.incSat (h : s.MarksTo l t) {f : Fld} (hf : f.addr ∈ l) : s.MarksTo l (t.incSat f) := (h.noteHw f _).setFld hf _

theorem State.MarksTo.raiseL (h : s.MarksTo l t) (e : Ev.Src) (sev lvl conv inst : Nat) : s.MarksTo l (t.raiseL e sev lvl conv inst) where
  frame := by
    rw [State.raiseL, h.frame]
  reg := h.reg

theorem State.MarksTo.raise (h : s.MarksTo l t) (e : Ev.Src) (conv inst : Nat) : s.MarksTo l (t.raise e conv inst) := h.raiseL ..

theorem State.MarksTo.when (h : s.MarksTo l t) (c : Bool) {f : State → State} (hf : s.MarksTo l t → s.MarksTo l (f t)) : s.MarksTo l (t.when c f) :=
  State.when_keeps (s.MarksTo l) t c f h hf

theorem State.MarksTo.flagRaise (h : s.MarksTo l t) {f : Fld} (hf : f.addr ∈ l) (e : Ev.Src) (conv inst : Nat) :
    s.MarksTo l (t.flagRaise f e conv inst) :=
  (h.when _ fun h => h.raise e conv inst).setFlag hf true

end

/-! ### A flag that raises its event -/

theorem State.flagRaise_flag (s : State) {f : Fld} (e : Ev.Src) (conv inst : Nat) (h : f.lsb + f.width ≤ 32) (hw : 0 < f.width) :
    (s.flagRaise f e conv inst).flag f = true := State.flag_setFlag_same _ f true h hw

theorem State.flagRaise_raised (s : State) (f : Fld) (e : Ev.Src) (conv inst : Nat) :
    (s.flagRaise f e conv inst).raised = s.raised ++ if s.flag f then [] else [⟨e.num, e.sev, e.lvl, conv, inst⟩] := by
  rw [State.flagRaise, State.setFlag_raised]
  cases s.flag f
  · rfl
  · exact (List.append_nil _).symm

theorem State.fld_flagRaise_disjoint (s : State) (f g : Fld) (e : Ev.Src) (conv inst : Nat) (hf : f.lsb + f.width ≤ 32)
    (h : g.lsb + g.width ≤ f.lsb ∨ f.lsb + f.width ≤ g.lsb) : (s.flagRaise f e conv inst).fld g = s.fld g := by
  refine (State.fld_setFlag_disjoint _ f g true hf h).trans ?_
  exact State.when_keeps (fun t => t.fld g = s.fld g) s _ _ rfl fun _ => rfl

theorem State.reg_incSat_ne (s : State) (f : Fld) {a : Nat} (h : a ≠ f.addr) : (s.incSat f).reg a = s.reg a :=
  State.reg_setFld_ne _ f _ h

/-! ### A byte that fails parity -/

/-- The registers that a hard fault of a byte changes (R731). -/
theorem State.hardFault_marksTo (s : State) (a : Nat) : s.MarksTo [Reg.MP_HERR, Reg.MP_STAT] (s.hardFault a) := by
  unfold State.hardFault
  exact (State.MarksTo.refl _ s).when _ fun h =>
    ((h.setFld (by decide) _).setFld (by decide) _).flagRaise (f := F.MP_STAT_HARD) (by decide) ..

theorem State.hardFault_of_new {s : State} {a : Nat} (h : s.lastWb.contains a = false) : s.hardFault a = s := by
  unfold State.hardFault
  rw [h, Bool.and_false, State.when_false]

/-- Of `MP_STAT` a hard fault sets only `HARD`. -/
theorem State.hardFault_stat (s : State) (a : Nat) {f : Fld} (hf : f.addr = Reg.MP_STAT) (hd : f.lsb + f.width ≤ 4 ∨ 5 ≤ f.lsb) :
    (s.hardFault a).flag f = s.flag f := by
  unfold State.hardFault
  refine State.when_keeps (fun t => t.flag f = s.flag f) s _ _ rfl fun _ => ?_
  rw [State.flag, State.fld_flagRaise_disjoint _ F.MP_STAT_HARD f _ _ _ (by decide) hd, State.fld_setFld_ne, State.fld_setFld_ne]
  · rfl
  · rw [hf]; decide
  · rw [hf]; decide

/-- The first finding is recorded: the field `hi` and the address of a register, unless its flag is set. -/
def State.noteFirst (s : State) (flag hi lo : Fld) (v a : Nat) : State := s.when (!s.flag flag) fun s => (s.setFld hi v).setFld lo a

/-- A finding is recorded, counted and flagged (R727, R730). -/
def State.noteFinding (s : State) (flag hi lo cnt : Fld) (e : Ev.Src) (v a : Nat) : State :=
  ((s.noteFirst flag hi lo v a).incSat cnt).flagRaise flag e axle 0

theorem State.noteFirst_marksTo (s : State) {flag hi lo : Fld} (h : hi.addr = lo.addr) (v a : Nat) :
    s.MarksTo [lo.addr] (s.noteFirst flag hi lo v a) := by
  unfold State.noteFirst
  exact (State.MarksTo.refl _ s).when _ fun hm => (hm.setFld (h ▸ List.mem_singleton_self _) _).setFld (List.mem_singleton_self _) _

section
variable {flag hi lo cnt : Fld}

theorem State.noteFinding_marksTo (s : State) (h : hi.addr = lo.addr) (e : Ev.Src) (v a : Nat) :
    s.MarksTo [lo.addr, cnt.addr, flag.addr] (s.noteFinding flag hi lo cnt e v a) :=
  (((s.noteFirst_marksTo h v a).mono (by simp)).incSat (by simp)).flagRaise (by simp) e axle 0

/-- The register of the first finding is that of `noteFirst`. -/
theorem State.noteFinding_reg (s : State) (hc : lo.addr ≠ cnt.addr) (hf : lo.addr ≠ flag.addr) (e : Ev.Src) (v a : Nat) :
    (s.noteFinding flag hi lo cnt e v a).reg lo.addr = (s.noteFirst flag hi lo v a).reg lo.addr := by
  have hraise := ((State.MarksTo.refl [flag.addr] ((s.noteFirst flag hi lo v a).incSat cnt)).flagRaise (f := flag) (by simp) e axle 0).reg lo.addr (by simpa using hf)
  exact hraise.trans (State.reg_incSat_ne _ cnt hc)

theorem State.noteFinding_cnt (s : State) (h : hi.addr = lo.addr) (hc : cnt.addr ≠ lo.addr) (hf : cnt.addr ≠ flag.addr)
    (hcnt : cnt.lsb + cnt.width ≤ 32) {m : Nat} (hm : 2 ^ cnt.width - 1 = m) (e : Ev.Src) (v a : Nat) :
    (s.noteFinding flag hi lo cnt e v a).fld cnt = min (s.fld cnt + 1) m := by
  have hraise := ((State.MarksTo.refl [flag.addr] ((s.noteFirst flag hi lo v a).incSat cnt)).flagRaise (f := flag) (by simp) e axle 0).fld (f := cnt)
    (by simpa using hf)
  refine hraise.trans ((State.fld_incSat_same _ cnt hcnt).trans ?_)
  rw [(s.noteFirst_marksTo h v a).fld (by simpa using hc), hm]

theorem State.noteFinding_first {s : State} (h : s.flag flag = false) (hadr : hi.addr = lo.addr) (hc : lo.addr ≠ cnt.addr) (hf : lo.addr ≠ flag.addr)
    (hlo : lo.lsb + lo.width ≤ hi.lsb) (hhi : hi.lsb + hi.width ≤ 32) (e : Ev.Src) {v a : Nat} (hv : v < 2 ^ hi.width) (ha : a < 2 ^ lo.width) :
    (s.noteFinding flag hi lo cnt e v a).fld lo = a ∧ (s.noteFinding flag hi lo cnt e v a).fld hi = v := by
  have hreg := s.noteFinding_reg (flag := flag) (hi := hi) hc hf e v a
  have hfirst : s.noteFirst flag hi lo v a = (s.setFld hi v).setFld lo a := by
    unfold State.noteFirst
    rw [h]
    rfl
  rw [hfirst] at hreg
  constructor
  · rw [State.fld, hreg]
    exact (State.fld_setFld_same _ lo a (by omega)).trans (Nat.mod_eq_of_lt ha)
  · rw [State.fld, hadr, hreg, ← hadr]
    exact (State.fld_setFld_disjoint _ lo hi a (by omega) (Or.inr hlo)).trans ((State.fld_setFld_same _ hi v hhi).trans (Nat.mod_eq_of_lt hv))

theorem State.noteFinding_later {s : State} (h : s.flag flag = true) (hc : lo.addr ≠ cnt.addr) (hf : lo.addr ≠ flag.addr) (e : Ev.Src) (v a : Nat) :
    (s.noteFinding flag hi lo cnt e v a).reg lo.addr = s.reg lo.addr := by
  rw [s.noteFinding_reg hc hf e v a, State.noteFirst, h]
  rfl

end

/-- A byte of table memory that its other bank replaces. -/
theorem State.readByte_of_corrected {s : State} {a : Nat} (ht : isTable a = true) (hbad : s.parOk a = false) (hok : s.parOk (otherBank a) = true)
    (req : Nat) : s.readByte req a =
      (some (((s.hardFault a).noteFinding F.MP_STAT_CORR F.MP_CERR_BANK F.MP_CERR_ADDR F.MP_CNT_CORR_CNT Ev.MP_CORR (bankOf a) a).byte (otherBank a)),
        ((s.hardFault a).noteFinding F.MP_STAT_CORR F.MP_CERR_BANK F.MP_CERR_ADDR F.MP_CNT_CORR_CNT Ev.MP_CORR (bankOf a) a).askWriteBack a) := by
  unfold State.readByte
  rw [hbad, ht, hok]
  rfl

/-- A byte that is a bus error. -/
theorem State.readByte_of_uncorrectable {s : State} {a : Nat} (hbad : s.parOk a = false) (h : isTable a = false ∨ s.parOk (otherBank a) = false)
    (req : Nat) : s.readByte req a =
      (none, (s.hardFault a).noteFinding F.MP_STAT_UNCORR F.MP_UERR_REQ F.MP_UERR_ADDR F.MP_CNT_UNCORR_CNT Ev.MP_UNCORR req a) := by
  have hcond : (isTable a && s.parOk (otherBank a)) = false := by
    rcases h with h | h <;> simp [h]
  unfold State.readByte
  rw [hbad, hcond]
  rfl

/-- Settles O39: the finding is recorded, counted and flagged, after the hard fault of the byte. -/
theorem uncorrectableByteIsABusError : Obligations.UncorrectableByteIsABusError := by
  unfold Obligations.UncorrectableByteIsABusError
  intro s req a hbad hun hreq ha
  have hhard := s.hardFault_marksTo a
  have hflag := s.hardFault_stat a (f := F.MP_STAT_UNCORR) rfl (by decide)
  have hnote := (s.hardFault a).noteFinding_marksTo (flag := F.MP_STAT_UNCORR) (hi := F.MP_UERR_REQ) (lo := F.MP_UERR_ADDR)
    (cnt := F.MP_CNT_UNCORR_CNT) rfl Ev.MP_UNCORR req a
  have hcnt := (s.hardFault a).noteFinding_cnt (flag := F.MP_STAT_UNCORR) (hi := F.MP_UERR_REQ) (lo := F.MP_UERR_ADDR)
    (cnt := F.MP_CNT_UNCORR_CNT) rfl (by decide) (by decide) (by decide) (m := 65535) (by decide) Ev.MP_UNCORR req a
  rw [State.readByte_of_uncorrectable hbad hun]
  have hall := (hhard.mono (l' := [Reg.MP_HERR, Reg.MP_STAT, Reg.MP_UERR, Reg.MP_CNT]) (by simp)).trans
    (hnote.mono (by simp [F.MP_UERR_ADDR, F.MP_CNT_UNCORR_CNT, F.MP_STAT_UNCORR]))
  refine ⟨rfl, ?_, fun h => ?_, fun h => ?_, hall.frame, fun h => ?_, fun k hk1 hk2 hk3 hk4 => hall.reg k (by simp [hk1, hk2, hk3, hk4])⟩
  · rwa [hhard.fld (by decide)] at hcnt
  · exact State.noteFinding_first (flag := F.MP_STAT_UNCORR) (hi := F.MP_UERR_REQ) (lo := F.MP_UERR_ADDR) (cnt := F.MP_CNT_UNCORR_CNT)
      (hflag.trans h) rfl (by decide) (by decide) (by decide) (by decide) Ev.MP_UNCORR (show req < 2 ^ 4 from hreq) ha
  · exact (State.noteFinding_later (hflag.trans h) (by decide) (by decide) _ req a).trans (hhard.reg _ (by decide))
  · refine (hnote.reg _ (by decide)).trans ?_
    rw [State.hardFault_of_new h]

/-! ### The write-back -/

theorem State.askWriteBack_waits (s : State) (a : Nat) : (s.askWriteBack a).wbacks.contains a = true := by
  unfold State.askWriteBack
  split
  next h => exact h
  next h => simp [mem_insertNat]

theorem State.askWriteBack_regs (s : State) (a : Nat) : (s.askWriteBack a).regs = s.regs := by
  unfold State.askWriteBack
  split <;> rfl

theorem State.askWriteBack_mem (s : State) (a : Nat) : (s.askWriteBack a).mem = s.mem := by
  unfold State.askWriteBack
  split <;> rfl

theorem State.askWriteBack_by {s : State} {a : Nat} (h : s.wbacks.contains a = false) : (a, s.now + wbCycles) ∈ (s.askWriteBack a).wbBy := by
  unfold State.askWriteBack
  rw [h]
  exact List.mem_cons_self

/-- The write-back of a byte that waits for it puts the byte of the other bank there, with right parity. -/
theorem State.writeBack_repairs {s : State} {a : Nat} (h : s.wbacks.contains a = true) :
    (s.writeBack a).byte a = s.byte (otherBank a) ∧ (s.writeBack a).parOk a = true := by
  unfold State.writeBack
  rw [if_pos h]
  exact ⟨cellGet_cellSet_same s.mem a _, by simp [State.parOk]⟩

/-- Settles O38: the byte of the other bank, the record of the finding, and the write-back that waits. -/
theorem failedByteIsReadFromTheOtherBank : Obligations.FailedByteIsReadFromTheOtherBank := by
  unfold Obligations.FailedByteIsReadFromTheOtherBank
  intro s req a ht hbad hok
  have hhard := s.hardFault_marksTo a
  have hflag := s.hardFault_stat a (f := F.MP_STAT_CORR) rfl (by decide)
  have hnote := (s.hardFault a).noteFinding_marksTo (flag := F.MP_STAT_CORR) (hi := F.MP_CERR_BANK) (lo := F.MP_CERR_ADDR)
    (cnt := F.MP_CNT_CORR_CNT) rfl Ev.MP_CORR (bankOf a) a
  have hcnt := (s.hardFault a).noteFinding_cnt (flag := F.MP_STAT_CORR) (hi := F.MP_CERR_BANK) (lo := F.MP_CERR_ADDR)
    (cnt := F.MP_CNT_CORR_CNT) rfl (by decide) (by decide) (by decide) (m := 65535) (by decide) Ev.MP_CORR (bankOf a) a
  have hbank : bankOf a < 2 ^ 2 := by unfold bankOf; split <;> decide
  have hlt : a < 2 ^ 24 := by
    simp only [isTable, Bool.and_eq_true, decide_eq_true_eq] at ht
    exact ht.2.trans (by decide)
  have hfirst := fun h => State.noteFinding_first (flag := F.MP_STAT_CORR) (hi := F.MP_CERR_BANK) (lo := F.MP_CERR_ADDR)
    (cnt := F.MP_CNT_CORR_CNT) (s := s.hardFault a) (hflag.trans h) rfl (by decide) (by decide) (by decide) (by decide) Ev.MP_CORR hbank hlt
  have hlater := fun h => (State.noteFinding_later (flag := F.MP_STAT_CORR) (hi := F.MP_CERR_BANK) (lo := F.MP_CERR_ADDR)
    (cnt := F.MP_CNT_CORR_CNT) (s := s.hardFault a) (hflag.trans h) (by decide) (by decide) Ev.MP_CORR (bankOf a) a).trans (hhard.reg _ (by decide))
  rw [State.readByte_of_corrected ht hbad hok]
  generalize (s.hardFault a).noteFinding F.MP_STAT_CORR F.MP_CERR_BANK F.MP_CERR_ADDR F.MP_CNT_CORR_CNT Ev.MP_CORR (bankOf a) a = u at *
  have hmem : u.mem = s.mem := hnote.mem.trans hhard.mem
  have hwaits : u.wbacks = s.wbacks := by rw [hnote.frame, hhard.frame]
  have hask (f : Fld) : (u.askWriteBack a).fld f = u.fld f := congrArg (fun l => Word.get (regGet l f.addr) f.lsb f.width) (u.askWriteBack_regs a)
  have hasked : (u.askWriteBack a).mem = s.mem := (u.askWriteBack_mem a).trans hmem
  obtain ⟨hbyte, hpar⟩ := State.writeBack_repairs (u.askWriteBack_waits a)
  refine ⟨congrArg (fun m => some (cellGet m (otherBank a))) hmem, hasked, u.askWriteBack_waits a, ?_, fun h => ?_, fun h => ?_, fun h => ?_, ?_, hpar⟩
  · rw [hhard.fld (by decide)] at hcnt
    exact (hask _).trans hcnt
  · rw [hask, hask]
    exact hfirst h
  · exact (congrArg (regGet · Reg.MP_CERR) (u.askWriteBack_regs a)).trans (hlater h)
  · have hby := State.askWriteBack_by (s := u) (a := a) (hwaits ▸ h)
    rw [hnote.now, hhard.now] at hby
    exact hby
  · exact hbyte.trans (congrArg (cellGet · (otherBank a)) hasked)

end Sys2Proof.Machine
end

section
/-! O43: the matrix takes the raises of a cycle in the order of R829. O59: operations that keep the maps of the state canonical. -/

namespace Sys2Proof.Machine

/-! ### The order of the raises -/

/-- The order of R829 as a proposition. -/
def Raise.Before (a b : Raise) : Prop := a.src < b.src ∨ a.src = b.src ∧ (a.conv < b.conv ∨ a.conv = b.conv ∧ a.inst ≤ b.inst)

theorem Raise.le_iff (a b : Raise) : a.le b = true ↔ a.Before b := by
  simp [Raise.le, Raise.Before]

theorem Raise.Before.trans {a b c : Raise} (h : a.Before b) (h' : b.Before c) : a.Before c := by
  unfold Raise.Before at *
  omega

theorem Raise.before_of_not {a b : Raise} (h : ¬ a.Before b) : b.Before a := by
  unfold Raise.Before at *
  omega

/-- A raise enters before the first one that must come after it, and behind all the others. -/
theorem insertRaise_cons (r x : Raise) (xs : List Raise) :
    insertRaise r (x :: xs) = r :: x :: xs ∧ r.Before x ∨ insertRaise r (x :: xs) = x :: insertRaise r xs ∧ x.Before r := by
  rw [insertRaise]
  split
  next h =>
    simp only [Bool.and_eq_true, Raise.le_iff] at h
    exact Or.inl ⟨rfl, h.1⟩
  next h =>
    refine Or.inr ⟨rfl, ?_⟩
    by_contra hx
    refine h ?_
    rw [Bool.and_eq_true, Raise.le_iff, Bool.not_eq_true', ← Bool.not_eq_true, Raise.le_iff]
    exact ⟨Raise.before_of_not hx, hx⟩

theorem insertRaise_perm (r : Raise) (l : List Raise) : (insertRaise r l).Perm (r :: l) := by
  induction l with
  | nil => exact .refl _
  | cons x xs ih =>
    rcases insertRaise_cons r x xs with ⟨h, -⟩ | ⟨h, -⟩
    · rw [h]
    · rw [h]
      exact (ih.cons x).trans (.swap r x xs)

theorem insertRaise_sorted (r : Raise) {l : List Raise} (hl : l.Pairwise Raise.Before) : (insertRaise r l).Pairwise Raise.Before := by
  induction l with
  | nil => exact List.pairwise_singleton _ r
  | cons x xs ih =>
    obtain ⟨hx, hxs⟩ := List.pairwise_cons.mp hl
    rcases insertRaise_cons r x xs with ⟨h, hr⟩ | ⟨h, hr⟩
    · rw [h]
      exact List.pairwise_cons.mpr ⟨List.forall_mem_cons.mpr ⟨hr, fun y hy => hr.trans (hx y hy)⟩, hl⟩
    · rw [h]
      refine List.pairwise_cons.mpr ⟨fun y hy => ?_, ih hxs⟩
      rcases List.mem_cons.mp ((insertRaise_perm r xs).mem_iff.mp hy) with rfl | hy
      · exact hr
      · exact hx y hy

theorem sortRaises_perm (l : List Raise) : ∀ acc, (sortRaises l acc).Perm (l ++ acc) := by
  induction l with
  | nil => exact fun acc => .refl acc
  | cons r rs ih =>
    intro acc
    exact (ih _).trans (((insertRaise_perm r acc).append_left rs).trans List.perm_middle)

theorem sortRaises_sorted (l : List Raise) : ∀ acc : List Raise, acc.Pairwise Raise.Before → (sortRaises l acc).Pairwise Raise.Before := by
  induction l with
  | nil => exact fun acc h => h
  | cons r rs ih => exact fun acc h => ih _ (insertRaise_sorted r h)

/-! ### The raises one after the other -/

/-- Each raise takes the next value of `EV_SEQ` (R829). -/
theorem State.takeRaise_seq (s : State) (r : Raise) : (s.takeRaise r).fld F.EV_SEQ_SEQV = (s.fld F.EV_SEQ_SEQV + 1) % 2 ^ 32 := by
  have hpend : Reg.EV_SEQ ≠ Reg.EV_PEND r.group := (evPend_ne_evSeq r.group_lt).symm
  rw [s.takeRaise_fld r _ (by decide)]
  refine State.when_keeps (fun t => t.fld F.EV_SEQ_SEQV = (s.fld F.EV_SEQ_SEQV + 1) % 2 ^ 32) _ _ _ ?_ fun h => ?_
  · rw [State.pendSource, State.fld_setBit_ne _ _ _ _ _ hpend]
    exact State.fld_setFld_same s F.EV_SEQ_SEQV _ (by decide)
  · rw [State.fld_setBit_ne _ _ _ _ _ hpend, h]

theorem State.each_takeRaise_undecided (l : List Raise) : ∀ s : State, (s.each l State.takeRaise).undecided = s.undecided ++ l := by
  induction l with
  | nil => exact fun s => (List.append_nil _).symm
  | cons r rs ih =>
    intro s
    rw [State.each_cons, ih, s.takeRaise_undecided, List.append_assoc, List.singleton_append]

theorem State.each_takeRaise_seq (l : List Raise) : ∀ s : State,
    (s.each l State.takeRaise).fld F.EV_SEQ_SEQV = (s.fld F.EV_SEQ_SEQV + l.length) % 2 ^ 32 := by
  induction l with
  | nil => exact fun s => (Nat.mod_eq_of_lt (Nat.mod_lt _ (Nat.two_pow_pos 32))).symm
  | cons r rs ih =>
    intro s
    rw [State.each_cons, ih, s.takeRaise_seq, List.length_cons]
    omega

/-- While there is room every raise enters the FIFO with its number. -/
theorem State.each_takeRaise_fifo (l : List Raise) : ∀ s : State, s.fifo.length + l.length ≤ fifoSize →
    (s.each l State.takeRaise).fifo.map (fun e => (e.seq, e.r)) =
      s.fifo.map (fun e => (e.seq, e.r)) ++ l.zipIdx.map fun p => ((s.fld F.EV_SEQ_SEQV + p.2) % 2 ^ 32, p.1) := by
  induction l with
  | nil => exact fun s _ => (List.append_nil _).symm
  | cons r rs ih =>
    intro s hroom
    rw [List.length_cons] at hroom
    obtain ⟨-, e, he, her, hes⟩ := s.takeRaise_fifo_of_room r (by omega)
    have hlt : s.fld F.EV_SEQ_SEQV < 2 ^ 32 := Nat.mod_lt _ (Nat.two_pow_pos 32)
    have hfirst : (s.fld F.EV_SEQ_SEQV + (r, 0).2) % 2 ^ 32 = s.fld F.EV_SEQ_SEQV := Nat.mod_eq_of_lt hlt
    rw [State.each_cons, ih _ (by rw [he, List.length_append, List.length_singleton]; omega), he, List.map_append, List.append_assoc,
      s.takeRaise_seq, List.zipIdx_cons', List.map_cons, List.map_cons, hes, her, List.map_map, List.map_nil,
      List.singleton_append, hfirst]
    refine congrArg (fun x => _ ++ _ :: x) (List.map_congr_left fun p _ => ?_)
    simp only [Function.comp_apply, Prod.map, id, Prod.mk.injEq, and_true]
    omega

/-- Settles O43: the sorted list of the raises is taken one by one. -/
theorem raisesAreNumberedInOrder : Obligations.RaisesAreNumberedInOrder := by
  unfold Obligations.RaisesAreNumberedInOrder
  intro s
  refine ⟨sortRaises s.raised [], ?_, sortRaises_sorted _ _ .nil, State.each_takeRaise_undecided _ _, State.each_takeRaise_seq _ _,
    fun h => State.each_takeRaise_fifo _ _ h⟩
  simpa only [List.append_nil] using sortRaises_perm s.raised []

/-! ### Canonical maps -/

theorem State.canonical_setReg {s : State} (h : s.Canonical) (a : Nat) (w : Word) : (s.setReg a w).Canonical := by
  obtain ⟨hr, hs, hm⟩ := h
  exact ⟨regSet_wf _ a w hr, hs, hm⟩

theorem State.canonical_setShad {s : State} (h : s.Canonical) (a : Nat) (w : Word) : (s.setShad a w).Canonical := by
  obtain ⟨hr, hs, hm⟩ := h
  exact ⟨hr, regSet_wf _ a w hs, hm⟩

theorem State.canonical_setFld {s : State} (h : s.Canonical) (f : Fld) (v : Nat) : (s.setFld f v).Canonical := State.canonical_setReg h _ _

theorem State.canonical_noteHw {s : State} (h : s.Canonical) (f : Fld) (upd : Nat → Nat) : (s.noteHw f upd).Canonical := h

theorem State.canonical_setFlag {s : State} (h : s.Canonical) (f : Fld) (b : Bool) : (s.setFlag f b).Canonical := by
  cases b
  · exact State.canonical_setFld h f 0
  · exact State.canonical_setFld (State.canonical_noteHw h f _) f 1

theorem State.canonical_setBit {s : State} (h : s.Canonical) (f : Fld) (i : Nat) (b : Bool) : (s.setBit f i b).Canonical := by
  cases b
  · exact State.canonical_setFld h f _
  · exact State.canonical_setFld (State.canonical_noteHw h ⟨f.addr, f.lsb + i, 1⟩ fun _ => 1) f _

theorem State.canonical_incSat {s : State} (h : s.Canonical) (f : Fld) : (s.incSat f).Canonical :=
  State.canonical_setFld (State.canonical_noteHw h f _) f _

theorem State.canonical_pendRaise {s : State} (h : s.Canonical) (r : Raise) : (s.pendRaise r).Canonical := by
  unfold State.pendRaise State.pendSource
  exact State.when_keeps State.Canonical _ _ _ (State.canonical_setBit (State.canonical_setFld h _ _) _ _ _) fun h => State.canonical_setBit h _ _ _

theorem State.canonical_undecided {s : State} (h : s.Canonical) (l : List Raise) : ({ s with undecided := l } : State).Canonical := h
theorem State.canonical_raised {s : State} (h : s.Canonical) (l : List Raise) : ({ s with raised := l } : State).Canonical := h
theorem State.canonical_fifo {s : State} (h : s.Canonical) (l : List FifoEntry) : ({ s with fifo := l } : State).Canonical := h
theorem State.canonical_fifoLoss {s : State} (h : s.Canonical) (b : Bool) : ({ s with fifoLoss := b } : State).Canonical := h

theorem State.canonical_takeRaise {s : State} (h : s.Canonical) (r : Raise) : (s.takeRaise r).Canonical := by
  have hdec : (s.pendDecide r).Canonical := State.canonical_undecided (State.canonical_pendRaise h r) _
  rw [State.takeRaise_eq]
  split
  · exact State.canonical_fifo hdec _
  · exact State.canonical_fifoLoss (State.canonical_incSat hdec _) true

theorem State.canonical_trWatch {s : State} (h : s.Canonical) : s.trWatch.Canonical := by
  unfold State.trWatch
  refine State.when_keeps State.Canonical _ _ _ h fun h => ?_
  unfold State.trTrigger
  refine State.when_keeps State.Canonical _ _ _ (State.canonical_setFld (State.canonical_setFld h _ _) _ _) fun h => ?_
  exact State.canonical_raised (State.canonical_setFld h _ _) _

theorem State.canonical_flush {s : State} (h : s.Canonical) : s.flush.Canonical := by
  unfold State.flush State.takeRaises
  refine State.each_keeps State.Canonical _ _ (fun t r _ ht => State.canonical_takeRaise ht r) _ ?_
  exact State.canonical_raised (State.canonical_trWatch h) []

theorem State.canonical_advance {s : State} (h : s.Canonical) (n : Nat) : (s.advance n).Canonical := by
  obtain ⟨hr, hs, hm⟩ := h
  have hto := s.advance_movesTo n
  refine ⟨hto.regsWf hr, ?_, ?_⟩
  · rw [hto.frame]
    exact hs
  · rw [hto.frame]
    exact hm

theorem State.canonical_spendFlip {s : State} (h : s.Canonical) (a : Nat) : (s.spendFlip a).Canonical := by
  unfold State.spendFlip
  exact State.when_keeps State.Canonical _ _ State.takeFlip h fun h => State.canonical_setFlag (State.canonical_setFlag h _ _) _ _

theorem State.canonical_putBytes {s : State} (h : s.Canonical) (a : Nat) (bs : List Byte) : (s.putBytes a bs).Canonical := by
  obtain ⟨hr, hs, hm⟩ := h
  refine ⟨?_, ?_, State.putBytes_wf bs s a hm⟩
  · rw [State.putBytes_regs]
    exact hr
  · rw [(State.putBytes_writesTo bs s a).frame]
    exact hs

/-- Settles O59, one operation after the other. -/
theorem operationsKeepCanonicalMaps : Obligations.OperationsKeepCanonicalMaps := by
  unfold Obligations.OperationsKeepCanonicalMaps
  intro s h
  refine ⟨State.canonical_advance h, fun a w => ⟨State.canonical_setReg h a w, State.canonical_setShad h a w⟩, fun a w => ?_, fun a bs => ?_,
    State.canonical_flush h⟩
  · exact State.write32_eq s a w ▸ State.canonical_spendFlip (State.canonical_putBytes h a _) a
  · exact State.each_keeps State.Canonical _ _ (fun t i _ ht => State.canonical_spendFlip ht (a + i)) _ (State.canonical_putBytes h a bs)

end Sys2Proof.Machine
end

section
/-! O26 and O27: the answers of a commit request, and the commits at the boundary of a domain (R39, R41, R825 to R828). -/

namespace Sys2Proof.Machine

/-! ### Requests -/

theorem State.commits_any (s : State) (g : Nat) : (s.commits.any fun c => c.group == g) = true ↔ ∃ c ∈ s.commits, c.group = g := by
  simp [List.any_eq_true]

/-- Settles O26: the refusals in the order in which the request is checked. -/
theorem commitRefusals : Obligations.CommitRefusals := by
  unfold Obligations.CommitRefusals
  intro s g sp
  refine ⟨fun h => if_pos (beq_iff_eq.mpr h), fun h hg => ?_, fun h hgiven hen => ⟨fun hown => ?_, fun hown hbusy => ?_⟩⟩
  · have hun : (!groupGiven g || !s.groupEnabled g) = true := by rcases hg with hg | hg <;> simp [hg]
    rw [State.requestCommit, if_neg (by simpa using h), if_pos hun]
  · rw [State.requestCommit, if_neg (by simpa using h), if_neg (by simp [hgiven, hen]), if_pos (by simp [hown])]
  · have hfree : ¬ (sp && s.ownedByLink g) = true := by rcases hown with hown | hown <;> simp [hown]
    rw [State.requestCommit, if_neg (by simpa using h), if_neg (by simp [hgiven, hen]), if_neg hfree, if_pos ((s.commits_any g).mpr hbusy)]

/-! ### A commit that takes effect -/

theorem State.setFlag_commits (s : State) (f : Fld) (b : Bool) : (s.setFlag f b).commits = s.commits := by cases b <;> rfl

theorem State.raise_commits (s : State) (e : Ev.Src) (conv inst : Nat) : (s.raise e conv inst).commits = s.commits := rfl

theorem State.updateDir_commits (s : State) (d : Nat) : (s.updateDir d).commits = s.commits := by rw [s.updateDir_frame d]

theorem State.slavesUpdate_commits (s : State) (d : Nat) : (s.slavesUpdate d).commits = s.commits := by
  unfold State.slavesUpdate
  refine State.each_keeps (fun t => t.commits = s.commits) _ _ (fun t n _ ht => ?_) s rfl
  rw [State.updateDir_commits]
  exact ht

/-- The record of a source that is degraded leaves the waiting commits. -/
theorem State.degrade_commits (s : State) (f g h : Fld) (x y z : Nat) (e : Ev.Src) (conv inst : Nat) :
    ((((s.setFld f x).setFld g y).setFld h z).raise e conv inst).commits = s.commits := rfl

/-- What a commit that takes effect makes besides the new active copy leaves the waiting commits. -/
theorem State.afterCommit_commits (s : State) (g oldSel : Nat) : (s.afterCommit g oldSel).commits = s.commits := by
  unfold State.afterCommit
  dsimp only
  split
  · refine State.when_keeps (fun t => t.commits = s.commits) _ _ _ ?_ fun h => h
    refine State.when_keeps (fun t => t.commits = s.commits) _ _ _ rfl fun _ => ?_
    rw [State.slavesUpdate_commits, State.updateDir_commits]
    rfl
  split
  · rfl
  split
  · rfl
  split
  · refine State.when_keeps (fun t => t.commits = s.commits) _ _ _ rfl fun _ => ?_
    rw [State.setFlag_commits, State.setFlag_commits]
  split
  · split
    · refine (State.degrade_commits _ _ _ _ _ _ _ _ _ _).trans ?_
      dsimp only
      exact s.setFlag_commits _ false
    · exact s.setFlag_commits _ false
  split
  · split
    · exact (State.degrade_commits _ _ _ _ _ _ _ _ _ _).trans (s.setFlag_commits _ false)
    · exact s.setFlag_commits _ false
  split
  · split
    · rw [State.raise_commits, State.setFld_commits, State.setFld_commits, State.setFlag_commits]
    · exact s.setFlag_commits _ false
  rfl

theorem State.write32_commits (s : State) (a : Nat) (w : Word) : (s.write32 a w).commits = s.commits := by rw [(s.write32_writesTo a w).frame]

/-- One word of a commit becomes the active copy. -/
def State.putActive (s : State) (p : Nat × Word) : State := if p.1 < tabA then s.setReg p.1 p.2 else s.write32 p.1 p.2

/-- The new active copy of a commit, with what is kept of the old one. -/
def State.putCopy (s : State) (c : Commit) : State :=
  (s.when (isCtxGroup c.group) (·.keepOld (c.group - 0x100) c.words)).each c.words State.putActive

/-- The report of a commit that has taken effect (R39, R824). -/
def State.noteDone (s : State) (c : Commit) : State :=
  let s := s.incSat F.CG_CNT_DONE_CNT
  s.when (c.sp && s.fld F.CG_SPSTAT_GROUP == c.group && s.fld F.CG_SPSTAT_RES == cgWaiting) (·.setFld F.CG_SPSTAT_RES cgDone)

theorem State.takeEffect_eq (s : State) (c : Commit) : ∃ oldSel, s.takeEffect c = ((s.putCopy c).noteDone c).afterCommit c.group oldSel := ⟨_, rfl⟩

theorem State.putActive_commits (s : State) (p : Nat × Word) : (s.putActive p).commits = s.commits := by
  unfold State.putActive
  split
  · rfl
  · exact s.write32_commits _ _

theorem State.putCopy_commits (s : State) (c : Commit) : (s.putCopy c).commits = s.commits := by
  unfold State.putCopy
  refine State.each_keeps (fun t => t.commits = s.commits) _ _ (fun t p _ ht => (t.putActive_commits p).trans ht) _ ?_
  exact State.when_keeps (fun t => t.commits = s.commits) _ _ _ rfl fun h => h

theorem State.noteDone_commits (s : State) (c : Commit) : (s.noteDone c).commits = s.commits :=
  State.when_keeps (fun t => t.commits = s.commits) _ _ _ rfl fun _ => rfl

theorem State.takeEffect_commits (s : State) (c : Commit) : (s.takeEffect c).commits = s.commits := by
  obtain ⟨oldSel, h⟩ := s.takeEffect_eq c
  rw [h, State.afterCommit_commits, State.noteDone_commits, State.putCopy_commits]

/-- The commits that take effect at a boundary, and those that go on waiting. -/
theorem State.commitBoundary_eq (s : State) (d : Nat) :
    s.commitBoundary d = ({ s with commits := s.commits.filter fun c => s.groupDom c.group != d || decide (s.now ≤ c.cyc) } : State).each
      (s.commits.filter fun c => s.groupDom c.group == d && decide (c.cyc < s.now)) State.takeEffect := by
  have hlater : (s.commits.filter fun c => !(s.groupDom c.group == d && decide (c.cyc < s.now))) =
      s.commits.filter fun c => s.groupDom c.group != d || decide (s.now ≤ c.cyc) := by
    refine List.filter_congr fun c _ => ?_
    rw [Bool.not_and, ← decide_not]
    simp only [bne, Nat.not_lt]
  unfold State.commitBoundary
  rw [List.partition_eq_filter_filter]
  dsimp only
  rw [← hlater]
  rfl

/-! ### The dead times of a channel -/

/-- A commit of the dead times of a channel makes nothing besides its new active copy and its report. -/
theorem State.afterCommit_deadTimes (s : State) {k : Nat} (hk : k < 40) (oldSel : Nat) : s.afterCommit (0x090 + k) oldSel = s := by
  unfold State.afterCommit
  simp only [beq_iff_eq]
  rw [if_neg (by omega), if_neg (by omega), if_neg (by omega), if_neg (by simp; omega), if_neg (by simp; omega), if_neg (by simp; omega),
    if_neg (by simp; omega)]

theorem State.groupDom_deadTimes (s : State) {k : Nat} (hk : k < 40) : s.groupDom (0x090 + k) = s.fld (F.PG_CFG_CDOM k) := by
  unfold State.groupDom
  simp only [beq_iff_eq]
  rw [if_neg (by omega), if_neg (by omega), if_neg (by omega), if_neg (by omega), if_neg (by omega), if_neg (by omega), if_neg (by omega),
    if_neg (by omega), if_pos (by omega), Nat.add_sub_cancel_left]

theorem State.noteDone_reg (s : State) (c : Commit) {a : Nat} (h1 : a ≠ Reg.CG_CNT) (h2 : a ≠ Reg.CG_SPSTAT) : (s.noteDone c).reg a = s.reg a := by
  refine State.when_keeps (fun t => t.reg a = s.reg a) _ _ _ (State.reg_incSat_ne s F.CG_CNT_DONE_CNT h1) fun h => ?_
  exact (State.reg_setFld_ne _ F.CG_SPSTAT_RES _ h2).trans h

/-- The two registers of the dead times of a channel, and where they lie. -/
theorem deadTimeRegs (k : Nat) (hk : k < 40) : Reg.PG_DTR k < tabA ∧ Reg.PG_DTF k < tabA ∧ Reg.PG_DTR k ≠ Reg.PG_DTF k ∧
    (Reg.PG_DTR k ≠ Reg.CG_CNT ∧ Reg.PG_DTR k ≠ Reg.CG_SPSTAT) ∧ Reg.PG_DTF k ≠ Reg.CG_CNT ∧ Reg.PG_DTF k ≠ Reg.CG_SPSTAT := by
  simp only [Reg.PG_DTR, Reg.PG_DTF, Reg.CG_CNT, Reg.CG_SPSTAT, tabA]
  omega

theorem State.takeEffect_deadTimes (s : State) {k : Nat} (hk : k < 40) (w v : Word) (sp : Bool) (cyc : Nat) :
    (s.takeEffect ⟨0x090 + k, [(Reg.PG_DTR k, w), (Reg.PG_DTF k, v)], sp, cyc⟩).reg (Reg.PG_DTR k) = w ∧
    (s.takeEffect ⟨0x090 + k, [(Reg.PG_DTR k, w), (Reg.PG_DTF k, v)], sp, cyc⟩).reg (Reg.PG_DTF k) = v := by
  obtain ⟨hr, hf, hne, hrc, hfc⟩ := deadTimeRegs k hk
  have hctx : isCtxGroup (0x090 + k) = false := by simp [isCtxGroup]; omega
  obtain ⟨oldSel, h⟩ := s.takeEffect_eq ⟨0x090 + k, [(Reg.PG_DTR k, w), (Reg.PG_DTF k, v)], sp, cyc⟩
  rw [h, State.afterCommit_deadTimes _ hk, State.noteDone_reg _ _ hrc.1 hrc.2, State.noteDone_reg _ _ hfc.1 hfc.2]
  unfold State.putCopy
  rw [hctx, State.when_false, State.each_cons, State.each_cons, State.each_nil, State.putActive, State.putActive, if_pos hr, if_pos hf,
    State.reg_setReg_ne _ _ hne, State.reg_setReg_same, State.reg_setReg_same]
  exact ⟨rfl, rfl⟩

/-- Settles O27: the commits that take effect add none to those that wait; the words of a commit of dead times become the active ones. -/
theorem commitsTakeEffectAtTheirBoundary : Obligations.CommitsTakeEffectAtTheirBoundary := by
  unfold Obligations.CommitsTakeEffectAtTheirBoundary
  refine ⟨fun s d => ?_, fun s k w v sp cyc hk hcyc hc => ?_⟩
  · rw [s.commitBoundary_eq d]
    exact State.each_keeps (fun t => t.commits = _) _ _ (fun t c _ ht => (t.takeEffect_commits c).trans ht) _ rfl
  · have hnow : (s.commits.filter fun c => s.groupDom c.group == s.fld (F.PG_CFG_CDOM k) && decide (c.cyc < s.now)) = s.commits := by
      rw [hc, List.filter_eq_self]
      intro c hm
      rw [List.mem_singleton.mp hm, s.groupDom_deadTimes hk, beq_self_eq_true, Bool.true_and]
      exact decide_eq_true hcyc
    rw [s.commitBoundary_eq, hnow, hc, State.each_cons, State.each_nil]
    exact State.takeEffect_deadTimes _ hk w v sp cyc

end Sys2Proof.Machine
end

section
/-! O46, O51 and O52: the check words that the manual prints, the state after reset and what a reset clears (R13, R764, R773, R813, R848). -/

namespace Sys2Proof.Machine

/-- Settles O46: the four values, computed. -/
theorem checkWordsOfTheManual : Obligations.CheckWordsOfTheManual := by
  unfold Obligations.CheckWordsOfTheManual
  refine ⟨?_, ?_, ?_, ?_⟩ <;> decide +kernel

/-- Settles O51: the maps of the reset state are empty, so every register reads its reset word. -/
theorem resetState : Obligations.ResetState := by
  unfold Obligations.ResetState
  refine ⟨?_, State.reg_reset, rfl, fun n hn => State.sistate_reset hn, rfl, rfl, rfl, ?_, ⟨rfl, rfl, rfl⟩, ⟨rfl, rfl, rfl⟩⟩
  · rw [State.sys, State.fld_reset]
    decide
  · rw [State.fld_reset]
    decide

/-! ### A reset -/

/-- The reset is a power-on one, or it prolongs one. -/
def State.isPor (s : State) (cause : Nat) : Bool := cause == rstPower || (s.lt.held && s.lt.por)

/-- The state that a reset makes, before the registers that report it are set. -/
def State.resetBase (s : State) (por : Bool) : State :=
  { State.reset with
    freeCtr := s.freeCtr, pending := s.pending, rails := s.rails
    lt := { Lt.reset with held := true, por := por, region := s.lt.region, key := s.lt.key, frelDis := s.lt.frelDis, fmt2Dis := s.lt.fmt2Dis
                          factory := s.lt.factory && !por } }

/-- The report of a reset in `SYS_STAT` and `OTP_STAT`. -/
def State.resetReport (s : State) (por : Bool) (cause : Nat) : State :=
  let r := (s.resetBase por).setFld F.SYS_STAT_RSTC (if por then rstPower else cause)
  ((r.setFlag F.OTP_STAT_KEYF s.lt.key.isSome).setFlag F.OTP_STAT_FRELDIS s.lt.frelDis).setFlag F.OTP_STAT_FMT2DIS s.lt.fmt2Dis

theorem State.enterReset_eq (s : State) (cause : Nat) :
    s.enterReset cause = if s.isPor cause then s.resetReport true cause else (s.resetReport false cause).setReg Reg.IO_STAT (s.reg Reg.IO_STAT) := by
  have heq : s.enterReset cause = if s.isPor cause then s.resetReport (s.isPor cause) cause
      else (s.resetReport (s.isPor cause) cause).setReg Reg.IO_STAT (s.reg Reg.IO_STAT) := rfl
  rw [heq]
  cases s.isPor cause
  · rw [if_neg Bool.false_ne_true, if_neg Bool.false_ne_true]
  · rw [if_pos rfl, if_pos rfl]

theorem State.resetBase_reg (s : State) (por : Bool) (a : Nat) : (s.resetBase por).reg a = resetWord a := rfl

theorem State.MarksTo.setReg {l : List Nat} {s t : State} (h : s.MarksTo l t) {a : Nat} (ha : a ∈ l) (w : Word) : s.MarksTo l (t.setReg a w) where
  frame := by
    rw [State.setReg, h.frame]
  reg b hb := (State.reg_setReg_ne t w fun e => hb (by rw [e]; exact ha)).trans (h.reg b hb)

theorem State.resetReport_marksTo (s : State) (por : Bool) (cause : Nat) :
    (s.resetBase por).MarksTo [Reg.SYS_STAT, Reg.OTP_STAT] (s.resetReport por cause) :=
  ((((State.MarksTo.refl _ _).setFld (f := F.SYS_STAT_RSTC) (by decide) _).setFlag (f := F.OTP_STAT_KEYF) (by decide) _).setFlag
    (f := F.OTP_STAT_FRELDIS) (by decide) _).setFlag (f := F.OTP_STAT_FMT2DIS) (by decide) _

theorem State.enterReset_marksTo (s : State) (cause : Nat) :
    ∃ por, (s.resetBase por).MarksTo [Reg.SYS_STAT, Reg.OTP_STAT, Reg.IO_STAT] (s.enterReset cause) := by
  rw [s.enterReset_eq cause]
  split
  · exact ⟨true, (s.resetReport_marksTo true cause).mono (by simp)⟩
  · exact ⟨false, ((s.resetReport_marksTo false cause).mono (by simp)).setReg (by simp) _⟩

/-- Of `SYS_STAT` the report sets only the cause. -/
theorem State.resetReport_sysStat (s : State) (por : Bool) (cause : Nat) :
    (s.resetReport por cause).reg Reg.SYS_STAT = ((s.resetBase por).setFld F.SYS_STAT_RSTC (if por then rstPower else cause)).reg Reg.SYS_STAT := by
  have h : ((s.resetBase por).setFld F.SYS_STAT_RSTC (if por then rstPower else cause)).MarksTo [Reg.OTP_STAT] (s.resetReport por cause) :=
    (((State.MarksTo.refl _ _).setFlag (f := F.OTP_STAT_KEYF) (by decide) _).setFlag
      (f := F.OTP_STAT_FRELDIS) (by decide) _).setFlag (f := F.OTP_STAT_FMT2DIS) (by decide) _
  exact h.reg _ (by decide)

theorem State.resetReport_sys (s : State) (por : Bool) (cause : Nat) : (s.resetReport por cause).sys = sysReset := by
  rw [State.sys, State.fld, show F.SYS_STAT_SYS_STATE.addr = Reg.SYS_STAT from rfl, s.resetReport_sysStat por cause]
  refine (State.fld_setFld_disjoint _ F.SYS_STAT_RSTC F.SYS_STAT_SYS_STATE _ (by decide) (by decide)).trans ?_
  rw [State.fld, s.resetBase_reg]
  decide

theorem State.resetReport_rstc (s : State) {cause : Nat} (h : cause < 3) : (s.resetReport false cause).fld F.SYS_STAT_RSTC = cause := by
  rw [State.fld, show F.SYS_STAT_RSTC.addr = Reg.SYS_STAT from rfl, s.resetReport_sysStat false cause]
  refine (State.fld_setFld_same _ F.SYS_STAT_RSTC _ (by decide)).trans (Nat.mod_eq_of_lt ?_)
  exact Nat.lt_of_lt_of_le h (by decide)

theorem State.enterReset_sys (s : State) (cause : Nat) : (s.enterReset cause).sys = sysReset := by
  rw [s.enterReset_eq cause]
  split
  · exact s.resetReport_sys true cause
  · rw [State.sys, State.fld, State.reg_setReg_ne _ _ (by decide)]
    exact s.resetReport_sys false cause

/-- Settles O52: the reset state, with the registers that report the reset set after it. -/
theorem resetAssertClears : Obligations.ResetAssertClears := by
  unfold Obligations.ResetAssertClears
  intro s cause hcause
  obtain ⟨por, hto⟩ := s.enterReset_marksTo cause
  have hreg := hto.reg
  refine ⟨s.enterReset_sys cause, ?_, ?_, ?_, ?_, ?_, ?_, ?_, ?_, ?_, ?_, ?_, fun a h1 h2 h3 => ?_, fun hpower hheld => ?_⟩
  iterate 11
    · rw [hto.frame]
      rfl
  · exact (hreg a (by simp [h1, h2, h3])).trans (s.resetBase_reg por a)
  · have hpor : s.isPor cause = false := by simp [State.isPor, hpower, hheld]
    rw [s.enterReset_eq cause, hpor]
    refine ⟨?_, State.reg_setReg_same _ _ _⟩
    rw [if_neg Bool.false_ne_true, State.fld, State.reg_setReg_ne _ _ (by decide)]
    exact s.resetReport_rstc hcause

end Sys2Proof.Machine
end

section
/-! O28: a service-port write to a parameter of a commit group (R17, R820, R827). -/

namespace Sys2Proof.Machine

/-! ### The registers of the commit groups -/

/-- The addresses of every register of every commit group. -/
def groupAddrs : List Nat := regGroups.flatMap groupRegs

theorem mem_groupAddrs {a g : Nat} (h : groupOf a = some g) : a ∈ groupAddrs :=
  List.mem_flatMap.mpr ⟨g, List.mem_of_find?_eq_some h, List.contains_iff_mem.mp (List.find?_some (p := fun g => (groupRegs g).contains a) h)⟩

/-- No row of the register table with bits that a write of 1 clears holds a register of a commit group. -/
theorem w1c_rows_hold_no_group : (regRows.all fun r => r.w1c == 0 || groupAddrs.all fun a => !r.holds a) = true := by decide +kernel

/-- The register is none of those that the port writes directly in READY and AXLE_SAFE (R820). -/
def portPlain (a : Nat) : Bool :=
  !isEvEn a && a != Reg.CG_REQ && a != Reg.SP_UNLOCK && a != Reg.SYS_RST && !isTestReg a && a != Reg.LT_CTL

theorem groupAddrs_plain : (groupAddrs.all portPlain) = true := by decide +kernel

theorem w1c_of_group {a g : Nat} {r : RegRow} (hg : groupOf a = some g) (hr : regRow a = some r) : r.w1c = 0 := by
  have hrow := List.all_eq_true.mp w1c_rows_hold_no_group r (List.mem_of_find?_eq_some hr)
  rcases Bool.or_eq_true _ _ ▸ hrow with h | h
  · exact beq_iff_eq.mp h
  · have hno := List.all_eq_true.mp h a (mem_groupAddrs hg)
    rw [List.find?_some (p := fun r : RegRow => r.holds a) hr] at hno
    exact absurd hno (by decide)

theorem portPlain_of_group {a g : Nat} (hg : groupOf a = some g) : portPlain a = true := List.all_eq_true.mp groupAddrs_plain a (mem_groupAddrs hg)

/-! ### What the port may write in READY and AXLE_SAFE -/

theorem State.sys_ne_defaults {s : State} (h : s.inForce = true) : (s.sys == sysDefaults) = false := by
  rcases s.inForce_iff.mp h with h | h <;> rw [h] <;> rfl

theorem State.portMask_of_plain {s : State} {a : Nat} (h : s.inForce = true) (hp : portPlain a = true) (r : RegRow) : s.portMask a r = 0 := by
  simp only [portPlain, Bool.and_eq_true, Bool.not_eq_true', bne_iff_ne] at hp
  obtain ⟨⟨⟨⟨⟨hev, hcg⟩, hunl⟩, hrst⟩, htest⟩, hlt⟩ := hp
  unfold State.portMask
  simp [s.sys_ne_defaults h, h, hev, hcg, hunl, hrst, htest, hlt]

theorem State.shadowMask_of_group {s : State} {a g : Nat} (h : s.inForce = true) (hg : groupOf a = some g) (hown : s.ownedByLink g = false)
    (r : RegRow) : s.shadowMask a r = r.rw := by
  unfold State.shadowMask
  rw [hg]
  dsimp only
  rw [h, hown, if_pos (by simp)]

/-- The word of a shadow copy after a write to the bits `m`. -/
def putShadow (old w : Word) (m : Nat) : Word := (old &&& ~~~ BitVec.ofNat 32 m) ||| (w &&& BitVec.ofNat 32 m)

theorem State.portWriteReg_of_group {s : State} {a g : Nat} {r : RegRow} (h : s.inForce = true) (hg : groupOf a = some g)
    (hown : s.ownedByLink g = false) (hr : regRow a = some r) (w : Word) :
    s.portWriteReg a w = s.when (r.rw != 0) (·.setShad a (putShadow (s.shad a) w r.rw)) := by
  have hclear : s.clearMask r = 0 := by
    unfold State.clearMask
    rw [w1c_of_group hg hr, ite_self]
  unfold State.portWriteReg State.writeActs
  rw [hr]
  dsimp only
  rw [State.portMask_of_plain h (portPlain_of_group hg), State.shadowMask_of_group h hg hown, hclear,
    show Nat.land 0 (if keepsWo a = true then 0xFFFFFFFF else r.rw) = 0 from Nat.zero_and _]
  rfl

theorem putShadow_zero (old w : Word) : putShadow old w 0 = old := by
  have hall : ~~~BitVec.ofNat 32 0 = BitVec.allOnes 32 := by decide
  rw [putShadow, hall, BitVec.and_allOnes]
  exact (congrArg (old ||| ·) BitVec.and_zero).trans BitVec.or_zero

/-- Settles O28: the port's mask of the register is empty, so the write reaches the shadow copy alone. -/
theorem groupWriteReachesShadowOnly : Obligations.GroupWriteReachesShadowOnly := by
  unfold Obligations.GroupWriteReachesShadowOnly
  intro s a g w r h hg hown hr
  rw [State.portWriteReg_of_group h hg hown hr w]
  show _ ∧ _ = putShadow (s.shad a) w r.rw ∧ _
  by_cases hrw : r.rw = 0
  · rw [hrw, putShadow_zero]
    exact ⟨rfl, rfl, fun b _ => rfl⟩
  · rw [show (r.rw != 0) = true from bne_iff_ne.mpr hrw, State.when_true]
    exact ⟨rfl, State.shad_setShad_same _ _ _, fun b hb => State.shad_setShad_ne _ _ hb⟩

end Sys2Proof.Machine
end

section
/-! O50: the end of an unlock (R822). -/

namespace Sys2Proof.Machine

/-- What one application establishes under an invariant, and the others keep, holds after the whole repetition. -/
theorem State.each_establishes_under {α : Type} (I P : State → Prop) {l : List α} {x : α} (hx : x ∈ l) (f : State → α → State)
    (hI : ∀ s y, I s → I (f s y)) (hset : ∀ s, I s → P (f s x)) (hkeep : ∀ s y, I s → P s → P (f s y))
    {s : State} (hs : I s) : P (s.each l f) := by
  obtain ⟨pre, post, rfl⟩ := List.append_of_mem hx
  rw [State.each, List.foldl_append, List.foldl_cons]
  have hpre : I (s.each pre f) := State.each_keeps I pre f (fun t y _ ht => hI t y ht) s hs
  exact (State.each_keeps (fun t => I t ∧ P t) post f (fun t y _ ⟨hi, hp⟩ => ⟨hI t y hi, hkeep t y hi hp⟩) _ ⟨hI _ x hpre, hset _ hpre⟩).2

theorem State.MarksTo.each {α : Type} {l : List Nat} {s t : State} (h : s.MarksTo l t) (xs : List α) {f : State → α → State}
    (hf : ∀ (u : State) (x : α), x ∈ xs → s.MarksTo l u → s.MarksTo l (f u x)) : s.MarksTo l (t.each xs f) :=
  State.each_keeps (s.MarksTo l) xs f hf t h

theorem State.MarksTo.lt {l : List Nat} {s t : State} (h : s.MarksTo l t) : t.lt = s.lt := by rw [h.frame]

/-! ### The three steps of the end -/

/-- The correction of the converters follows the image again. -/
def State.restoreFreeze (s : State) : State := s.each (List.range 6) fun s n => s.setFlag (F.ADC_CORR_FREEZE n) (s.freezeImage n)

/-- No injection and no flip stays armed. -/
def State.disarmTests (s : State) : State :=
  (s.each (List.range 4) fun s n => s.setFlag (F.EC_INJ_ARM n) false).setFlag F.MP_FLIP_ARM false

/-- The unlock is over. -/
def State.dropUnlock (s : State) : State := ((s.setFlag F.LT_CTL_FREL false).setFlag F.SYS_STAT_UNL false).raise Ev.SP_UNL axle 0

theorem State.unlockOver_eq {s : State} (h : s.unlocked = true) : s.unlockOver = s.restoreFreeze.disarmTests.dropUnlock := by
  unfold State.unlockOver
  rw [h]
  rfl

/-- The registers of the three steps. -/
def freezeRegs : List Nat := (List.range 6).map Reg.ADC_CORR
def armRegs : List Nat := Reg.MP_FLIP :: (List.range 4).map Reg.EC_INJ
def unlockRegs : List Nat := [Reg.LT_CTL, Reg.SYS_STAT]

theorem State.restoreFreeze_marksTo (s : State) : s.MarksTo freezeRegs s.restoreFreeze :=
  (State.MarksTo.refl _ s).each _ fun _ n hn hu => hu.setFlag (f := F.ADC_CORR_FREEZE n) (List.mem_map_of_mem hn) _

theorem State.disarmTests_marksTo (s : State) : s.MarksTo armRegs s.disarmTests := by
  have hinj : s.MarksTo armRegs (s.each (List.range 4) fun s n => s.setFlag (F.EC_INJ_ARM n) false) :=
    (State.MarksTo.refl _ s).each _ fun _ n hn hu => hu.setFlag (f := F.EC_INJ_ARM n) (List.mem_cons_of_mem _ (List.mem_map_of_mem hn)) _
  exact hinj.setFlag (f := F.MP_FLIP_ARM) List.mem_cons_self _

theorem State.dropUnlock_marksTo (s : State) : s.MarksTo unlockRegs s.dropUnlock :=
  (((State.MarksTo.refl _ s).setFlag (f := F.LT_CTL_FREL) (by decide) _).setFlag (f := F.SYS_STAT_UNL) (by decide) _).raise ..

/-- The image value depends on the loaded image alone. -/
theorem State.freezeImage_of_lt {s t : State} (h : t.lt = s.lt) (n : Nat) : t.freezeImage n = s.freezeImage n := by
  unfold State.freezeImage
  rw [h]

theorem State.setFlag_lt (s : State) (f : Fld) (b : Bool) : (s.setFlag f b).lt = s.lt := by rw [s.setFlag_frame f b]

theorem State.flag_setFlag_ne (s : State) (f g : Fld) (b : Bool) (h : g.addr ≠ f.addr) : (s.setFlag f b).flag g = s.flag g :=
  State.flag_of_reg (State.reg_setFlag_ne s f b h)

theorem State.restoreFreeze_flag (s : State) {n : Nat} (hn : n < 6) : s.restoreFreeze.flag (F.ADC_CORR_FREEZE n) = s.freezeImage n := by
  have hset (t : State) (ht : t.lt = s.lt) : (t.setFlag (F.ADC_CORR_FREEZE n) (t.freezeImage n)).flag (F.ADC_CORR_FREEZE n) = s.freezeImage n :=
    (State.flag_setFlag_same t (F.ADC_CORR_FREEZE n) _ (Nat.le_of_ble_eq_true rfl) Nat.one_pos).trans (State.freezeImage_of_lt ht n)
  unfold State.restoreFreeze
  refine State.each_establishes_under (fun t => t.lt = s.lt) (fun t => t.flag (F.ADC_CORR_FREEZE n) = s.freezeImage n) (List.mem_range.mpr hn) _
    (fun t y ht => (t.setFlag_lt _ _).trans ht) hset (fun t y ht hp => ?_) rfl
  rcases eq_or_ne y n with rfl | hy
  · exact hset t ht
  · refine (t.flag_setFlag_ne _ _ _ ?_).trans hp
    simp only [F.ADC_CORR_FREEZE, Reg.ADC_CORR]
    omega

theorem State.disarmTests_inj (s : State) {n : Nat} (hn : n < 4) : s.disarmTests.flag (F.EC_INJ_ARM n) = false := by
  have hset (t : State) : (t.setFlag (F.EC_INJ_ARM n) false).flag (F.EC_INJ_ARM n) = false :=
    State.flag_setFlag_same t (F.EC_INJ_ARM n) _ (Nat.le_of_ble_eq_true rfl) Nat.one_pos
  refine (State.flag_setFlag_ne _ F.MP_FLIP_ARM (F.EC_INJ_ARM n) false ?_).trans ?_
  · simp only [F.EC_INJ_ARM, F.MP_FLIP_ARM, Reg.EC_INJ, Reg.MP_FLIP]
    omega
  · refine State.each_establishes (fun t => t.flag (F.EC_INJ_ARM n) = false) (List.mem_range.mpr hn) _ hset (fun t y hp => ?_) s
    rcases eq_or_ne y n with rfl | hy
    · exact hset t
    · refine (t.flag_setFlag_ne _ _ _ ?_).trans hp
      simp only [F.EC_INJ_ARM, Reg.EC_INJ]
      omega

theorem State.disarmTests_flip (s : State) : s.disarmTests.flag F.MP_FLIP_ARM = false :=
  State.flag_setFlag_same _ F.MP_FLIP_ARM false (by decide) (by decide)

theorem State.raise_flag (s : State) (e : Ev.Src) (conv inst : Nat) (f : Fld) : (s.raise e conv inst).flag f = s.flag f := rfl

theorem State.dropUnlock_flags (s : State) : s.dropUnlock.flag F.LT_CTL_FREL = false ∧ s.dropUnlock.unlocked = false := by
  refine ⟨?_, (State.raise_flag _ _ _ _ _).trans (State.unlocked_setFlag_unl _ false)⟩
  refine (State.raise_flag _ _ _ _ _).trans ((State.flag_setFlag_ne _ F.SYS_STAT_UNL F.LT_CTL_FREL false (by decide)).trans ?_)
  exact State.flag_setFlag_same s F.LT_CTL_FREL false (by decide) (by decide)

theorem State.dropUnlock_raised (s : State) : s.dropUnlock.raised = s.raised ++ [⟨Ev.SP_UNL.num, 0, 5, axle, 0⟩] := by
  show ((s.setFlag F.LT_CTL_FREL false).setFlag F.SYS_STAT_UNL false).raised ++ _ = _
  rw [State.setFlag_raised, State.setFlag_raised]
  rfl

theorem State.restoreFreeze_raised (s : State) : s.restoreFreeze.raised = s.raised :=
  State.each_keeps (fun t => t.raised = s.raised) _ _ (fun t _ _ ht => (t.setFlag_raised _ _).trans ht) s rfl

theorem State.disarmTests_raised (s : State) : s.disarmTests.raised = s.raised :=
  (State.setFlag_raised _ _ _).trans (State.each_keeps (fun t => t.raised = s.raised) _ _ (fun t _ _ ht => (t.setFlag_raised _ _).trans ht) s rfl)

/-! The three sets of registers are disjoint. -/

theorem freezeRegs_apart {n : Nat} (hn : n < 6) : Reg.ADC_CORR n ∉ armRegs ∧ Reg.ADC_CORR n ∉ unlockRegs := by
  interval_cases n <;> decide

theorem armRegs_apart : ∀ a ∈ armRegs, a ∉ unlockRegs := by decide

/-- Settles O50: the correction, the tests and the unlock itself, one after the other. -/
theorem unlockEndRestores : Obligations.UnlockEndRestores := by
  unfold Obligations.UnlockEndRestores
  intro s h
  have hfreeze := s.restoreFreeze_marksTo
  have harm := s.restoreFreeze.disarmTests_marksTo
  have hunl := s.restoreFreeze.disarmTests.dropUnlock_marksTo
  obtain ⟨hfrel, hlocked⟩ := s.restoreFreeze.disarmTests.dropUnlock_flags
  rw [← State.unlockOver_eq h] at hunl hfrel hlocked
  refine ⟨fun n hn => ?_, fun n hn => ?_, ?_, hfrel, hlocked, ?_, ?_, fun dur => rfl, fun hend => ?_, fun hend => ?_⟩
  · obtain ⟨h1, h2⟩ := freezeRegs_apart hn
    exact (hunl.flag h2).trans ((harm.flag h1).trans (s.restoreFreeze_flag hn))
  · have hmem : (F.EC_INJ_ARM n).addr ∈ armRegs := List.mem_cons_of_mem _ (List.mem_map_of_mem (List.mem_range.mpr hn))
    exact (hunl.flag (armRegs_apart _ hmem)).trans (State.disarmTests_inj _ hn)
  · exact (hunl.flag (armRegs_apart _ List.mem_cons_self)).trans (State.disarmTests_flip _)
  · rw [State.unlockOver_eq h, State.dropUnlock_raised, State.disarmTests_raised, State.restoreFreeze_raised]
  · rw [hunl.frame, harm.frame, hfreeze.frame]
  · rw [State.unlockEnds, decide_eq_true hend, State.when_true]
  · rw [State.unlockEnds, decide_eq_false (Nat.not_le.mpr hend), State.when_false]

end Sys2Proof.Machine
end

section
/-! O47 and O48: frames of the service port that fail a CRC (R814), and WRITE frames (R818). -/

namespace Sys2Proof.Machine

/-! ### A failed CRC -/

theorem State.spCrcFail_marksTo (s : State) : s.MarksTo [Reg.SP_CNT, Reg.SP_STAT] s.spCrcFail :=
  ((State.MarksTo.refl _ s).incSat (f := F.SP_CNT_CRC_CNT) (by decide)).flagRaise (f := F.SP_STAT_CRCF) (by decide) ..

theorem State.spCrcFail_cnt (s : State) : s.spCrcFail.fld F.SP_CNT_CRC_CNT = min (s.fld F.SP_CNT_CRC_CNT + 1) 4095 := by
  have hflag : (s.incSat F.SP_CNT_CRC_CNT).MarksTo [Reg.SP_STAT] s.spCrcFail :=
    (State.MarksTo.refl _ _).flagRaise (f := F.SP_STAT_CRCF) (by decide) ..
  have hmax : 2 ^ F.SP_CNT_CRC_CNT.width - 1 = 4095 := by decide
  rw [hflag.fld (by decide), State.fld_incSat_same s F.SP_CNT_CRC_CNT (by decide), hmax]

theorem State.spCrcFail_raised (s : State) :
    s.spCrcFail.raised = s.raised ++ if s.flag F.SP_STAT_CRCF then [] else [⟨Ev.SP_CRCERR.num, 1, 5, axle, 0⟩] := by
  have hflag : (s.incSat F.SP_CNT_CRC_CNT).flag F.SP_STAT_CRCF = s.flag F.SP_STAT_CRCF :=
    ((State.MarksTo.refl [Reg.SP_CNT] s).incSat (f := F.SP_CNT_CRC_CNT) (by decide)).flag (by decide)
  rw [State.spCrcFail, State.flagRaise_raised, hflag]
  rfl

/-- What the answer to a failed frame leaves of the state. -/
theorem State.spSend_marks {l : List Nat} {s t : State} (h : s.MarksTo l t) (st : Byte) (bs : List Byte) (resp ridx : Nat) :
    t.spSend st bs resp ridx = { s with
      regs := (t.spSend st bs resp ridx).regs, raised := (t.spSend st bs resp ridx).raised, spOut := (t.spSend st bs resp ridx).spOut
      hwSets := (t.spSend st bs resp ridx).hwSets } := by
  unfold State.spSend
  rw [h.frame]

theorem State.spSend_flag (s : State) (st : Byte) (bs : List Byte) (resp ridx : Nat) (f : Fld) : (s.spSend st bs resp ridx).flag f = s.flag f := rfl
theorem State.spSend_fld (s : State) (st : Byte) (bs : List Byte) (resp ridx : Nat) (f : Fld) : (s.spSend st bs resp ridx).fld f = s.fld f := rfl
theorem State.spSend_reg (s : State) (st : Byte) (bs : List Byte) (resp ridx a : Nat) : (s.spSend st bs resp ridx).reg a = s.reg a := rfl

/-- The frame fails a CRC in one of the three ways of R814; `resp` and `zeros` are the code and the data of its answer. -/
theorem State.failedFrame_eq {s t : State} {resp : Nat} {zeros : List Byte} (hsys : s.sys ≠ sysReset)
    (h : (∃ (sh : Bool) (n addr : Nat) (h : Byte), h ≠ crc8 (spHeader (if sh then 2 else 1) n addr) ∧ t = s.spRead sh n addr h ∧
        resp = 1 ∧ zeros = zeroWords n) ∨
      (∃ (addr : Nat) (ws : List Word) (h d : Byte), h ≠ crc8 (spHeader 3 ws.length addr) ∧ t = s.spWrite addr ws h d ∧
        resp = 1 ∧ zeros = []) ∨
      (∃ (addr : Nat) (ws : List Word) (h d : Byte), h = crc8 (spHeader 3 ws.length addr) ∧ d ≠ crc8 (ws.flatMap beBytes) ∧
        t = s.spWrite addr ws h d ∧ resp = 2 ∧ zeros = [])) :
    t = s.spCrcFail.spSend s.spStatus zeros resp 0 := by
  have hlive : ¬ (s.sys == sysReset) = true := by simpa using hsys
  rcases h with ⟨sh, n, addr, h, hcrc, rfl, rfl, rfl⟩ | ⟨addr, ws, h, d, hcrc, rfl, rfl, rfl⟩ | ⟨addr, ws, h, d, hcrc, hd, rfl, rfl, rfl⟩
  · rw [State.spRead, if_neg hlive, if_pos hcrc]
    rfl
  · rw [State.spWrite, if_neg hlive, if_pos hcrc]
    rfl
  · rw [State.spWrite, if_neg hlive, if_neg (not_not.mpr hcrc), if_pos hd]
    rfl

/-- Settles O47: the frame is counted and flagged, and answered with its code. -/
theorem badCrcFrameDoesNothing : Obligations.BadCrcFrameDoesNothing := by
  unfold Obligations.BadCrcFrameDoesNothing
  intro s t resp zeros hsys hframe
  rw [State.failedFrame_eq hsys hframe]
  have hto := s.spCrcFail_marksTo
  refine ⟨(State.spSend_fld ..).trans s.spCrcFail_cnt, (State.spSend_flag ..).trans (State.flagRaise_flag _ _ _ _ (by decide) (by decide)),
    s.spCrcFail_raised, ⟨_, rfl⟩, State.spSend_marks hto .., fun a h1 h2 => ?_⟩
  rw [State.spSend_reg]
  exact hto.reg a (by simp [h1, h2])

/-! ### WRITE frames -/

theorem State.spDeny_marksTo (s : State) : s.MarksTo [Reg.SP_CNT, Reg.SP_STAT] s.spDeny :=
  ((State.MarksTo.refl _ s).incSat (f := F.SP_CNT_DENY_CNT) (by decide)).flagRaise (f := F.SP_STAT_DENYF) (by decide) ..

/-- The first word that may not be written is the one that the check finds. -/
theorem find_range_first {n i : Nat} {p : Nat → Bool} (hi : i < n) (hp : p i = true) (hfirst : ∀ k < i, p k = false) :
    (List.range n).find? p = some i := by
  rw [List.find?_range_eq_some]
  exact ⟨hp, List.mem_range.mpr hi, fun k hk => by simp [hfirst k hk]⟩

theorem State.writeFrame_of_denied {s : State} {addr : Nat} {ws : List Word} (hend : pastEnd addr ws.length = none) {i : Nat} (hi : i < ws.length)
    (hbad : s.writeCode (addr + 4 * i) ≠ 0) (hfirst : ∀ k < i, s.writeCode (addr + 4 * k) = 0) :
    s.writeFrame addr ws = s.spDeny.spSend s.spStatus [] (s.writeCode (addr + 4 * i)) i := by
  have hfind : ((List.range ws.length).find? fun i => s.writeCode (addr + 4 * i) != 0) = some i :=
    find_range_first hi (bne_iff_ne.mpr hbad) fun k hk => by simp [hfirst k hk]
  unfold State.writeFrame
  rw [hend, hfind]

theorem State.writeFrame_of_allowed {s : State} {addr : Nat} {ws : List Word} (hend : pastEnd addr ws.length = none)
    (hok : ∀ i < ws.length, s.writeCode (addr + 4 * i) = 0) :
    s.writeFrame addr ws = (s.spWords (ws.zipIdx.map fun p => (addr + 4 * p.2, p.1))).spSend s.spStatus [] 0 0 := by
  have hfind : ((List.range ws.length).find? fun i => s.writeCode (addr + 4 * i) != 0) = none := by
    rw [List.find?_eq_none]
    intro i hi
    simp [hok i (List.mem_range.mp hi)]
  unfold State.writeFrame
  rw [hend, hfind]

theorem State.spNext_cons {s : State} {p : Nat × Word} {q : List (Nat × Word)} (h : s.spQueue = p :: q) :
    s.spNext = ({ s with spQueue := q } : State).portWriteWord p.1 p.2 := by
  unfold State.spNext
  rw [h]

/-- The first word of a frame is written at once, the others wait (log entry 56). -/
theorem State.spWords_cons {s : State} (h : s.spQueue = []) (p : Nat × Word) (q : List (Nat × Word)) :
    s.spWords (p :: q) = ({ s with spQueue := q } : State).portWriteWord p.1 p.2 := by
  unfold State.spWords
  rw [h]
  exact State.spNext_cons (s := { s with spQueue := p :: q }) rfl

/-- Settles O48: the check of all words, then the writes one after the other. -/
theorem writeFrameIsAllOrNone : Obligations.WriteFrameIsAllOrNone := by
  unfold Obligations.WriteFrameIsAllOrNone
  refine ⟨fun s addr ws hend i hi hbad hfirst => ?_, fun s addr w ws hend hq hok => ?_, fun s p q h => State.spNext_cons h⟩
  · rw [State.writeFrame_of_denied hend hi hbad hfirst]
    have hto := s.spDeny_marksTo
    have hframe := State.spSend_marks hto s.spStatus [] (s.writeCode (addr + 4 * i)) i
    refine ⟨?_, ?_, ?_, ?_, ?_, fun a h1 h2 => (State.spSend_reg ..).trans (hto.reg a (by simp [h1, h2])), rfl⟩ <;> rw [hframe]
  · have hq' : (w :: ws).zipIdx.map (fun p => (addr + 4 * p.2, p.1)) =
        (addr, w) :: ws.zipIdx.map fun p => (addr + 4 * (p.2 + 1), p.1) := by
      rw [List.zipIdx_cons', List.map_cons, List.map_map]
      rfl
    rw [State.writeFrame_of_allowed (ws := w :: ws) hend fun i hi => hok i (Nat.le_of_lt_succ hi), hq', State.spWords_cons hq]
    rfl

end Sys2Proof.Machine
end

section
/-! O41 and O42: what enters the input buffer of a Gallery, what is dropped, and how an item is packed (R746, R747, R752). -/

namespace Sys2Proof.Machine

/-! ### One element of a vector -/

theorem vmod_congr {α : Type} {n : Nat} (v : Vector α n) (i : Nat) (d : α) {f f' : α → α} (h : f (vget v i d) = f' (vget v i d)) :
    vmod v i f = vmod v i f' := by
  unfold vmod
  split
  next x hx =>
    have hd : vget v i d = x := by rw [vget, hx, Option.getD_some]
    rw [hd] at h
    rw [h]
  next => rfl

theorem vmod_self {α : Type} {n : Nat} (v : Vector α n) (i : Nat) (d : α) {f : α → α} (h : f (vget v i d) = vget v i d) : vmod v i f = v := by
  unfold vmod
  split
  next x hx =>
    have hd : vget v i d = x := by rw [vget, hx, Option.getD_some]
    obtain ⟨hi, hget⟩ := Vector.getElem?_eq_some_iff.mp hx
    rw [hd] at h
    rw [h, ← hget]
    refine Vector.ext fun j hj => ?_
    rw [Vector.getElem_setIfInBounds]
    split
    next e => simp only [e]
    next => rfl
  next => rfl

theorem State.gq_modGq_same (s : State) {g : Nat} (hg : g < 64) (f : Gq → Gq) : (s.modGq g f).gq g = f (s.gq g) := vget_vmod_same s.gqs hg f Gq.reset

theorem State.modGq_congr (s : State) (g : Nat) {f f' : Gq → Gq} (h : f (s.gq g) = f' (s.gq g)) : s.modGq g f = s.modGq g f' := by
  unfold State.modGq
  rw [vmod_congr s.gqs g Gq.reset h]

theorem State.modGq_self (s : State) (g : Nat) {f : Gq → Gq} (h : f (s.gq g) = s.gq g) : s.modGq g f = s := by
  unfold State.modGq
  rw [vmod_self s.gqs g Gq.reset h]

/-! ### The input buffer -/

theorem gqInsert_length (x : GqIn) (l : List GqIn) : (gqInsert x l).length = l.length + 1 := by
  induction l with
  | nil => rfl
  | cons y ys ih =>
    rw [gqInsert]
    split
    · rfl
    · rw [List.length_cons, ih, List.length_cons]

/-- An entry that comes last in the order of the writers goes behind the others. -/
theorem gqInsert_last {x : GqIn} {l : List GqIn} (h : ∀ y ∈ l, y.came ≠ x.came ∨ y.rank ≤ x.rank) : gqInsert x l = l ++ [x] := by
  induction l with
  | nil => rfl
  | cons y ys ih =>
    obtain ⟨hy, hys⟩ := List.forall_mem_cons.mp h
    have hstay : ¬ (y.came == x.came && decide (x.rank < y.rank)) = true := by
      rw [Bool.and_eq_true, beq_iff_eq, decide_eq_true_eq]
      omega
    rw [gqInsert, if_neg hstay, ih hys]
    rfl

theorem State.gqPush_eq {s : State} {g : Nat} (hrun : s.gqRuns g = true) (hseal : s.flag (F.GQ_STAT_SEAL g) = false)
    (hrst : (s.gq g).rstAt ≠ some s.now) (rank : Nat) (e : GqEntry) :
    s.gqPush g rank e = (s.modGq g fun x => { x with buf := (gqInsert ⟨s.now, rank, e⟩ (s.gq g).buf).take gqBufSize }).each
      ((gqInsert ⟨s.now, rank, e⟩ (s.gq g).buf).drop gqBufSize) fun s x => s.gqDropEntry g x.e := by
  unfold State.gqPush
  rw [hrun, hseal, if_neg (by decide), if_neg (by simpa using hrst)]

theorem State.gqPush_of_room {s : State} {g : Nat} (hrun : s.gqRuns g = true) (hseal : s.flag (F.GQ_STAT_SEAL g) = false)
    (hrst : (s.gq g).rstAt ≠ some s.now) (hroom : (s.gq g).buf.length < gqBufSize) (rank : Nat) (e : GqEntry) :
    s.gqPush g rank e = s.modGq g fun x => { x with buf := gqInsert ⟨s.now, rank, e⟩ x.buf } := by
  have hlen : (gqInsert ⟨s.now, rank, e⟩ (s.gq g).buf).length ≤ gqBufSize := by
    rw [gqInsert_length]
    exact hroom
  rw [State.gqPush_eq hrun hseal hrst, List.take_of_length_le hlen, List.drop_of_length_le hlen, State.each_nil]
  exact s.modGq_congr g rfl

theorem State.gqPush_of_full {s : State} {g : Nat} (hrun : s.gqRuns g = true) (hseal : s.flag (F.GQ_STAT_SEAL g) = false)
    (hrst : (s.gq g).rstAt ≠ some s.now) (hfull : (s.gq g).buf.length = gqBufSize) {rank : Nat}
    (hlast : ∀ y ∈ (s.gq g).buf, y.came ≠ s.now ∨ y.rank ≤ rank) (e : GqEntry) : s.gqPush g rank e = s.gqDropEntry g e := by
  rw [State.gqPush_eq hrun hseal hrst, gqInsert_last (x := ⟨s.now, rank, e⟩) hlast, List.take_left' hfull, List.drop_left' hfull,
    s.modGq_self g rfl]
  rfl

/-! ### A dropped entry -/

/-- A drop is counted and notes the loss, before its flag is set. -/
def State.gqLose (s : State) (g : Nat) : State := (s.incSat (F.GQ_CNT_DROP_CNT g)).modGq g fun x => { x with loss := true }

theorem State.gqDrop_eq (s : State) (g : Nat) : s.gqDrop g =
    ((s.gqLose g).when (!(s.gqLose g).flag (F.GQ_STAT_DROP g)) (·.raiseGq Ev.GQ_DROP g)).setFlag (F.GQ_STAT_DROP g) true := rfl

theorem State.gqLose_reg (s : State) {g a : Nat} (h : a ≠ Reg.GQ_CNT g) : (s.gqLose g).reg a = s.reg a :=
  State.reg_incSat_ne s (F.GQ_CNT_DROP_CNT g) h

theorem gqStat_ne_gqCnt (g : Nat) : Reg.GQ_STAT g ≠ Reg.GQ_CNT g ∧ Reg.GQ_CFG g ≠ Reg.GQ_CNT g := by
  simp only [Reg.GQ_STAT, Reg.GQ_CNT, Reg.GQ_CFG]
  omega

theorem State.gqLose_drop (s : State) (g : Nat) : (s.gqLose g).flag (F.GQ_STAT_DROP g) = s.flag (F.GQ_STAT_DROP g) :=
  State.flag_of_reg (s.gqLose_reg (gqStat_ne_gqCnt g).1)

theorem State.gqLose_conv (s : State) (g : Nat) : (s.gqLose g).gqConv g = s.gqConv g :=
  congrArg (fun x => Word.get x 24 3) (s.gqLose_reg (gqStat_ne_gqCnt g).2)

/-- The event of a drop, when its flag was 0 (R752, R762). -/
theorem State.gqDrop_raised (s : State) (g : Nat) : (s.gqDrop g).raised =
    s.raised ++ if s.flag (F.GQ_STAT_DROP g) then [] else [⟨Ev.GQ_DROP.num, 1, if g == 0 then 5 else 3, s.gqConv g, g⟩] := by
  rw [State.gqDrop_eq, State.setFlag_raised, s.gqLose_drop g]
  cases s.flag (F.GQ_STAT_DROP g)
  · rw [← s.gqLose_conv g]
    rfl
  · exact (List.append_nil s.raised).symm

/-- What the flag and the event of a drop keep. -/
theorem State.gqDrop_frame (s : State) (g : Nat) :
    s.gqDrop g = { s.gqLose g with regs := (s.gqDrop g).regs, raised := (s.gqDrop g).raised, hwSets := (s.gqDrop g).hwSets } := by
  have h := ((State.MarksTo.refl [Reg.GQ_STAT g] (s.gqLose g)).when (!(s.gqLose g).flag (F.GQ_STAT_DROP g))
    (f := (·.raiseGq Ev.GQ_DROP g)) fun h => h.raiseL ..).setFlag (f := F.GQ_STAT_DROP g)
    (List.mem_singleton_self _) true
  exact h.frame

theorem State.gqDrop_reg (s : State) {g a : Nat} (h : a ≠ Reg.GQ_STAT g) : (s.gqDrop g).reg a = (s.gqLose g).reg a := by
  rw [State.gqDrop_eq, State.reg_setFlag_ne _ _ _ h]
  exact State.when_keeps (fun t => t.reg a = (s.gqLose g).reg a) _ _ _ rfl fun _ => rfl

theorem State.gqDrop_cnt (s : State) (g : Nat) :
    (s.gqDrop g).fld (F.GQ_CNT_DROP_CNT g) = min (s.fld (F.GQ_CNT_DROP_CNT g) + 1) 65535 := by
  have hreg : (s.gqDrop g).fld (F.GQ_CNT_DROP_CNT g) = (s.incSat (F.GQ_CNT_DROP_CNT g)).fld (F.GQ_CNT_DROP_CNT g) :=
    congrArg (fun x => Word.get x 16 16) (s.gqDrop_reg (gqStat_ne_gqCnt g).1.symm)
  have hmax : 2 ^ (F.GQ_CNT_DROP_CNT g).width - 1 = 65535 := by
    show 2 ^ 16 - 1 = 65535
    decide
  rw [hreg, State.fld_incSat_same s (F.GQ_CNT_DROP_CNT g) (Nat.le_of_ble_eq_true rfl), hmax]

/-- Settles O41: an entry with room, one that comes last to a full buffer, and all that a drop changes. -/
theorem galleryPushAndDrop : Obligations.GalleryPushAndDrop := by
  unfold Obligations.GalleryPushAndDrop
  intro s g rank e hg hrun hseal hrst
  refine ⟨fun h => State.gqPush_of_room hrun hseal hrst h rank e, fun h hl => State.gqPush_of_full hrun hseal hrst h hl e, fun h => ?_, ?_, ?_,
    s.gqDrop_cnt g, State.flag_setFlag_same _ (F.GQ_STAT_DROP g) true (Nat.le_of_ble_eq_true rfl) Nat.one_pos, fun h => ?_, fun h => ?_,
    fun a h1 h2 => (s.gqDrop_reg h2).trans (s.gqLose_reg h1)⟩
  · cases e with
    | tq n conv seq fired fin v => exact absurd rfl (h n conv seq fired fin v)
    | item | itemEnd | end_ | mark => rfl
  · have hgq : (s.gqDrop g).gq g = (s.gqLose g).gq g := by rw [s.gqDrop_frame g]; rfl
    exact hgq.trans (State.gq_modGq_same _ hg _)
  · rw [s.gqDrop_frame g]
    rfl
  · rw [s.gqDrop_raised g, h]
    exact List.append_nil _
  · rw [s.gqDrop_raised g, h]
    rfl

/-! ### Packing -/

/-- The entry leaves the buffer, and the Gallery has packed in this cycle. -/
def State.gqTakeHead (s : State) (g : Nat) (rest : List GqIn) : State := s.modGq g fun x => { x with buf := rest, packAt := some s.now }

theorem State.gqPackHead_of_item {s : State} {g came rank : Nat} {v : List Byte} {rest : List GqIn}
    (hbuf : (s.gq g).buf = ⟨came, rank, .item v⟩ :: rest) (hroom : s.gqVB g + v.length < 8) :
    s.gqPackHead g = (s.gqTakeHead g rest).gqPackEntry g (.item v) := by
  have hneed : (s.gqTakeHead g rest).gqNeed g (.item v) = 0 := if_neg (Nat.not_le.mpr hroom)
  unfold State.gqPackHead
  rw [hbuf]
  show (if (s.gqTakeHead g rest).gqNeed g (.item v) ≤ (s.gqTakeHead g rest).gqFree g then _ else _) = _
  rw [hneed, if_pos (Nat.zero_le _)]
  rfl

theorem gqStat_ne_flip (g : Nat) : Reg.GQ_STAT g ≠ Reg.MP_FLIP := by
  simp only [Reg.GQ_STAT, Reg.MP_FLIP]
  omega

theorem State.gqFill_vb (s : State) (g : Nat) {v : List Byte} (hroom : s.gqVB g + v.length < 16) : (s.gqFill g v).gqVB g = s.gqVB g + v.length :=
  (State.fld_setFld_same _ (F.GQ_STAT_OVB g) _ (Nat.le_of_ble_eq_true rfl)).trans (Nat.mod_eq_of_lt hroom)

theorem State.gqFill_ncl (s : State) (g : Nat) (v : List Byte) : (s.gqFill g v).gqN g = s.gqN g := by
  refine (State.fld_setFld_disjoint _ (F.GQ_STAT_OVB g) (F.GQ_STAT_NCL g) _ (Nat.le_of_ble_eq_true rfl) (Or.inr (Nat.le_of_ble_eq_true rfl))).trans ?_
  exact congrArg (fun x => Word.get x 16 16) ((s.writeBytes_writesTo _ v).reg _ (gqStat_ne_flip g))

theorem State.gqFill_gq (s : State) (g : Nat) (v : List Byte) (k : Nat) : (s.gqFill g v).gq k = s.gq k := by
  have h : (s.writeBytes (s.gqData g (s.gq g).wr + s.gqVB g) v).gqs = s.gqs := by rw [(s.writeBytes_writesTo _ v).frame]
  exact congrArg (fun q => vget q k Gq.reset) h

theorem State.gqFill_byte_eq (s : State) (g : Nat) (v : List Byte) (a : Nat) :
    (s.gqFill g v).byte a = (s.putBytes (s.gqData g (s.gq g).wr + s.gqVB g) v).byte a := s.writeBytes_byte_eq _ v a

/-- The slots of a Gallery lie above table memory (R743). -/
theorem State.gqData_not_table (s : State) (g k j : Nat) : isTable (s.gqData g k + j) = false := by
  have hbase : queueBase ≤ s.gqData g k := by
    unfold State.gqData
    have : queueBase ≤ evBase := by decide
    split <;> omega
  have hend : tabEnd ≤ queueBase := by decide
  simp only [isTable, Bool.and_eq_false_iff, decide_eq_false_iff_not]
  omega

/-- An item that does not fill its slot is written and closes none. -/
theorem State.gqPackEntry_item {s : State} {g : Nat} {v : List Byte} (hroom : s.gqVB g + v.length < 8) :
    s.gqPackEntry g (.item v) = s.gqFill g v := by
  have hvb : (decide (8 ≤ (s.gqFill g v).gqVB g)) = false := by
    rw [s.gqFill_vb g (by omega)]
    exact decide_eq_false (Nat.not_le.mpr hroom)
  unfold State.gqPackEntry
  dsimp only
  rw [hvb, State.when_false]

theorem State.gqDue_of_head {s : State} {g came rank : Nat} {e : GqEntry} {rest : List GqIn} (hbuf : (s.gq g).buf = ⟨came, rank, e⟩ :: rest) :
    s.gqDue g = (decide (came < s.now) && (s.gq g).packAt != some s.now) := by
  unfold State.gqDue
  rw [hbuf]
  rfl

/-- Settles O42: the item goes to the valid end of the open slot. -/
theorem galleryPacksAnItem : Obligations.GalleryPacksAnItem := by
  unfold Obligations.GalleryPacksAnItem
  intro s g came rank v rest hg hbuf
  have hdue := State.gqDue_of_head hbuf
  refine ⟨fun h => ?_, fun hcame hpack hroom => ?_⟩
  · have hnot : s.gqDue g = false := by
      rw [hdue]
      rcases h with h | h
      · rw [decide_eq_false (Nat.not_lt.mpr h), Bool.false_and]
      · rw [h, bne_self_eq_false, Bool.and_false]
    rw [State.gqPack, hnot, State.when_false]
  · have heq : s.gqPack g = (s.gqTakeHead g rest).gqFill g v := by
      rw [State.gqPack, hdue, decide_eq_true hcame, bne_iff_ne.mpr hpack, Bool.and_true, State.when_true, State.gqPackHead_of_item hbuf hroom]
      exact State.gqPackEntry_item hroom
    have hwr : ((s.gqTakeHead g rest).gq g).wr = (s.gq g).wr := by rw [State.gqTakeHead, State.gq_modGq_same s hg]
    have hbyte (a : Nat) : ((s.gqTakeHead g rest).gqFill g v).byte a =
        ((s.gqTakeHead g rest).putBytes (s.gqData g (s.gq g).wr + s.gqVB g) v).byte a := by
      rw [State.gqFill_byte_eq, hwr]
      rfl
    rw [heq]
    refine ⟨?_, State.gqFill_ncl _ g v, State.gqFill_vb _ g (lt_trans hroom (by decide)), fun k hk => ?_, fun a ha => ?_⟩
    · exact (State.gqFill_gq _ g v g).trans (State.gq_modGq_same s hg _)
    · have hshort : v.length ≤ bankSize := (Nat.le_of_lt_succ (by omega)).trans (show 8 ≤ bankSize by decide)
      rw [hbyte]
      exact State.putBytes_byte v _ _ k hshort hk
    · rw [hbyte]
      refine State.putBytes_byte_ne v _ _ fun j hj => ⟨by omega, fun ht => ?_⟩
      rw [Nat.add_assoc, s.gqData_not_table] at ht
      exact absurd ht Bool.false_ne_true

end Sys2Proof.Machine
end

section
/-! O58: a tick of a profile generator (R253 to R256): what it moves, and what it records. -/

namespace Sys2Proof.Machine

/-! ### The move of a tick -/

/-- The state of a generator at the start of a tick (R257). -/
def State.profAt (s : State) (g : Nat) : Prof :=
  if s.flag (F.PF_STAT_PEND g) then ⟨s.sreg (Reg.PF_MEAS g) * 2 ^ 24, 0, 0⟩ else vget s.profs g ⟨0, 0, 0⟩

/-- The generator is at its target (R256). -/
def profNear (x : Prof) (a48 tgt tol : Int) : Bool :=
  decide (((tgt - x.p).natAbs : Int) ≤ tol * 2 ^ 24 ∧ (x.v.natAbs : Int) ≤ a48)

/-- What a tick makes of a generator, and whether the velocity limit acts (R254, R256). -/
def profMove (x : Prof) (v48 a48 j48 tgt : Int) (near : Bool) : Prof × Bool :=
  let e := tgt - x.p
  if near then (⟨sat64 tgt, 0, 0⟩, false)
  else
    let vb : Int := isqrt (2 * a48 * e.natAbs).toNat
    let vj := if j48 = 0 then 0 else a48 * a48 / (2 * j48)
    let vt0 := min v48 (max (vb - vj) 0)
    let vt := if e < 0 then -vt0 else vt0
    let at_ := clampI (-a48) a48 (vt - x.v)
    let a := sat64 (x.a + clampI (-j48) j48 (at_ - x.a))
    let v0 := sat64 (x.v + a)
    let v := clampI (-v48) v48 v0
    (⟨sat64 (x.p + v), v, a⟩, decide (v ≠ v0))

/-- What a tick records: the generator, its flags and its outputs (R255, R256). -/
def State.profPut (s : State) (g : Nat) (y : Prof) (near lim : Bool) : State :=
  let s := { s with profs := vmod s.profs g fun _ => y }
  let s := (s.setFlag (F.PF_STAT_DONE g) near).when lim (·.setFlag (F.PF_STAT_VLIM g) true)
  let out (v : Int) (n : Nat) : Word := wordOf (sat32 (rnd v n))
  let s := (s.setRegNoted (Reg.PF_POS g) (out y.p 24)).setRegNoted (Reg.PF_VEL g) (out y.v (24 - s.fld (F.PF_CFG_VSH g)))
  s.setRegNoted (Reg.PF_ACC g) (out y.a (24 - s.fld (F.PF_CFG_ASH g)))

/-- The record of the tick itself. -/
def State.profCount (s : State) (g : Nat) : State := (s.setFlag (F.PF_STAT_PEND g) false).incMod (F.PF_STAT_TICKS g)

theorem State.profileTick_eq {s : State} {g : Nat} (hl : s.loaded = true) (hen : s.flag (F.PF_CFG_EN g) = true) (ks : List Nat) :
    s.profileTick g ks =
      let x := s.profAt g
      let u := s.profCount g
      let v48 := limit48 (u.sreg (Reg.PF_VM g)) (u.sfld (F.PF_SH_VS g))
      let a48 := limit48 (u.sreg (Reg.PF_AM g)) (u.sfld (F.PF_SH_AS g))
      let j48 := limit48 (u.sreg (Reg.PF_JM g)) (u.sfld (F.PF_SH_JS g))
      let tgt := u.sreg (Reg.PF_TGT g) * 2 ^ 24
      let near := profNear x a48 tgt (u.sreg (Reg.PF_TOL g))
      let y := profMove x v48 a48 j48 tgt near
      (u.profPut g y.1 near y.2).when (near && !u.flag (F.PF_STAT_DONE g)) fun s =>
        let ps := s.pfConvs g
        s.raiseAll Ev.PF_DONE (ks.filter (!ps.contains ·) ++ ps) g := by
  unfold State.profileTick
  rw [hl, hen]
  rfl

theorem limit48_nonneg (m sh : Int) : 0 ≤ limit48 m sh := (clampI_bounds 0 (2 ^ 63 - 1) _ (by decide)).1

/-- The velocity after a tick lies within its limit. -/
theorem profMove_velocity (x : Prof) {v48 : Int} (h : 0 ≤ v48) (a48 j48 tgt : Int) (near : Bool) :
    (profMove x v48 a48 j48 tgt near).1.v ≤ v48 ∧ -v48 ≤ (profMove x v48 a48 j48 tgt near).1.v := by
  unfold profMove
  dsimp only
  split
  · exact ⟨h, by simpa using h⟩
  · exact (clampI_bounds (-v48) v48 _ (by omega)).symm

theorem profMove_near (x : Prof) (v48 a48 j48 tgt : Int) : profMove x v48 a48 j48 tgt true = (⟨sat64 tgt, 0, 0⟩, false) := rfl

/-! ### The record -/

theorem State.setRegNoted_flag_ne (s : State) {a : Nat} (w : Word) {f : Fld} (h : f.addr ≠ a) : (s.setRegNoted a w).flag f = s.flag f :=
  State.flag_of_reg (State.reg_setReg_ne _ w h)

/-- The generator and its flags are put, before the outputs. -/
def State.profFlags (s : State) (g : Nat) (y : Prof) (near lim : Bool) : State :=
  (({ s with profs := vmod s.profs g fun _ => y } : State).setFlag (F.PF_STAT_DONE g) near).when lim (·.setFlag (F.PF_STAT_VLIM g) true)

theorem State.profFlags_marksTo (s : State) (g : Nat) (y : Prof) (near lim : Bool) :
    ({ s with profs := vmod s.profs g fun _ => y } : State).MarksTo [Reg.PF_STAT g] (s.profFlags g y near lim) :=
  ((State.MarksTo.refl _ _).setFlag (f := F.PF_STAT_DONE g) (List.mem_singleton_self _) _).when _ fun h =>
    h.setFlag (f := F.PF_STAT_VLIM g) (List.mem_singleton_self _) true

theorem State.profFlags_done (s : State) (g : Nat) (y : Prof) (near lim : Bool) : (s.profFlags g y near lim).flag (F.PF_STAT_DONE g) = near := by
  refine State.when_keeps (fun t => t.flag (F.PF_STAT_DONE g) = near) _ _ _
    (State.flag_setFlag_same _ (F.PF_STAT_DONE g) near (Nat.le_of_ble_eq_true rfl) Nat.one_pos) fun h => ?_
  exact (State.flag_setFlag_disjoint _ (F.PF_STAT_VLIM g) (F.PF_STAT_DONE g) true (Nat.le_of_ble_eq_true rfl)
    (Or.inl (Nat.le_of_ble_eq_true rfl))).trans h

/-- The outputs of a generator (R255). -/
def State.profOuts (s : State) (g : Nat) (y : Prof) : State :=
  let out (v : Int) (n : Nat) : Word := wordOf (sat32 (rnd v n))
  let s := (s.setRegNoted (Reg.PF_POS g) (out y.p 24)).setRegNoted (Reg.PF_VEL g) (out y.v (24 - s.fld (F.PF_CFG_VSH g)))
  s.setRegNoted (Reg.PF_ACC g) (out y.a (24 - s.fld (F.PF_CFG_ASH g)))

theorem State.profPut_eq (s : State) (g : Nat) (y : Prof) (near lim : Bool) : s.profPut g y near lim = (s.profFlags g y near lim).profOuts g y := rfl

theorem State.profOuts_done (s : State) (g : Nat) (y : Prof) : (s.profOuts g y).flag (F.PF_STAT_DONE g) = s.flag (F.PF_STAT_DONE g) := by
  have hstat : Reg.PF_STAT g ≠ Reg.PF_POS g ∧ Reg.PF_STAT g ≠ Reg.PF_VEL g ∧ Reg.PF_STAT g ≠ Reg.PF_ACC g := by
    simp only [Reg.PF_STAT, Reg.PF_POS, Reg.PF_VEL, Reg.PF_ACC]
    omega
  unfold State.profOuts
  rw [State.setRegNoted_flag_ne _ _ hstat.2.2, State.setRegNoted_flag_ne _ _ hstat.2.1, State.setRegNoted_flag_ne _ _ hstat.1]

theorem State.profOuts_profs (s : State) (g : Nat) (y : Prof) : (s.profOuts g y).profs = s.profs := rfl
theorem State.profOuts_mem (s : State) (g : Nat) (y : Prof) : (s.profOuts g y).mem = s.mem := rfl

/-- The event of a generator that has reached its target leaves its flags, its state and memory. -/
theorem State.when_raiseAll (s : State) (c : Bool) (e : Ev.Src) (convs : State → List Nat) (g : Nat) :
    let t := s.when c fun s => s.raiseAll e (convs s) g
    t.regs = s.regs ∧ t.profs = s.profs ∧ t.mem = s.mem := by
  cases c
  · exact ⟨rfl, rfl, rfl⟩
  · dsimp only
    rw [State.when_true, State.raiseAll_eq]
    exact ⟨rfl, rfl, rfl⟩

/-- The parameters of a generator, which no record of a tick touches. -/
theorem State.profCount_reg (s : State) {g a : Nat} (h : a ≠ Reg.PF_STAT g) : (s.profCount g).reg a = s.reg a :=
  (State.reg_setFld_ne _ (F.PF_STAT_TICKS g) _ h).trans (State.reg_setFlag_ne s (F.PF_STAT_PEND g) false h)

theorem State.profCount_mem (s : State) (g : Nat) : (s.profCount g).mem = s.mem := rfl

theorem profParams_ne (g : Nat) : Reg.PF_VM g ≠ Reg.PF_STAT g ∧ Reg.PF_SH g ≠ Reg.PF_STAT g ∧ Reg.PF_TGT g ≠ Reg.PF_STAT g := by
  simp only [Reg.PF_VM, Reg.PF_SH, Reg.PF_TGT, Reg.PF_STAT]
  omega

/-- Settles O58: the move of the tick, then its record. -/
theorem profileVelocityIsLimited : Obligations.ProfileVelocityIsLimited := by
  unfold Obligations.ProfileVelocityIsLimited
  intro s g hg hl hen ks
  obtain ⟨hvm, hsh, htgt⟩ := profParams_ne g
  have hlim : limit48 ((s.profCount g).sreg (Reg.PF_VM g)) ((s.profCount g).sfld (F.PF_SH_VS g)) =
      limit48 (s.sreg (Reg.PF_VM g)) (s.sfld (F.PF_SH_VS g)) := by
    rw [State.sreg, State.sreg, s.profCount_reg hvm, State.sfld, State.sfld, State.fld, State.fld,
      show (F.PF_SH_VS g).addr = Reg.PF_SH g from rfl, s.profCount_reg hsh]
  have htgt' : (s.profCount g).sreg (Reg.PF_TGT g) = s.sreg (Reg.PF_TGT g) := congrArg BitVec.toInt (s.profCount_reg htgt)
  rw [State.profileTick_eq hl hen ks]
  dsimp only
  rw [hlim, htgt']
  generalize profNear (s.profAt g) _ _ _ = near
  generalize hmove : profMove _ _ _ _ _ near = m
  obtain ⟨hup, hlo⟩ := hmove ▸ profMove_velocity (s.profAt g) (limit48_nonneg (s.sreg (Reg.PF_VM g)) (s.sfld (F.PF_SH_VS g)))
    (limit48 ((s.profCount g).sreg (Reg.PF_AM g)) ((s.profCount g).sfld (F.PF_SH_AS g)))
    (limit48 ((s.profCount g).sreg (Reg.PF_JM g)) ((s.profCount g).sfld (F.PF_SH_JS g))) (s.sreg (Reg.PF_TGT g) * 2 ^ 24) near
  obtain ⟨hregs, hprofs, hmem⟩ := ((s.profCount g).profPut g m.1 near m.2).when_raiseAll (near && !(s.profCount g).flag (F.PF_STAT_DONE g)) Ev.PF_DONE
    (fun s => ks.filter (!(s.pfConvs g).contains ·) ++ s.pfConvs g) g
  have hx : vget ((s.profCount g).profPut g m.1 near m.2).profs g ⟨0, 0, 0⟩ = m.1 := by
    rw [State.profPut_eq, State.profOuts_profs, ((s.profCount g).profFlags_marksTo g m.1 near m.2).frame]
    exact vget_vmod_same _ hg _ _
  have hdone : ((s.profCount g).profPut g m.1 near m.2).flag (F.PF_STAT_DONE g) = near := by
    rw [State.profPut_eq, State.profOuts_done, State.profFlags_done]
  rw [hprofs, hx, hmem, State.flag_of_reg (congrArg (regGet · _) hregs), hdone]
  refine ⟨hup, hlo, fun hnear => ?_, ?_⟩
  · rw [hnear, profMove_near] at hmove
    rw [← hmove]
    exact ⟨rfl, rfl, rfl⟩
  · rw [State.profPut_eq, State.profOuts_mem, ((s.profCount g).profFlags_marksTo g m.1 near m.2).mem]
    exact s.profCount_mem g

end Sys2Proof.Machine
end

section
/-! O55: the entry of a CAN controller into bus-off (R692, R693): the end of one transmit request, and of all of them. -/

namespace Sys2Proof.Machine

/-! ### One bit of a field is cleared -/

theorem bitOf_putBits_zero (x i k : Nat) : bitOf (putBits x i 1 0) k = (!decide (k = i) && bitOf x k) := by
  rw [bitOf_eq_testBit, bitOf_eq_testBit, testBit_putBits]
  by_cases h : k = i
  · simp [h]
  · rw [if_neg (by omega), decide_eq_false h, Bool.not_false, Bool.true_and]

theorem State.bitOf_setBit_false (s : State) (f : Fld) (i : Nat) {k : Nat} (hf : f.lsb + f.width ≤ 32) (hk : k < f.width) :
    bitOf ((s.setBit f i false).fld f) k = (!decide (k = i) && bitOf (s.fld f) k) := by
  rw [State.setBit_false, State.fld_setFld_same _ _ _ hf, bitOf_eq_testBit, Nat.testBit_mod_two_pow, ← bitOf_eq_testBit, bitOf_putBits_zero]
  simp [hk]

theorem State.reg_setBit_ne (s : State) (f : Fld) (i : Nat) (b : Bool) {a : Nat} (h : a ≠ f.addr) : (s.setBit f i b).reg a = s.reg a := by
  cases b <;> exact State.reg_setFld_ne _ f _ h

/-! ### The end of one transmit request -/

/-- From `s` to `t` transmit requests of controller `k` end: memory, `CAN_TXS` and the withdrawals that wait change. -/
structure State.EndsTo (k : Nat) (s t : State) : Prop where
  frame : t = { s with mem := t.mem, parBad := t.parBad, wbacks := t.wbacks, wbBy := t.wbBy, regs := t.regs, hwSets := t.hwSets, cans := t.cans }
  reg : ∀ a, a ≠ Reg.MP_FLIP → a ≠ Reg.CAN_TXS k → t.reg a = s.reg a
  boAt : (t.can k).boAt = (s.can k).boAt

theorem State.EndsTo.refl (k : Nat) (s : State) : s.EndsTo k s := ⟨rfl, fun _ _ _ => rfl, rfl⟩

theorem State.EndsTo.trans {k : Nat} {s t u : State} (h : s.EndsTo k t) (h' : t.EndsTo k u) : s.EndsTo k u where
  frame := by rw [h'.frame, h.frame]
  reg a h1 h2 := (h'.reg a h1 h2).trans (h.reg a h1 h2)
  boAt := h'.boAt.trans h.boAt

theorem State.WritesTo.endsTo {s t : State} (h : s.WritesTo t) (k : Nat) : s.EndsTo k t where
  frame := by rw [h.frame]
  reg a ha _ := h.reg a ha
  boAt := by
    rw [h.frame]
    rfl

theorem State.setBit_endsTo (s : State) {k : Nat} {f : Fld} (hf : f.addr = Reg.CAN_TXS k) (i : Nat) (b : Bool) : s.EndsTo k (s.setBit f i b) where
  frame := by rw [State.setBit_frame]
  reg a _ ha := State.reg_setBit_ne s f i b (by rw [hf]; exact ha)
  boAt := by
    rw [State.setBit_frame]
    rfl

/-- The withdrawals of a request that ends are forgotten. -/
def State.dropGone (s : State) (k b : Nat) : State := s.modCan k fun c => { c with gone := c.gone.filter fun x => x != b }

theorem State.dropGone_endsTo (s : State) {k : Nat} (hk : k < 4) (b : Nat) : s.EndsTo k (s.dropGone k b) :=
  ⟨rfl, fun _ _ _ => rfl, by
    show (vget (vmod s.cans k _) k Can.reset).boAt = _
    rw [vget_vmod_same _ hk]
    rfl⟩

/-- The result of a request is written to its buffer, with the header marked free. -/
def State.putResult (s : State) (k b res : Nat) : State :=
  (s.write32 (canBuf k b) (Word.put (s.peek32 (canBuf k b)) 31 1 0)).write32 (canBuf k b + 0x48) (BitVec.ofNat 32 res)

/-- A request that ends by an error: bit `b` of `TXREQ` is cleared and that of `TXERR` set. -/
theorem State.canEnd_eq (s : State) (k b : Nat) : s.canEnd k b 4 true =
    (((s.putResult k b 4).setBit (F.CAN_TXS_TXREQ k) b false).dropGone k b).setBit (F.CAN_TXS_TXERR k) b true := rfl

theorem State.canEnd_endsTo (s : State) {k : Nat} (hk : k < 4) (b : Nat) : s.EndsTo k (s.canEnd k b 4 true) := by
  have hput : s.WritesTo (s.putResult k b 4) := (s.write32_writesTo _ _).trans (State.write32_writesTo _ _ _)
  rw [s.canEnd_eq k b]
  exact (((hput.endsTo k).trans (State.setBit_endsTo _ rfl b false)).trans (State.dropGone_endsTo _ hk b)).trans (State.setBit_endsTo _ rfl b true)

theorem canTxs_ne_flip (k : Nat) : Reg.CAN_TXS k ≠ Reg.MP_FLIP := by
  simp only [Reg.CAN_TXS, Reg.MP_FLIP]
  omega

/-- Of the pending requests exactly the one that ends is taken away. -/
theorem State.canPending_canEnd (s : State) (k b : Nat) {j : Nat} (hj : j < 8) :
    (s.canEnd k b 4 true).canPending k j = (!decide (j = b) && s.canPending k j) := by
  have hput : s.WritesTo (s.putResult k b 4) := (s.write32_writesTo _ _).trans (State.write32_writesTo _ _ _)
  have hreq : (s.putResult k b 4).fld (F.CAN_TXS_TXREQ k) = s.fld (F.CAN_TXS_TXREQ k) :=
    congrArg (fun x => Word.get x 16 8) (hput.reg _ (canTxs_ne_flip k))
  rw [s.canEnd_eq k b, State.canPending, State.fld_setBit_disjoint _ (F.CAN_TXS_TXERR k) (F.CAN_TXS_TXREQ k) _ _ (Nat.le_of_ble_eq_true rfl)
    (Or.inr (Nat.le_of_ble_eq_true rfl))]
  show bitOf (((s.putResult k b 4).setBit (F.CAN_TXS_TXREQ k) b false).fld (F.CAN_TXS_TXREQ k)) j = _
  rw [State.bitOf_setBit_false _ (F.CAN_TXS_TXREQ k) b (Nat.le_of_ble_eq_true rfl) hj, hreq]
  rfl

theorem State.canEnd_byte (s : State) (k b a : Nat) : (s.canEnd k b 4 true).byte a = (s.putResult k b 4).byte a := by
  rw [s.canEnd_eq k b, State.setBit_frame]
  show (((s.putResult k b 4).setBit (F.CAN_TXS_TXREQ k) b false).dropGone k b).byte a = _
  rfl

/-! ### The result words -/

/-- A buffer lies above table memory, and its words are aligned. -/
theorem canBuf_place (k b j : Nat) : canBuf k b % 4 = 0 ∧ isTable (canBuf k b + j) = false := by
  have hend : tabEnd = 0x500000 := rfl
  unfold isTable canBuf
  refine ⟨by omega, ?_⟩
  rw [Bool.and_eq_false_iff, decide_eq_false_iff_not, decide_eq_false_iff_not]
  omega

theorem State.putResult_byte (s : State) (k b : Nat) {i : Nat} (hi : i < 4) :
    (s.putResult k b 4).byte (canBuf k b + 0x48 + i) = if i = 0 then 4#8 else 0#8 := by
  rw [State.putResult, State.write32_byte _ _ _ hi]
  interval_cases i <;> decide

/-- The result word of another buffer stays. -/
theorem State.putResult_byte_other (s : State) (k : Nat) {b j : Nat} (hj : j ≠ b) {i : Nat} (hi : i < 4) :
    (s.putResult k b 4).byte (canBuf k j + 0x48 + i) = s.byte (canBuf k j + 0x48 + i) := by
  have hal := (canBuf_place k b 0).1
  have hno (n : Nat) : isTable (canBuf k b + n) = true → False := fun h => absurd ((canBuf_place k b n).2.symm.trans h) (by decide)
  have hapart : (canBuf k j + 0x48 + i < canBuf k b ∨ canBuf k b + 4 ≤ canBuf k j + 0x48 + i) ∧
      (canBuf k j + 0x48 + i < canBuf k b + 0x48 ∨ canBuf k b + 0x48 + 4 ≤ canBuf k j + 0x48 + i) := by
    unfold canBuf
    omega
  rw [State.putResult, State.write32_byte_ne _ _ (by omega) hapart.2 fun h => (hno _ h).elim,
    State.write32_byte_ne _ _ hal hapart.1 fun h => (hno 0 h).elim]

/-! ### The entry into bus-off -/

/-- The registers and the event of the entry, before any request ends. -/
def State.busOffNoted (s : State) (k : Nat) : State :=
  ((s.setFld (F.CAN_STAT_CSTATE k) canBusOff).setFlag (F.CAN_FLAG_BOFF k) true).incSat (F.CAN_CNT2_BOFF_CNT k)

/-- The recovery counts from now, and no withdrawal waits. -/
def State.busOffTimed (s : State) (k : Nat) : State := s.modCan k fun c => { c with boAt := s.now, gone := [] }

def State.busOffEntered (s : State) (k : Nat) : State := ((s.busOffNoted k).busOffTimed k).raiseCan Ev.CAN_BOFF k

theorem State.canToBusOff_eq (s : State) (k : Nat) : s.canToBusOff k =
    (s.busOffEntered k).each ((List.range 8).filter ((s.busOffEntered k).canPending k)) fun s b => s.canEnd k b 4 true := rfl

theorem State.busOffNoted_marks (s : State) (k : Nat) :
    s.MarksTo [Reg.CAN_STAT k, Reg.CAN_FLAG k, Reg.CAN_CNT2 k] (s.busOffNoted k) := by
  have h0 : s.MarksTo [Reg.CAN_STAT k, Reg.CAN_FLAG k, Reg.CAN_CNT2 k] s := .refl _ _
  exact ((h0.setFld (f := F.CAN_STAT_CSTATE k) (by simp [F.CAN_STAT_CSTATE]) _).setFlag (f := F.CAN_FLAG_BOFF k) (by simp [F.CAN_FLAG_BOFF]) _).incSat
    (f := F.CAN_CNT2_BOFF_CNT k) (by simp [F.CAN_CNT2_BOFF_CNT])

theorem State.busOffNoted_cstate (s : State) (k : Nat) : (s.busOffNoted k).fld (F.CAN_STAT_CSTATE k) = canBusOff := by
  have hflag : Reg.CAN_STAT k ≠ Reg.CAN_FLAG k := by simp only [Reg.CAN_STAT, Reg.CAN_FLAG]; omega
  have hcnt : Reg.CAN_STAT k ≠ Reg.CAN_CNT2 k := by simp only [Reg.CAN_STAT, Reg.CAN_CNT2]; omega
  have hreg : (s.busOffNoted k).reg (Reg.CAN_STAT k) = (s.setFld (F.CAN_STAT_CSTATE k) canBusOff).reg (Reg.CAN_STAT k) :=
    (State.reg_incSat_ne _ (F.CAN_CNT2_BOFF_CNT k) hcnt).trans (State.reg_setFlag_ne _ (F.CAN_FLAG_BOFF k) true hflag)
  rw [State.fld, show (F.CAN_STAT_CSTATE k).addr = Reg.CAN_STAT k from rfl, hreg]
  exact (State.fld_setFld_same s (F.CAN_STAT_CSTATE k) canBusOff (Nat.le_of_ble_eq_true rfl)).trans (by rfl)

theorem State.busOffNoted_flag (s : State) (k : Nat) : (s.busOffNoted k).flag (F.CAN_FLAG_BOFF k) = true := by
  have hcnt : Reg.CAN_FLAG k ≠ Reg.CAN_CNT2 k := by simp only [Reg.CAN_FLAG, Reg.CAN_CNT2]; omega
  rw [State.busOffNoted, State.flag_of_reg (f := F.CAN_FLAG_BOFF k) (State.reg_incSat_ne _ (F.CAN_CNT2_BOFF_CNT k) hcnt)]
  exact State.flag_setFlag_same _ (F.CAN_FLAG_BOFF k) true (Nat.le_of_ble_eq_true rfl) Nat.one_pos

theorem State.busOffNoted_count (s : State) (k : Nat) :
    (s.busOffNoted k).fld (F.CAN_CNT2_BOFF_CNT k) = min (s.fld (F.CAN_CNT2_BOFF_CNT k) + 1) 65535 := by
  have hstat : Reg.CAN_CNT2 k ≠ Reg.CAN_STAT k := by simp only [Reg.CAN_STAT, Reg.CAN_CNT2]; omega
  have hflag : Reg.CAN_CNT2 k ≠ Reg.CAN_FLAG k := by simp only [Reg.CAN_FLAG, Reg.CAN_CNT2]; omega
  have hreg : ((s.setFld (F.CAN_STAT_CSTATE k) canBusOff).setFlag (F.CAN_FLAG_BOFF k) true).reg (Reg.CAN_CNT2 k) = s.reg (Reg.CAN_CNT2 k) :=
    (State.reg_setFlag_ne _ (F.CAN_FLAG_BOFF k) true hflag).trans (State.reg_setFld_ne s (F.CAN_STAT_CSTATE k) canBusOff hstat)
  have hmax : 2 ^ 16 - 1 = 65535 := by decide
  rw [State.busOffNoted, State.fld_incSat_same _ (F.CAN_CNT2_BOFF_CNT k) (Nat.le_of_ble_eq_true rfl), State.fld,
    show (F.CAN_CNT2_BOFF_CNT k).addr = Reg.CAN_CNT2 k from rfl, hreg, show (F.CAN_CNT2_BOFF_CNT k).width = 16 from rfl, hmax]
  rfl

theorem State.busOffEntered_reg (s : State) (k a : Nat) : (s.busOffEntered k).reg a = (s.busOffNoted k).reg a := rfl

theorem State.busOffEntered_raised (s : State) (k : Nat) :
    (s.busOffEntered k).raised = s.raised ++ [⟨Ev.CAN_BOFF.num, 2, 5, axle, k⟩] := by
  show (s.busOffNoted k).raised ++ [_] = _
  rw [show (s.busOffNoted k).raised = s.raised from State.setFlag_raised ..]
  rfl

theorem State.busOffEntered_boAt (s : State) {k : Nat} (hk : k < 4) : ((s.busOffEntered k).can k).boAt = s.now := by
  show (vget (vmod (s.busOffNoted k).cans k _) k Can.reset).boAt = _
  rw [vget_vmod_same _ hk]
  exact (s.busOffNoted_marks k).now

theorem State.busOffEntered_txreq (s : State) (k : Nat) : (s.busOffEntered k).fld (F.CAN_TXS_TXREQ k) = s.fld (F.CAN_TXS_TXREQ k) := by
  refine (s.busOffNoted_marks k).fld ?_
  simp only [F.CAN_TXS_TXREQ, Reg.CAN_TXS, Reg.CAN_STAT, Reg.CAN_FLAG, Reg.CAN_CNT2, List.mem_cons, List.not_mem_nil, or_false]
  omega

theorem State.canToBusOff_endsTo (s : State) {k : Nat} (hk : k < 4) : (s.busOffEntered k).EndsTo k (s.canToBusOff k) := by
  rw [s.canToBusOff_eq k]
  exact State.each_keeps ((s.busOffEntered k).EndsTo k) _ _ (fun t b _ ht => ht.trans (t.canEnd_endsTo hk b)) _ (.refl k _)

/-- No request is pending after the entry: each that was has ended, and none comes back. -/
theorem State.canToBusOff_pending (s : State) {k b : Nat} (hb : b < 8) : (s.canToBusOff k).canPending k b = false := by
  have hkeep (t : State) (y : Nat) (ht : t.canPending k b = false) : (t.canEnd k y 4 true).canPending k b = false := by
    rw [t.canPending_canEnd k y hb, ht, Bool.and_false]
  have hset (t : State) : (t.canEnd k b 4 true).canPending k b = false := by
    rw [t.canPending_canEnd k b hb, decide_eq_true rfl, Bool.not_true, Bool.false_and]
  rw [s.canToBusOff_eq k]
  rcases h : (s.busOffEntered k).canPending k b with _ | _
  · exact State.each_keeps (fun t => t.canPending k b = false) _ _ (fun t y _ => hkeep t y) _ h
  · have hmem : b ∈ (List.range 8).filter ((s.busOffEntered k).canPending k) := List.mem_filter.2 ⟨List.mem_range.2 hb, h⟩
    exact State.each_establishes (fun t => t.canPending k b = false) hmem (fun t y => t.canEnd k y 4 true) hset hkeep _

theorem fld_eq_zero_of_bits {s : State} {f : Fld} (h : ∀ i < f.width, bitOf (s.fld f) i = false) : s.fld f = 0 := by
  have hlt : s.fld f < 2 ^ f.width := Nat.mod_lt _ (Nat.two_pow_pos _)
  refine Nat.eq_of_testBit_eq fun i => ?_
  rw [Nat.zero_testBit, ← bitOf_eq_testBit]
  rcases Nat.lt_or_ge i f.width with hi | hi
  · exact h i hi
  · rw [bitOf_eq_testBit]
    exact Nat.testBit_lt_two_pow (Nat.lt_of_lt_of_le hlt (Nat.pow_le_pow_right (by decide) hi))

theorem State.canToBusOff_result (s : State) {k b : Nat} (hb : b < 8) (hp : s.canPending k b = true) {i : Nat} (hi : i < 4) :
    (s.canToBusOff k).byte (canBuf k b + 0x48 + i) = if i = 0 then 4#8 else 0#8 := by
  have hp' : (s.busOffEntered k).canPending k b = true := by rw [State.canPending, s.busOffEntered_txreq k]; exact hp
  rw [s.canToBusOff_eq k]
  refine State.each_establishes (fun t => t.byte (canBuf k b + 0x48 + i) = if i = 0 then 4#8 else 0#8)
    (List.mem_filter.2 ⟨List.mem_range.2 hb, hp'⟩) _ (fun t => ?_) (fun t y ht => ?_) _
  · exact (t.canEnd_byte k b _).trans (t.putResult_byte k b hi)
  · rw [t.canEnd_byte k y]
    rcases eq_or_ne b y with rfl | hy
    · exact t.putResult_byte k b hi
    · exact (t.putResult_byte_other k hy hi).trans ht

/-- Settles O55: the end of each request of the round clears its bit of `TXREQ` and writes its result, and no later one undoes either. -/
theorem busOffEndsEveryRequest : Obligations.BusOffEndsEveryRequest := by
  unfold Obligations.BusOffEndsEveryRequest
  intro s k hk
  have hends := s.canToBusOff_endsTo hk
  have hreg {a : Nat} (h1 : a ≠ Reg.MP_FLIP) (h2 : a ≠ Reg.CAN_TXS k) : (s.canToBusOff k).reg a = (s.busOffNoted k).reg a :=
    (hends.reg a h1 h2).trans (s.busOffEntered_reg k a)
  refine ⟨?_, ?_, ?_, ?_, hends.boAt.trans (s.busOffEntered_boAt hk), ?_, fun b hb hp i hi => s.canToBusOff_result hb hp hi⟩
  · refine Eq.trans ?_ (s.busOffNoted_cstate k)
    refine congrArg (fun x => Word.get x 29 3) (hreg ?_ ?_) <;> simp only [F.CAN_STAT_CSTATE, Reg.CAN_STAT, Reg.MP_FLIP, Reg.CAN_TXS] <;> omega
  · refine Eq.trans (State.flag_of_reg (hreg ?_ ?_)) (s.busOffNoted_flag k) <;>
      simp only [F.CAN_FLAG_BOFF, Reg.CAN_FLAG, Reg.MP_FLIP, Reg.CAN_TXS] <;> omega
  · refine Eq.trans ?_ (s.busOffNoted_count k)
    refine congrArg (fun x => Word.get x 16 16) (hreg ?_ ?_) <;> simp only [F.CAN_CNT2_BOFF_CNT, Reg.CAN_CNT2, Reg.MP_FLIP, Reg.CAN_TXS] <;> omega
  · exact fld_eq_zero_of_bits (fun b hb => s.canToBusOff_pending hb)
  · rw [hends.frame]
    exact s.busOffEntered_raised k

end Sys2Proof.Machine
end

section
/-! O56: the records of the fault log (R803, R804, R806, R807). -/

namespace Sys2Proof.Machine

/-! ### Numbers as bytes -/

theorem length_leBytes (n : Nat) : ∀ x : Nat, (leBytes n x).length = n := by
  induction n with
  | zero => exact fun _ => rfl
  | succ n ih => exact fun x => congrArg Nat.succ (ih (x / 256))

/-- Bytes give back the number that they hold. -/
theorem leNat_leBytes (n : Nat) : ∀ {x : Nat}, x < 256 ^ n → leNat (leBytes n x) = x := by
  induction n with
  | zero =>
    intro x hx
    exact (Nat.lt_one_iff.1 hx).symm
  | succ n ih =>
    intro x hx
    have hdiv : x / 256 < 256 ^ n := Nat.div_lt_of_lt_mul (by rw [← Nat.pow_succ']; exact hx)
    rw [leBytes, leNat, ih hdiv, BitVec.toNat_ofNat]
    exact Nat.mod_add_div x 256

/-! ### The check word has 32 bits -/

theorem crc32Bit_lt {c : Nat} (h : c < 2 ^ 32) : crc32Bit c < 2 ^ 32 := by
  have hhalf : c / 2 < 2 ^ 32 := Nat.lt_of_le_of_lt (Nat.div_le_self c 2) h
  unfold crc32Bit
  split
  · exact Nat.xor_lt_two_pow hhalf (by decide)
  · exact hhalf

theorem crc32Byte_lt {c : Nat} (b : Byte) (h : c < 2 ^ 32) : crc32Byte c b < 2 ^ 32 :=
  List.foldlRecOn (motive := fun c => c < 2 ^ 32) (List.range 8) (fun c _ => crc32Bit c)
    (Nat.xor_lt_two_pow h (Nat.lt_trans b.isLt (by decide))) fun _ hc _ _ => crc32Bit_lt hc

theorem crc32c_lt (l : List Byte) : crc32c l < 2 ^ 32 := by
  have hfold : l.foldl crc32Byte 0xFFFFFFFF < 2 ^ 32 :=
    List.foldlRecOn (motive := fun c => c < 2 ^ 32) l crc32Byte (by decide) fun _ hc b _ => crc32Byte_lt b hc
  exact Nat.xor_lt_two_pow hfold (by decide)

/-! ### A record -/

/-- 28 bytes followed by their check word pass the check of the scan. -/
theorem flValid_append_crc {b : List Byte} (h : b.length = 28) : flValid (b ++ leBytes 4 (crc32c b)) = true := by
  have htake : (b ++ leBytes 4 (crc32c b)).take 28 = b := by rw [← h, List.take_left]
  have hdrop : (b ++ leBytes 4 (crc32c b)).drop 28 = leBytes 4 (crc32c b) := by rw [← h, List.drop_left]
  rw [flValid, htake, hdrop, leNat_leBytes 4 (crc32c_lt b), List.length_append, h, length_leBytes]
  simp

theorem State.flBytes_valid (s : State) (r : FlRec) : flValid (s.flBytes r) = true :=
  flValid_append_crc (by simp [length_leBytes])

/-! ### A record that reads back wrong -/

/-- A failed program: the position moves on over what it left, and the failure counts. -/
def State.flFailed (s : State) : State :=
  ((s.flGarbage.2.flAdvance s.flGarbage.1).modLt fun l => { l with fails := l.fails + 1 }).raise Ev.LT_FLERR axle 0

theorem State.flReadback_bad {s : State} {p : Nat} {r : FlRec} (h : s.lt.op = some (.program p r)) :
    s.flReadback false = s.flFailed.when (flFailStop ≤ s.flFailed.lt.fails) fun s =>
      (s.setFlag F.LT_FLSTAT_FLSTOP true).raise Ev.LT_FLSTOP axle 0 := by
  unfold State.flReadback
  rw [h]
  rfl

theorem State.flFailed_fails (s : State) : s.flFailed.lt.fails = s.lt.fails + 1 := rfl

theorem State.flFailed_reg (s : State) (a : Nat) : s.flFailed.reg a = s.reg a := rfl

/-- Settles O56: the check word of the first 28 bytes stands in the last four, and only the third failure in a row reaches `FLSTOP`. -/
theorem faultLogRecordsAreValid : Obligations.FaultLogRecordsAreValid := by
  unfold Obligations.FaultLogRecordsAreValid
  refine ⟨State.flBytes_valid, by decide, fun n hn => ?_, fun s p r hop => ?_⟩
  · rw [seqNext, if_neg (by simpa using Nat.ne_of_lt hn), Nat.mod_eq_of_lt (by omega)]
  · rw [State.flReadback_bad hop, State.flFailed_fails]
    rcases Nat.lt_or_ge (s.lt.fails + 1) flFailStop with hlt | hge
    · rw [State.when, decide_eq_false (Nat.not_le.2 hlt)]
      exact ⟨s.flFailed_fails, fun h => absurd hlt (Nat.not_lt.2 h), fun _ => State.flag_of_reg (s.flFailed_reg _)⟩
    · rw [State.when, decide_eq_true hge]
      exact ⟨s.flFailed_fails, fun _ => State.flag_setFlag_same s.flFailed F.LT_FLSTAT_FLSTOP true (by decide) (by decide),
        fun h => absurd h (Nat.not_lt.2 hge)⟩

end Sys2Proof.Machine
end

section
/-! O37: the held writes of a step of the safety controller (R291 to R294, log entry 68). -/

namespace Sys2Proof.Machine

theorem HeldWrite.passes_iff (w : HeldWrite) : w.passes = true ↔ w.lead = ~~~ w.echo := beq_iff_eq

/-- A run releases the lead form, and only when every held write passes. -/
theorem State.scRun_eq_some (s t : State) (k : ScTask) (f : List (Nat × Word)) :
    s.scRun k f = some t ↔ t = s.scLead k ∧ ∀ w ∈ s.scHeld (s.scLead k) k f, w.lead = ~~~ w.echo := by
  have hall : (s.scHeld (s.scLead k) k f).all HeldWrite.passes = true ↔ ∀ w ∈ s.scHeld (s.scLead k) k f, w.lead = ~~~ w.echo :=
    List.all_eq_true.trans (forall₂_congr fun w _ => w.passes_iff)
  rw [← hall, State.scRun, Option.ite_none_right_eq_some, Option.some_inj, and_comm, eq_comm]

/-- Without a fault each Echo word is the complement of its lead word. -/
theorem State.scHeld_nil_passes (s t : State) (k : ScTask) : ∀ w ∈ s.scHeld t k [], w.lead = ~~~ w.echo := by
  intro w hw
  obtain ⟨p, -, rfl⟩ := List.mem_map.1 hw
  show p.1.2.2 = ~~~ (~~~ p.1.2.2 ^^^ 0)
  exact ((congrArg (~~~ ·) BitVec.xor_zero).trans BitVec.not_not).symm

theorem State.scTask_of_released {s t : State} {k : ScTask} {f1 : List (Nat × Word)} (h : s.scRun k f1 = some t) (f2 : List (Nat × Word)) :
    s.scTask k f1 f2 = t := by
  rw [State.scTask, h]

theorem State.scTask_of_failed {s : State} {k : ScTask} {f1 f2 : List (Nat × Word)} (h1 : s.scRun k f1 = none)
    (h2 : s.scMis.scRun k f2 = none) : s.scTask k f1 f2 = s.scMis.scFails := by
  rw [State.scTask, h1]
  dsimp only
  rw [h2]

/-- Settles O37: a run answers its lead form exactly when all held writes pass, as they do where no bit of an Echo word turns over. -/
theorem heldWritesAreReleasedTogether : Obligations.HeldWritesAreReleasedTogether := by
  unfold Obligations.HeldWritesAreReleasedTogether
  exact fun s k f1 f2 => ⟨State.scTask_of_released ((s.scRun_eq_some _ k []).2 ⟨rfl, s.scHeld_nil_passes _ k⟩) f2,
    fun t => s.scRun_eq_some t k f1, State.scTask_of_failed⟩

end Sys2Proof.Machine
end

section
/-! O54: the internal STO request with the gate of the PG channels (R338, R644), and the STO wires (R645, R646, R659). -/

namespace Sys2Proof.Machine

/-! ### The STO gate changes no register but those of the channels -/

theorem State.pgDrive_pinsTo (s : State) (c : Nat) (low : Bool) (t : Nat) : s.PinsTo c (s.pgDrive c low t) := by
  have hpend (b : Bool) (f : PgOut → PgOut) : s.PinsTo c ((s.setFlag (pendF c low) b).modOut c low f) := by
    rw [pendF_eq]
    exact (s.setFlag_pinsTo c (pendBit_lt low) b).trans (State.modOut_pinsTo _ c low f c)
  unfold State.pgDrive
  dsimp only
  split
  · split
    · exact s.pinOff_pinsTo c low t
    · exact hpend false _
  · split
    · exact .refl c s
    · exact hpend true _

theorem State.pgApply_pinsTo (s : State) (c : Nat) : s.PinsTo c (s.pgApply c) := by
  unfold State.pgApply State.pgApplyAt
  split <;> exact (s.pgDrive_pinsTo c _ _).trans (State.pgDrive_pinsTo _ c _ _)

/-- From `s` to `t` the STO gate follows: the status of PG channels changes, and what follows the edges of their pins. -/
structure State.GatesTo (s t : State) : Prop where
  mem : t.mem = s.mem
  reg : ∀ a, (∀ c, a ≠ Reg.PG_STAT c) → t.reg a = s.reg a

theorem State.GatesTo.trans {s t u : State} (h : s.GatesTo t) (h' : t.GatesTo u) : s.GatesTo u :=
  ⟨h'.mem.trans h.mem, fun a ha => (h'.reg a ha).trans (h.reg a ha)⟩

theorem State.PinsTo.gatesTo {c : Nat} {s t : State} (h : s.PinsTo c t) : s.GatesTo t :=
  ⟨by rw [h.frame], fun a ha => h.reg a (ha c)⟩

theorem State.setStog_gatesTo (s : State) (c : Nat) (b : Bool) : s.GatesTo (s.setFlag (F.PG_STAT_STOG c) b) :=
  ⟨State.setFlag_mem .., fun _ ha => State.reg_setFlag_ne s _ b (ha c)⟩

theorem State.stoGate_gatesTo (s : State) (on : Bool) : (s.setFlag F.PG_STOSTAT_STOREQ on).GatesTo (s.stoGate on) :=
  State.each_keeps (State.GatesTo _) _ _ (fun t c _ ht => ht.trans ((t.setStog_gatesTo c on).trans (State.pgApply_pinsTo _ c).gatesTo)) _
    ⟨rfl, fun _ _ => rfl⟩

theorem stostat_ne_pgStat (c : Nat) : Reg.PG_STOSTAT ≠ Reg.PG_STAT c := by
  unfold Reg.PG_STOSTAT Reg.PG_STAT
  omega

theorem sto_ne_pgStat (c : Nat) : Reg.SF_STO ≠ Reg.PG_STAT c := by
  unfold Reg.SF_STO Reg.PG_STAT
  omega

theorem State.stoGate_storeq (s : State) (on : Bool) : (s.stoGate on).flag F.PG_STOSTAT_STOREQ = on :=
  (State.flag_of_reg ((s.stoGate_gatesTo on).reg Reg.PG_STOSTAT stostat_ne_pgStat)).trans
    (State.flag_setFlag_same s F.PG_STOSTAT_STOREQ on (by decide) (by decide))

theorem State.stoGate_flag_sto (s : State) (on : Bool) {f : Fld} (hf : f.addr = Reg.SF_STO) : (s.stoGate on).flag f = s.flag f := by
  refine State.flag_of_reg ?_
  rw [hf]
  exact ((s.stoGate_gatesTo on).reg Reg.SF_STO sto_ne_pgStat).trans (State.reg_setFlag_ne s F.PG_STOSTAT_STOREQ on (by decide))

theorem State.stoGate_mem (s : State) (on : Bool) : (s.stoGate on).mem = s.mem := (s.stoGate_gatesTo on).mem.trans (State.setFlag_mem ..)

/-! ### The request -/

/-- The two sources that the logic copies into `SF_STO`. -/
def State.stoSources (s : State) : State := (s.setFlag F.SF_STO_SRCP (s.fnDemands fnSto)).setFlag F.SF_STO_SRCC (s.flag F.SF_CTL_SCREQ)

/-- The internal STO request (R644). -/
def State.stoReq (s : State) : Bool := s.flag F.SF_STO_SRCP || s.flag F.SF_STO_SRCS || s.flag F.SF_STO_SRCL || s.flag F.SF_STO_SRCC

/-- The request becomes `req`, with the cycle in which it began. -/
def State.stoRequest (s : State) (req : Bool) : State :=
  (s.when (req && !s.flag F.SF_STO_REQ) (·.modSf fun f => { f with stoAt := s.now })).setFlag F.SF_STO_REQ req

/-- The gate follows the request. -/
def State.gateFollow (s : State) (req : Bool) : State := if s.flag F.PG_STOSTAT_STOREQ == req then s else s.stoGate req

theorem State.stoFollow_eq (s : State) : s.stoFollow = (s.stoSources.stoRequest s.stoSources.stoReq).gateFollow s.stoSources.stoReq := rfl

theorem State.stoSources_srcp (s : State) : s.stoSources.flag F.SF_STO_SRCP = s.fnDemands fnSto :=
  (State.flag_setFlag_disjoint _ F.SF_STO_SRCC F.SF_STO_SRCP _ (by decide) (by decide)).trans
    (State.flag_setFlag_same s F.SF_STO_SRCP _ (by decide) (by decide))

theorem State.stoSources_srcc (s : State) : s.stoSources.flag F.SF_STO_SRCC = s.flag F.SF_CTL_SCREQ :=
  State.flag_setFlag_same _ F.SF_STO_SRCC _ (by decide) (by decide)

theorem State.stoSources_srcs (s : State) : s.stoSources.flag F.SF_STO_SRCS = s.flag F.SF_STO_SRCS :=
  (State.flag_setFlag_disjoint _ F.SF_STO_SRCC F.SF_STO_SRCS _ (by decide) (by decide)).trans
    (State.flag_setFlag_disjoint s F.SF_STO_SRCP F.SF_STO_SRCS _ (by decide) (by decide))

theorem State.stoSources_srcl (s : State) : s.stoSources.flag F.SF_STO_SRCL = s.flag F.SF_STO_SRCL :=
  (State.flag_setFlag_disjoint _ F.SF_STO_SRCC F.SF_STO_SRCL _ (by decide) (by decide)).trans
    (State.flag_setFlag_disjoint s F.SF_STO_SRCP F.SF_STO_SRCL _ (by decide) (by decide))

theorem State.stoSources_mem (s : State) : s.stoSources.mem = s.mem := (State.setFlag_mem ..).trans (State.setFlag_mem ..)

theorem State.stoReq_stoSources (s : State) :
    s.stoSources.stoReq = (s.fnDemands fnSto || s.flag F.SF_STO_SRCS || s.flag F.SF_STO_SRCL || s.flag F.SF_CTL_SCREQ) := by
  rw [State.stoReq, s.stoSources_srcp, s.stoSources_srcs, s.stoSources_srcl, s.stoSources_srcc]

theorem State.stoRequest_req (s : State) (req : Bool) : (s.stoRequest req).flag F.SF_STO_REQ = req :=
  State.flag_setFlag_same _ F.SF_STO_REQ req (by decide) (by decide)

theorem State.stoRequest_flag (s : State) (req : Bool) {f : Fld} (hf : f.lsb + f.width ≤ F.SF_STO_REQ.lsb) :
    (s.stoRequest req).flag f = s.flag f := by
  refine (State.flag_setFlag_disjoint _ F.SF_STO_REQ f req (by decide) (Or.inl hf)).trans ?_
  exact State.when_keeps (fun t => t.flag f = s.flag f) s _ _ rfl fun h => h

theorem State.stoRequest_mem (s : State) (req : Bool) : (s.stoRequest req).mem = s.mem :=
  (State.setFlag_mem ..).trans (State.when_keeps (fun t => t.mem = s.mem) s _ _ rfl fun h => h)

theorem State.gateFollow_storeq (s : State) (req : Bool) : (s.gateFollow req).flag F.PG_STOSTAT_STOREQ = req := by
  unfold State.gateFollow
  split
  next h => exact beq_iff_eq.1 h
  next => exact s.stoGate_storeq req

theorem State.gateFollow_flag_sto (s : State) (req : Bool) {f : Fld} (hf : f.addr = Reg.SF_STO) : (s.gateFollow req).flag f = s.flag f := by
  unfold State.gateFollow
  split
  · rfl
  · exact s.stoGate_flag_sto req hf

theorem State.gateFollow_mem (s : State) (req : Bool) : (s.gateFollow req).mem = s.mem := by
  unfold State.gateFollow
  split
  · rfl
  · exact s.stoGate_mem req

/-! ### The wires -/

/-- The wires are driven to `a` and `b`, and their readbacks go with them. -/
def State.wiresTo (s : State) (a b : Bool) : State :=
  ((((s.setFlag F.SF_STO_WA a).setFlag F.SF_STO_WB b).modSf fun f => { f with wireAt := s.now }).setFlag F.SF_STO_RBA a).setFlag F.SF_STO_RBB b

/-- The drive of a wire: the condition of R645, but for its part of the start-up test. -/
def State.wireDrive (s : State) (b : Bool) : Bool := s.wiresWanted && !s.wireTested b

theorem State.wiresFollow_eq (s : State) : s.wiresFollow =
    if s.flag F.SF_STO_WA == s.wireDrive false && s.flag F.SF_STO_WB == s.wireDrive true then s
    else s.wiresTo (s.wireDrive false) (s.wireDrive true) := rfl

theorem State.wiresTo_wa (s : State) (a b : Bool) : (s.wiresTo a b).flag F.SF_STO_WA = a :=
  (State.flag_setFlag_disjoint _ F.SF_STO_RBB F.SF_STO_WA b (by decide) (by decide)).trans <|
    (State.flag_setFlag_disjoint _ F.SF_STO_RBA F.SF_STO_WA a (by decide) (by decide)).trans <|
      (State.flag_setFlag_disjoint (s.setFlag F.SF_STO_WA a) F.SF_STO_WB F.SF_STO_WA b (by decide) (by decide)).trans <|
        State.flag_setFlag_same s F.SF_STO_WA a (by decide) (by decide)

theorem State.wiresTo_wb (s : State) (a b : Bool) : (s.wiresTo a b).flag F.SF_STO_WB = b :=
  (State.flag_setFlag_disjoint _ F.SF_STO_RBB F.SF_STO_WB b (by decide) (by decide)).trans <|
    (State.flag_setFlag_disjoint _ F.SF_STO_RBA F.SF_STO_WB a (by decide) (by decide)).trans <|
      State.flag_setFlag_same (s.setFlag F.SF_STO_WA a) F.SF_STO_WB b (by decide) (by decide)

theorem State.wiresTo_mem (s : State) (a b : Bool) : (s.wiresTo a b).mem = s.mem :=
  (State.setFlag_mem ..).trans ((State.setFlag_mem ..).trans
    ((State.setFlag_mem (s.setFlag F.SF_STO_WA a) F.SF_STO_WB b).trans (State.setFlag_mem ..)))

/-- After the wires have followed each is at its drive. -/
theorem State.wiresFollow_drives (s : State) : s.wiresFollow.flag F.SF_STO_WA = s.wireDrive false ∧
    s.wiresFollow.flag F.SF_STO_WB = s.wireDrive true ∧ s.wiresFollow.mem = s.mem := by
  rw [s.wiresFollow_eq]
  split
  next h =>
    obtain ⟨ha, hb⟩ := (Bool.and_eq_true _ _).mp h
    exact ⟨beq_iff_eq.1 ha, beq_iff_eq.1 hb, rfl⟩
  next => exact ⟨s.wiresTo_wa _ _, s.wiresTo_wb _ _, s.wiresTo_mem _ _⟩

/-- The condition of R645 where no wire fault is latched. -/
theorem State.wiresWanted_iff {s : State} (h : s.sf.wireBad = false) : s.wiresWanted = true ↔
    s.flag F.SF_STO_REQ = true ∨ s.sys = sysReset ∨ s.sys = sysLoad ∨ s.sys = sysTest ∨ s.sys = sysDefaults ∨
      (s.sys = sysAxleSafe ∧ s.fld (F.safeCmd 0) < 2 ∧ s.fld (F.safeCmd 1) < 2) := by
  simp only [State.wiresWanted, h, Bool.false_or, Bool.or_eq_true, beq_iff_eq, Bool.and_eq_true, List.all_cons, List.all_nil, decide_eq_true_eq,
    Bool.and_true, or_assoc]

/-- Outside the start-up test each wire is driven by the condition alone. -/
theorem State.wireDrive_of_idle {s : State} (h : s.ioRun = none) (b : Bool) : s.wireDrive b = s.wiresWanted := by
  rw [State.wireDrive, State.wireTested, h, Bool.not_false, Bool.and_true]

/-- The start-up test runs in TEST only, where the condition asserts both wires. -/
theorem State.wiresWanted_of_ioRun {s : State} {e : Nat} (h : s.ioRun = some e) : s.wiresWanted = true := by
  unfold State.ioRun at h
  split at h
  next hrun =>
    simp only [Bool.and_eq_true] at hrun
    obtain ⟨⟨htest, -⟩, -⟩ := hrun
    simp only [State.wiresWanted, htest, Bool.or_true, Bool.true_or]
  next => exact absurd h (by simp)

/-- In the start-up test a wire is driven outside its own 10 µs. -/
theorem State.wireDrive_of_ioRun {s : State} {e : Nat} (hbad : s.sf.wireBad = false) (h : s.ioRun = some e) :
    (s.wireDrive false = true ↔ 4000 ≤ e) ∧ (s.wireDrive true = true ↔ e < 4000 ∨ 8000 ≤ e) := by
  have hfirst : wireTest = 4000 := rfl
  have hsecond : outTest = 8000 := rfl
  simp only [State.wireDrive, State.wireTested, h, State.wiresWanted_of_ioRun h, hbad, hfirst, hsecond, Bool.true_and, Bool.not_false,
    Bool.not_eq_true', Bool.false_eq_true, if_false, if_true, decide_eq_false_iff_not]
  omega

/-! ### The obligation -/

/-- Settles O54: the gate changes no register of the STO logic, and each wire takes its drive. -/
theorem stoRequestAndWiresFollow : Obligations.StoRequestAndWiresFollow := by
  unfold Obligations.StoRequestAndWiresFollow
  refine ⟨fun s => ?_, fun s hbad => ?_⟩
  · have hcopied {f : Fld} (ha : f.addr = Reg.SF_STO) (hf : f.lsb + f.width ≤ F.SF_STO_REQ.lsb) : s.stoFollow.flag f = s.stoSources.flag f := by
      rw [s.stoFollow_eq, State.gateFollow_flag_sto _ _ ha, State.stoRequest_flag _ _ hf]
    dsimp only
    rw [← s.stoReq_stoSources, hcopied (f := F.SF_STO_SRCP) rfl (by decide), hcopied (f := F.SF_STO_SRCC) rfl (by decide), s.stoFollow_eq]
    exact ⟨(State.gateFollow_flag_sto _ _ rfl).trans (State.stoRequest_req _ _), State.gateFollow_storeq _ _,
      s.stoSources_srcp, s.stoSources_srcc, (State.gateFollow_mem _ _).trans ((State.stoRequest_mem _ _).trans s.stoSources_mem)⟩
  · obtain ⟨ha, hb, hmem⟩ := s.wiresFollow_drives
    dsimp only
    rw [ha, hb]
    refine ⟨fun h => ?_, fun e h => State.wireDrive_of_ioRun hbad h, hmem⟩
    rw [State.wireDrive_of_idle h, State.wireDrive_of_idle h]
    exact ⟨State.wiresWanted_iff hbad, State.wiresWanted_iff hbad⟩

end Sys2Proof.Machine
end
